-- ==== Sys2Proof/Word.lean ====
section
/-! DEFINITION. The bytes of the three links, and the one rounding the spec uses.
-/

namespace Sys2Proof

/-- One byte of a link, or one darkness sample (0..255). -/
abbrev Byte := BitVec 8

/-- `n` divided by `d`, rounded up to the next whole number (the spec's ⌈ ⌉). -/
def ceilDiv (n d : Nat) : Nat := (n + (d - 1)) / d

end Sys2Proof
end

