-- ==== Sys2Proof/Config.lean ====
section
/-! DEFINITION. The sizes and fixed codes of the part, each with the rule that states it. The spec leaves no value of an
ordinary result open, so this file holds no free value.
-/

namespace Sys2Proof.Config

/-- Candidate records, seat numbers and Response Store indices (R1, R26, R178). -/
abbrev indexCount : Nat := 512
/-- Paper slots (R15). -/
abbrev slotCount : Nat := 8
/-- The largest hall time (R67). -/
abbrev maxTime : Nat := 16777215
/-- Places in the Notice Queue (R191). -/
abbrev noticeCapacity : Nat := 64
/-- Records that may have WATCH set at once (R13). -/
abbrev watchCapacity : Nat := 16
/-- The longest walk, in positions (R39). -/
abbrev maxWalk : Nat := 4096
/-- Places in the Sample FIFO (R147). -/
abbrev fifoCapacity : Nat := 1024
/-- Samples in one sheet buffer (R137). -/
abbrev bufferSize : Nat := 8192
/-- Entries of the Sheet Record table (R143). -/
abbrev sheetRecords : Nat := 4
/-- The longest hold that is counted (R69). -/
abbrev maxHold : Nat := 7200
/-- The longest absence that is counted (R90). -/
abbrev maxAway : Nat := 1800
/-- The longest time a target timer counts (R120). -/
abbrev maxTimeout : Nat := 600
/-- The most a seat's miss count counts (R97). -/
abbrev maxMisses : Nat := 255
/-- Messages in the transmit queue at which a DIVERT for a sheet without a record is no longer made (R140). -/
abbrev divertRoom : Nat := 10
/-- Misses in a row at which an ENABLED seat is reported (R103). -/
abbrev faultMisses : Nat := 3
/-- The vendor code of IDENTIFY (R194), sent in 2 bytes (log 62). -/
abbrev vendorCode : Nat := 0x564B
/-- The part code of IDENTIFY (R194), sent in 2 bytes (log 62). -/
abbrev partCode : Nat := 0x0512
/-- The revision of IDENTIFY and CONTROLLER_START (R185, R194), sent in 1 byte (log 62). -/
abbrev revision : Nat := 3
/-- The two-byte code of an absent index, seat or position (R198). -/
abbrev absent16 : Nat := 0xFFFF
/-- The one-byte code of no slot, of ALL in a selector, and of an absent enumeration (R198). -/
abbrev absent8 : Nat := 0xFF
/-- What a sample of a sheet buffer reads as before anything has written it. DESIGN CHOICE (log 19), unsafe; no rule
reads such a sample (R46, R148). -/
abbrev blankSample : Byte := 0

end Sys2Proof.Config
end

