-- ==== Sys2Proof/Syntax.lean ====
section
/-! DEFINITION. The commands the controller takes: one constructor of `Instr` for each row of spec/opcode_table.json, and
the requests of the host link with the fields of their bodies (R199) as they stand on the wire.
-/

namespace Sys2Proof

/-- A seat walk descriptor as its 12 bytes carry it (R198): nothing is checked yet. -/
structure SeatWalkArgs where
  startRow : Nat
  startCol : Nat
  eRow : Int
  eCol : Int
  o1Row : Int
  o1Col : Int
  o2Row : Int
  o2Col : Int
  countL : Nat
  countM : Nat
  countH : Nat
  alternate : Nat
  deriving DecidableEq, Repr

/-- The body of HALL_CONFIG (R199). -/
structure HallConfigArgs where
  rows : Nat
  cols : Nat
  presentPolarity : Nat
  presentDebounce : Nat
  donePolarity : Nat
  doneDebounce : Nat
  callPolarity : Nat
  callDebounce : Nat
  keyPolarity : Nat
  keyDebounce : Nat
  callSense : Nat
  awayLimit : Nat
  holdLimit : Nat
  deriving DecidableEq, Repr

/-- The definition group of PAPER_DEFINE in its 42-byte form (R201). The eight characters of the code stand in order. -/
structure PaperArgs where
  code : List Byte
  reading : Nat
  writing : Nat
  lateCutoff : Nat
  noLeaveFirst : Nat
  noLeaveLast : Nat
  warnA : Nat
  warnB : Nat
  separation : Nat
  collectTimeout : Nat
  startPresent : Nat
  start : Nat
  walkPresent : Nat
  walk : SeatWalkArgs
  deriving DecidableEq, Repr

/-- A block walk as a format carries it in 6 bytes (R198). -/
structure BlockWalkArgs where
  start : Nat
  o1 : Int
  o2 : Int
  deriving DecidableEq, Repr

/-- An answer block as FORMAT_LOAD carries it in 9 bytes (R199). -/
structure AnswerBlockArgs where
  first : Nat
  count : Nat
  options : Nat
  walk : BlockWalkArgs
  deriving DecidableEq, Repr

/-- The body of FORMAT_LOAD after its slot (R199). Channel `k` is bit `k` of the mask. -/
structure FormatArgs where
  mask : BitVec 48
  subSamples : Nat
  rows : Nat
  refRow : Nat
  tBlank : Nat
  tMark : Nat
  margin : Nat
  faintPolicy : Nat
  multiPolicy : Nat
  sectionFloor : Nat
  paperFloor : Int
  idBlock : BlockWalkArgs
  blocks : List AnswerBlockArgs
  deriving DecidableEq, Repr

/-- One entry of KEY_LOAD in 4 bytes (R199): option `k` is bit `k` of the key set (R198). -/
structure KeyEntryArgs where
  keySet : Byte
  weight : Nat
  penalty : Nat
  sect : Nat
  deriving DecidableEq, Repr

/-- A request of the host link with the arguments its body carries (R199). Enumerations stand as their byte codes, so
that an unlisted code reaches the owner's range check (R198). -/
inductive Request where
  | identify
  | status
  | sessionClear
  | timeSet (time : Nat)
  | hallConfig (a : HallConfigArgs)
  | seatDefine (seat action row col cls : Nat)
  | seatState (seat action : Nat)
  | seatRead (selector place mode : Nat)
  | paperDefine (slot : Nat) (a : PaperArgs)
  | paperRead (slot : Nat)
  | candAdd (number slot allowance needs restBudget seat : Nat)
  | candRemove (index : Nat)
  | candRead (selector value : Nat)
  | candWatch (index watch : Nat)
  | allocate (slot : Nat) (walk : SeatWalkArgs) (spill : Nat)
  | allocAbort
  | move (index seat : Nat)
  | unseat (index : Nat)
  | paperStart (slot : Nat)
  | paperAbandon (slot : Nat)
  | admitCand (index : Nat)
  | finish (index : Nat)
  | hold
  | resume
  | collectMark (index : Nat)
  | collectClose (slot : Nat)
  | collectionRead (selector start : Nat)
  | formatLoad (slot : Nat) (a : FormatArgs)
  | formatRead (slot : Nat)
  | keyLoad (slot first : Nat) (entries : List KeyEntryArgs)
  | keyRead (slot first count : Nat)
  | markBind (slot : Nat)
  | markUnbind
  | rescore (slot : Nat)
  | resultRead (index : Nat)
  | responsesRead (index : Nat)
  deriving DecidableEq, Repr

/-- The commands of the controller: the rows of spec/opcode_table.json in the table's order. A request row is the arrival
of a complete good frame that carries the request with the given tag (R188, log 8). -/
inductive Instr where
  /-- RESET (R185): the RESET pin is released or power comes on, with the straps at the given levels (R196). -/
  | reset (strap1 strap0 : Bool)
  /-- SECOND_EVENT (R67). -/
  | secondEvent
  /-- READING_END (R73): the second event at which the slot's reading time ends. -/
  | readingEnd (slot : Nat)
  /-- LATE_ENTRY_CLOSE (R74): the second event at which the slot's late entry closes. -/
  | lateEntryClose (slot : Nat)
  /-- BASE_END (R75): the second event that brings the slot's E_p to D. -/
  | baseEnd (slot : Nat)
  /-- LIMIT_REACHED (R81): the second event at which the candidate's used reaches its limit. -/
  | limitReached (index : Nat)
  /-- REST_BUDGET_EXHAUSTED (R89): the second event at which the candidate's rest used reaches its budget. -/
  | restBudgetExhausted (index : Nat)
  /-- AWAY_LONG (R90): the second event at which the candidate's absence is reported. -/
  | awayLong (index : Nat)
  /-- HOLD_EXPIRED (R96): the second event that expires the hold. -/
  | holdExpired
  /-- COLLECT_TIMEOUT_EXPIRY (R124): the second event that brings the slot's target timer to the collect timeout. -/
  | collectTimeoutExpiry (slot : Nat)
  /-- SCHEDULED_START (R72): the second event at which the slot's scheduled start is taken. -/
  | scheduledStart (slot : Nat)
  /-- HOLD_LINE_ASSERTED (R93): the HOLD line has been asserted for 50 ms. -/
  | holdLineAsserted
  /-- HOLD_LINE_RELEASED (R93): the HOLD line has been released for 50 ms. -/
  | holdLineReleased
  /-- HOST_FRAME_RECEIVED (R188): the bytes arrive on the host link, without a gap. -/
  | hostFrameReceived (bytes : List Byte)
  /-- HOST_GAP_TIMEOUT (R186): the bytes arrive, and then more than 20 ms pass. -/
  | hostGapTimeout (bytes : List Byte)
  /-- REPLY_SENT (R188): the last byte of the reply has been sent. -/
  | replySent
  /-- NOTICE_SENT (R191): a notice frame has been sent whole. -/
  | noticeSent
  | identify (tag : Nat)
  | status (tag : Nat)
  | sessionClear (tag : Nat)
  | timeSet (tag time : Nat)
  | hallConfig (tag : Nat) (a : HallConfigArgs)
  | seatDefineDefine (tag seat row col cls : Nat)
  | seatDefineRemove (tag seat : Nat)
  | seatStateEnable (tag seat : Nat)
  | seatStateDisable (tag seat : Nat)
  | seatStateClear (tag seat : Nat)
  | seatRead (tag selector place mode : Nat)
  | paperDefine (tag slot : Nat) (a : PaperArgs)
  | paperRead (tag slot : Nat)
  | candAdd (tag number slot allowance needs restBudget seat : Nat)
  | candRemove (tag index : Nat)
  | candRead (tag selector value : Nat)
  | candWatch (tag index watch : Nat)
  | allocate (tag slot : Nat) (walk : SeatWalkArgs) (spill : Nat)
  /-- ALLOC_ADVANCE (R51): the running job takes one advance of its walk. -/
  | allocAdvance
  | allocAbort (tag : Nat)
  | move (tag index seat : Nat)
  | unseat (tag index : Nat)
  | paperStart (tag slot : Nat)
  | paperAbandon (tag slot : Nat)
  | admitCand (tag index : Nat)
  | finish (tag index : Nat)
  | hold (tag : Nat)
  | resume (tag : Nat)
  | collectMark (tag index : Nat)
  | collectClose (tag slot : Nat)
  | collectionRead (tag selector start : Nat)
  | formatLoad (tag slot : Nat) (a : FormatArgs)
  | formatRead (tag slot : Nat)
  | keyLoad (tag slot first : Nat) (entries : List KeyEntryArgs)
  | keyRead (tag slot first count : Nat)
  | markBind (tag slot : Nat)
  | markUnbind (tag : Nat)
  | rescore (tag slot : Nat)
  /-- RESCORE_STEP (R182): the rescore recomputes the next MARKED candidate. -/
  | rescoreStep
  | resultRead (tag index : Nat)
  | responsesRead (tag index : Nat)
  /-- SEAT_POLL (R101): the poll of the next seat of the pass is sent. -/
  | seatPoll
  /-- CLOSING_POLL (R98): the next closing poll is sent. -/
  | closingPoll
  /-- GOOD_REPLY (R105): three bytes arrive within the open reply window (R100, R102). -/
  | goodReply (b0 b1 b2 : Byte)
  /-- MISSED_REPLY (R103): the reply window ends without a good reply. -/
  | missedReply
  /-- READER_FRAME_RECEIVED (R139): the bytes arrive on the reader link, without a gap. -/
  | readerFrameReceived (bytes : List Byte)
  /-- READER_GAP_TIMEOUT (R139): the bytes arrive, and then more than 1 ms passes. -/
  | readerGapTimeout (bytes : List Byte)
  /-- SHEET_BEGIN (R146): a good frame of that kind is taken, as in the eight rows after it. -/
  | sheetBegin (tag : Nat)
  | row (tag rowIndex : Nat) (samples : List Byte)
  | sheetEnd (tag rowCount : Nat)
  /-- SHEET_STORED (R150): the last sample of an ended sheet has been moved into its buffer. -/
  | sheetStored
  | atGate (tag : Nat)
  | stacked (tag stacker : Nat)
  | jam (tags : List Nat)
  | readerReady
  | readerReset
  /-- DIVERT_SENT (R152), GEOMETRY_SENT (R141), FEED_SENT (R142): the message at the front has left the controller. -/
  | divertSent
  | geometrySent
  | feedSent
  /-- MARKER_TAKE (R151): the IDLE marker takes a STORED sheet. -/
  | markerTake
  /-- MARKING_END (R172): the marker has read the sheet in hand. -/
  | markingEnd
  /-- HOST_FRAME_DISCARDED (R186): the bytes arrive, the last one followed, if `badStop`, by a byte with a bad stop bit. -/
  | hostFrameDiscarded (bytes : List Byte) (badStop : Bool)
  /-- READER_LENGTH_ABOVE_200 (R139): start byte, kind, tag and a length byte arrive. -/
  | readerLengthAbove200 (kind tag length : Byte)
  /-- RESET_ASSERTED (R196): the RESET pin is driven low. -/
  | resetAsserted
  deriving DecidableEq, Repr

end Sys2Proof
end

