-- ==== Sys2Proof/WellFormed.lean ====
section
/-! DEFINITION. Which commands a wire can carry: every operand fits the field that R197 to R199 (host link), R138 (reader
link) or the record numbering (R1, R15) give it. `exec` answers on the others too; they stand for nothing that can arrive.
-/

namespace Sys2Proof

/-- The value fits one byte. -/
abbrev fits8 (n : Nat) : Bool := n < 256
/-- The value fits two bytes. -/
abbrev fits16 (n : Nat) : Bool := n < 65536
/-- The value fits three bytes. -/
abbrev fits24 (n : Nat) : Bool := n < 16777216
/-- The value fits one byte in two's complement. -/
abbrev fitsS8 (n : Int) : Bool := -128 ≤ n && n < 128
/-- The value fits two bytes in two's complement. -/
abbrev fitsS16 (n : Int) : Bool := -32768 ≤ n && n < 32768

/-- The 12 bytes of a seat walk descriptor can carry the fields (R198). -/
def SeatWalkArgs.wellFormed (w : SeatWalkArgs) : Bool :=
  fits8 w.startRow && fits8 w.startCol && fitsS8 w.eRow && fitsS8 w.eCol && fitsS8 w.o1Row && fitsS8 w.o1Col &&
  fitsS8 w.o2Row && fitsS8 w.o2Col && fits8 w.countL && fits8 w.countM && fits8 w.countH && fits8 w.alternate

/-- The 15 bytes of HALL_CONFIG can carry the fields (R199). -/
def HallConfigArgs.wellFormed (a : HallConfigArgs) : Bool :=
  fits8 a.rows && fits8 a.cols && fits8 a.presentPolarity && fits8 a.presentDebounce && fits8 a.donePolarity &&
  fits8 a.doneDebounce && fits8 a.callPolarity && fits8 a.callDebounce && fits8 a.keyPolarity && fits8 a.keyDebounce &&
  fits8 a.callSense && fits16 a.awayLimit && fits16 a.holdLimit

/-- The 42 bytes of the definition group can carry the fields (R201). -/
def PaperArgs.wellFormed (a : PaperArgs) : Bool :=
  a.code.length == 8 && fits16 a.reading && fits16 a.writing && fits16 a.lateCutoff && fits16 a.noLeaveFirst &&
  fits16 a.noLeaveLast && fits16 a.warnA && fits16 a.warnB && fits8 a.separation && fits16 a.collectTimeout &&
  fits8 a.startPresent && fits24 a.start && fits8 a.walkPresent && a.walk.wellFormed

/-- The 6 bytes of a block walk can carry the fields (R198). -/
def BlockWalkArgs.wellFormed (w : BlockWalkArgs) : Bool := fits16 w.start && fitsS16 w.o1 && fitsS16 w.o2

/-- The 9 bytes of an answer block can carry the fields (R199). -/
def AnswerBlockArgs.wellFormed (b : AnswerBlockArgs) : Bool :=
  fits8 b.first && fits8 b.count && fits8 b.options && b.walk.wellFormed

/-- The body of FORMAT_LOAD can carry the fields (R199), within the 508 bytes of a body (R186). -/
def FormatArgs.wellFormed (a : FormatArgs) : Bool :=
  fits8 a.subSamples && fits8 a.rows && fits8 a.refRow && fits8 a.tBlank && fits8 a.tMark && fits8 a.margin &&
  fits8 a.faintPolicy && fits8 a.multiPolicy && fits8 a.sectionFloor && fitsS16 a.paperFloor && a.idBlock.wellFormed &&
  decide (25 + 9 * a.blocks.length ≤ 508) && a.blocks.all AnswerBlockArgs.wellFormed

/-- The 4 bytes of a key entry can carry the fields (R199). -/
def KeyEntryArgs.wellFormed (e : KeyEntryArgs) : Bool := fits8 e.weight && fits8 e.penalty && fits8 e.sect

/-- The body of the request can carry its arguments (R199). -/
def Request.wellFormed : Request → Bool
  | .identify | .status | .sessionClear | .allocAbort | .hold | .resume | .markUnbind => true
  | .timeSet t => fits24 t
  | .hallConfig a => a.wellFormed
  | .seatDefine seat action row col cls => fits16 seat && fits8 action && fits8 row && fits8 col && fits8 cls
  | .seatState seat action => fits16 seat && fits8 action
  | .seatRead selector place mode => fits8 selector && fits16 place && fits8 mode
  | .paperDefine slot a => fits8 slot && a.wellFormed
  | .paperRead slot => fits8 slot
  | .candAdd number slot allowance needs restBudget seat =>
    fits24 number && fits8 slot && fits8 allowance && fits8 needs && fits16 restBudget && fits16 seat
  | .candRemove index => fits16 index
  | .candRead selector value => fits8 selector && fits24 value
  | .candWatch index watch => fits16 index && fits8 watch
  | .allocate slot walk spill => fits8 slot && walk.wellFormed && fits8 spill
  | .move index seat => fits16 index && fits16 seat
  | .unseat index => fits16 index
  | .paperStart slot => fits8 slot
  | .paperAbandon slot => fits8 slot
  | .admitCand index => fits16 index
  | .finish index => fits16 index
  | .collectMark index => fits16 index
  | .collectClose slot => fits8 slot
  | .collectionRead selector start => fits8 selector && fits16 start
  | .formatLoad slot a => fits8 slot && a.wellFormed
  | .formatRead slot => fits8 slot
  | .keyLoad slot first entries =>
    fits8 slot && fits8 first && decide (3 + 4 * entries.length ≤ 508) && entries.all KeyEntryArgs.wellFormed
  | .keyRead slot first count => fits8 slot && fits8 first && fits8 count
  | .markBind slot => fits8 slot
  | .rescore slot => fits8 slot
  | .resultRead index => fits16 index
  | .responsesRead index => fits16 index

/-- The request a request row carries, with its tag; none for the other rows. -/
def Instr.request? : Instr → Option (Nat × Request)
  | .identify tag => some (tag, .identify)
  | .status tag => some (tag, .status)
  | .sessionClear tag => some (tag, .sessionClear)
  | .timeSet tag time => some (tag, .timeSet time)
  | .hallConfig tag a => some (tag, .hallConfig a)
  | .seatDefineDefine tag seat r c cls => some (tag, .seatDefine seat 0 r c cls)
  | .seatDefineRemove tag seat => some (tag, .seatDefine seat 1 0 0 0)
  | .seatStateEnable tag seat => some (tag, .seatState seat 0)
  | .seatStateDisable tag seat => some (tag, .seatState seat 1)
  | .seatStateClear tag seat => some (tag, .seatState seat 2)
  | .seatRead tag selector place mode => some (tag, .seatRead selector place mode)
  | .paperDefine tag slot a => some (tag, .paperDefine slot a)
  | .paperRead tag slot => some (tag, .paperRead slot)
  | .candAdd tag number slot allowance needs restBudget seat =>
    some (tag, .candAdd number slot allowance needs restBudget seat)
  | .candRemove tag index => some (tag, .candRemove index)
  | .candRead tag selector value => some (tag, .candRead selector value)
  | .candWatch tag index watch => some (tag, .candWatch index watch)
  | .allocate tag slot walk spill => some (tag, .allocate slot walk spill)
  | .allocAbort tag => some (tag, .allocAbort)
  | .move tag index seat => some (tag, .move index seat)
  | .unseat tag index => some (tag, .unseat index)
  | .paperStart tag slot => some (tag, .paperStart slot)
  | .paperAbandon tag slot => some (tag, .paperAbandon slot)
  | .admitCand tag index => some (tag, .admitCand index)
  | .finish tag index => some (tag, .finish index)
  | .hold tag => some (tag, .hold)
  | .resume tag => some (tag, .resume)
  | .collectMark tag index => some (tag, .collectMark index)
  | .collectClose tag slot => some (tag, .collectClose slot)
  | .collectionRead tag selector start => some (tag, .collectionRead selector start)
  | .formatLoad tag slot a => some (tag, .formatLoad slot a)
  | .formatRead tag slot => some (tag, .formatRead slot)
  | .keyLoad tag slot first entries => some (tag, .keyLoad slot first entries)
  | .keyRead tag slot first count => some (tag, .keyRead slot first count)
  | .markBind tag slot => some (tag, .markBind slot)
  | .markUnbind tag => some (tag, .markUnbind)
  | .rescore tag slot => some (tag, .rescore slot)
  | .resultRead tag index => some (tag, .resultRead index)
  | .responsesRead tag index => some (tag, .responsesRead index)
  | .reset _ _ | .secondEvent | .readingEnd _ | .lateEntryClose _ | .baseEnd _ | .limitReached _
  | .restBudgetExhausted _ | .awayLong _ | .holdExpired | .collectTimeoutExpiry _ | .scheduledStart _
  | .holdLineAsserted | .holdLineReleased | .hostFrameReceived _ | .hostGapTimeout _ | .replySent | .noticeSent
  | .allocAdvance | .rescoreStep | .seatPoll | .closingPoll | .goodReply _ _ _ | .missedReply
  | .readerFrameReceived _ | .readerGapTimeout _ | .sheetBegin _ | .row _ _ _ | .sheetEnd _ _ | .sheetStored
  | .atGate _ | .stacked _ _ | .jam _ | .readerReady | .readerReset | .divertSent | .geometrySent | .feedSent
  | .markerTake | .markingEnd | .hostFrameDiscarded _ _ | .readerLengthAbove200 _ _ _ | .resetAsserted => none

/-- A command the links, the pins or the time base can bring. -/
def Instr.wellFormed (i : Instr) : Bool :=
  match i with
  | .readingEnd slot | .lateEntryClose slot | .baseEnd slot | .collectTimeoutExpiry slot | .scheduledStart slot =>
    decide (slot < Config.slotCount)
  | .limitReached index | .restBudgetExhausted index | .awayLong index => decide (index < Config.indexCount)
  | .sheetBegin tag | .atGate tag => fits8 tag
  | .row tag rowIndex samples => fits8 tag && fits8 rowIndex && decide (samples.length ≤ 199)
  | .sheetEnd tag rowCount => fits8 tag && fits8 rowCount
  | .stacked tag stacker => fits8 tag && fits8 stacker
  | .jam tags => decide (tags.length ≤ 199) && tags.all fits8
  | .readerLengthAbove200 _ _ length => decide (200 < length.toNat)
  | i =>
    match i.request? with
    | some (tag, r) => fits8 tag && r.wellFormed
    | none => true

end Sys2Proof
end

