-- ==== Sys2Proof/Machine/State.lean ====
section
/-! DEFINITION. Everything the controller holds, as plain data, and its value after reset. INVENTORY.md lists the rule
behind each field.
-/

namespace Sys2Proof.Machine

/-- Records by number: pairs with strictly rising numbers; a number not listed has no record (a free candidate record, an
UNDEFINED slot or seat, a free Sheet Record). -/
abbrev Table (α : Type) := List (Nat × α)

/-! ### Walks (R39 to R47) -/

/-- One step of a seat walk: its row and column components (R42). -/
structure Step where
  row : Int
  col : Int
  deriving DecidableEq, Repr

/-- A taken seat walk descriptor (R39, R42). -/
structure SeatWalk where
  startRow : Nat
  startCol : Nat
  e : Step
  o1 : Step
  o2 : Step
  countL : Nat
  countM : Nat
  countH : Nat
  alternate : Bool
  deriving DecidableEq, Repr

/-- How far a user has come through a walk (R41). -/
structure Cursor where
  h : Nat
  m : Nat
  l : Nat
  exhausted : Bool
  deriving DecidableEq, Repr

/-! ### Candidates (R1 to R7) -/

/-- The eleven candidate states (R2). -/
inductive CandState where
  | unseated | seated | reading | writing | resting | finished | absent | collected | missing | markPending | marked
  deriving DecidableEq, Repr

/-- Why a candidate finished (R82). -/
inductive FinishReason where
  | early | time | forced | abandoned
  deriving DecidableEq, Repr

/-- The finish reason and finish time, written in one step (R3). -/
structure Finish where
  reason : FinishReason
  time : Nat
  deriving DecidableEq, Repr

/-- The seven flags of a candidate record (R4). -/
structure CandFlags where
  late : Bool
  away : Bool
  call : Bool
  seatFault : Bool
  deferred : Bool
  missing : Bool
  watch : Bool
  deriving DecidableEq, Repr

/-- The seven counts of a result (R175). -/
structure Counts where
  correct : Nat
  wrong : Nat
  blank : Nat
  faint : Nat
  multi : Nat
  void : Nat
  erasure : Nat
  deriving DecidableEq, Repr

/-- A marking result (R7, R175, R176). Scores are signed quarter-marks. -/
structure MarkResult where
  final : Int
  raw : Int
  floored : Int
  neg : Bool
  zero : Bool
  clamped : Bool
  counts : Counts
  generation : Nat
  tag : Nat
  deriving DecidableEq, Repr

/-- A candidate record in use (R1), with the Session Timer's away count and away-reported mark (R69). -/
structure Cand where
  number : Nat
  paper : Nat
  allowance : Nat
  needsAccess : Bool
  restBudget : Nat
  restUsed : Nat
  seat : Option Nat
  state : CandState
  finish : Option Finish
  limit : Nat
  used : Nat
  flags : CandFlags
  present : Bool
  result : Option MarkResult
  awayCount : Nat
  awayReported : Bool
  deriving DecidableEq, Repr

/-! ### Answer sheets: formats, keys, readings (R158 to R178) -/

/-- The part of a block walk the format gives (R45); L, M, H come from the format and the block. -/
structure BlockWalk where
  start : Nat
  o1 : Int
  o2 : Int
  deriving DecidableEq, Repr

/-- An answer block: first question number, question count, options per question, walk (R159's format table). -/
structure AnswerBlock where
  first : Nat
  count : Nat
  options : Nat
  walk : BlockWalk
  deriving DecidableEq, Repr

/-- What a FAINT or MULTI question scores (R173). -/
inductive Policy where
  | asBlank | asWrong
  deriving DecidableEq, Repr

/-- A paper's answer sheet format as taken (R160, R161). -/
structure Format where
  mask : BitVec 48
  subSamples : Nat
  rows : Nat
  refRow : Nat
  tBlank : Nat
  tMark : Nat
  margin : Nat
  faint : Policy
  multi : Policy
  sectionFloor : Bool
  paperFloor : Int
  idBlock : BlockWalk
  blocks : List AnswerBlock
  deriving DecidableEq, Repr

/-- A written key entry (R163). -/
structure KeyEntry where
  keySet : Byte
  weight : Nat
  penalty : Nat
  sect : Nat
  deriving DecidableEq, Repr

/-- The class of one question, with the option of RESP and RESP_E (R170). -/
inductive QClass where
  | blank
  | faint
  | resp (option : Nat)
  | respE (option : Nat)
  | multi
  deriving DecidableEq, Repr

/-! ### Papers (R15 to R17) -/

/-- The states of a defined paper (R16). An UNDEFINED slot is not listed. -/
inductive PaperState where
  | planned | reading | writing | extended | closed | abandoned
  deriving DecidableEq, Repr

/-- The collection states (R16). -/
inductive CollState where
  | idle | walking | outstanding | complete
  deriving DecidableEq, Repr

/-- The marking states (R159). -/
inductive MarkState where
  | notReady | ready | bound | rescoring
  deriving DecidableEq, Repr

/-- The separation modes (R30). -/
inductive Separation where
  | none | row | grid | diag
  deriving DecidableEq, Repr

/-- The definition group of a paper as taken (R15, R19). -/
structure PaperDef where
  code : List Byte
  reading : Nat
  writing : Nat
  lateCutoff : Nat
  noLeaveFirst : Nat
  noLeaveLast : Nat
  warnA : Nat
  warnB : Nat
  separation : Separation
  collectTimeout : Nat
  start : Option Nat
  walk : Option SeatWalk
  deriving DecidableEq, Repr

/-- The collection group of a paper (R15, R17, R120). -/
structure Collecting where
  state : CollState
  cursor : Cursor
  target : Option Nat
  timer : Nat
  admitted : Nat
  collected : Nat
  absent : Nat
  missing : Nat
  deriving DecidableEq, Repr

/-- A defined paper: its definition, clock, collection and marking groups (R15). -/
structure Paper where
  defn : PaperDef
  state : PaperState
  readingLeft : Nat
  elapsed : Nat
  coll : Collecting
  format : Option Format
  key : List (Option KeyEntry)
  generation : Nat
  marking : MarkState
  deriving DecidableEq, Repr

/-! ### The hall (R23 to R38) -/

/-- The polarity of an input kind (R105). -/
inductive Polarity where
  | activeHigh | activeLow
  deriving DecidableEq, Repr

/-- The sense of the CALL input (R111, R112). -/
inductive CallSense where
  | latch | level
  deriving DecidableEq, Repr

/-- The conditioning of one input kind: polarity and debounce in polls (R24). -/
structure InputConf where
  polarity : Polarity
  debounce : Nat
  deriving DecidableEq, Repr

/-- The hall settings (R23, R25). -/
structure Hall where
  rows : Nat
  cols : Nat
  presentConf : InputConf
  doneConf : InputConf
  callConf : InputConf
  keyConf : InputConf
  callSense : CallSense
  awayLimit : Nat
  holdLimit : Nat
  deriving DecidableEq, Repr

/-- The classes of a seat (R29). -/
inductive SeatClass where
  | standard | access
  deriving DecidableEq, Repr

/-- The states of a defined seat (R27). -/
inductive SeatState where
  | enabled | disabled | faulty
  deriving DecidableEq, Repr

/-- The fault cause of a seat (R26). -/
inductive FaultCause where
  | noReply
  deriving DecidableEq, Repr

/-- A defined seat (R26). -/
structure Seat where
  row : Nat
  col : Nat
  cls : SeatClass
  state : SeatState
  occupant : Option Nat
  fault : Option FaultCause
  deriving DecidableEq, Repr

/-! ### The seat loop (R97 to R119) -/

/-- A conditioned input state (R97). -/
inductive Level where
  | active | inactive | unknown
  deriving DecidableEq, Repr

/-- The samples, newest first, and the conditioned state of one input kind at a seat (R97). -/
structure InputRec where
  hist : List Bool
  cond : Level
  deriving DecidableEq, Repr

/-- The lamp codes 0 to 11 (R100). -/
inductive Lamp where
  | off | idle | await | read | write | warnA | warnB | rest | finished | collect | called | hold
  deriving DecidableEq, Repr

/-- A lamp with its blink flag, as a poll carries them (R101). -/
structure LampCmd where
  lamp : Lamp
  blink : Bool
  deriving DecidableEq, Repr

/-- The loop record of an ENABLED or FAULTY seat (R97). -/
structure LoopRec where
  misses : Nat
  presentIn : InputRec
  doneIn : InputRec
  callIn : InputRec
  keyIn : InputRec
  fresh : Bool
  call : Option CallSense
  answered : Bool
  lamp : Option LampCmd
  deriving DecidableEq, Repr

/-- An open reply window: the seat polled, whether it is that of a closing poll (R98), and whether bytes that are no good reply
have come in it, so that only a missed reply can end it (R102, log 37). -/
structure Window where
  seat : Nat
  closing : Bool
  spoiled : Bool
  deriving DecidableEq, Repr

/-! ### The Allocation Engine (R48) -/

/-- The two passes of a job (R51). -/
inductive Pass where
  | access | general
  deriving DecidableEq, Repr

/-- The job record while a job runs (R48). -/
structure Job where
  paper : Nat
  spill : Bool
  walk : SeatWalk
  cursor : Cursor
  pass : Pass
  waiting : List Nat
  generalCount : Nat
  placed : Nat
  unplacedAccess : Nat
  deriving DecidableEq, Repr

/-- How a job ended (R48). -/
inductive JobOutcome where
  | done | partly | aborted
  deriving DecidableEq, Repr

/-- The last-outcome record (R48). -/
structure LastOutcome where
  paper : Nat
  outcome : JobOutcome
  placed : Nat
  unplacedAccess : Nat
  unplacedGeneral : Nat
  time : Nat
  deriving DecidableEq, Repr

/-! ### Holds and the Collection List (R92, R131) -/

/-- What raised a hold (R92, R93). -/
inductive HoldCause where
  | request | line
  deriving DecidableEq, Repr

/-- The flags of a Collection List entry (R128). -/
structure EntryFlags where
  early : Bool
  walk : Bool
  deferred : Bool
  outOfOrder : Bool
  host : Bool
  found : Bool
  deriving DecidableEq, Repr

/-- An entry of the Collection List (R131); its position is its place in the list. -/
structure CollEntry where
  index : Nat
  number : Nat
  paper : Nat
  seat : Option Nat
  time : Nat
  flags : EntryFlags
  deriving DecidableEq, Repr

/-! ### The sheet reader (R137 to R157) -/

/-- The two stackers (R138). -/
inductive Stacker where
  | accept | reject
  deriving DecidableEq, Repr

/-- The DIVERT reasons for REJECT (R138). -/
inductive Reason where
  | notBound | noRecord | noBuffer | overrun | geometry | noDecision | idUnreadable | unknownCandidate | wrongPaper
  | duplicate | notCollected
  deriving DecidableEq, Repr

/-- Why a RECEIVING record was spoiled (R145). -/
inductive Spoil where
  | noBuffer | overrun | geometry
  deriving DecidableEq, Repr

/-- A decision on a sheet (R143). -/
inductive Decision where
  | accept
  | reject (reason : Reason)
  deriving DecidableEq, Repr

/-- The states of an open Sheet Record (R143). -/
inductive SheetState where
  | receiving | stored | marking | decided | diverted
  deriving DecidableEq, Repr

/-- The result staged in a Sheet Record (R176). -/
structure Staged where
  index : Nat
  responses : List QClass
  result : MarkResult
  deriving DecidableEq, Repr

/-- An open Sheet Record (R143). -/
structure SheetRec where
  tag : Nat
  state : SheetState
  buffer : Option Nat
  rows : Nat
  endTaken : Option Nat
  spoil : Option Spoil
  decision : Option Decision
  staged : Option Staged
  deriving DecidableEq, Repr

/-- The states of a sheet buffer (R148). -/
inductive BufState where
  | free | filling | full | marking
  deriving DecidableEq, Repr

/-- A sheet buffer: its state, and its samples by address in canonical form (addresses strictly rising, no entry equal to
`Config.blankSample`). -/
structure Buffer where
  state : BufState
  mem : List Host.Cell
  deriving DecidableEq, Repr

/-- The candidate a DIVERT's notice names: the number the marker decoded, and the index that holds it (R152). -/
structure Decoded where
  index : Option Nat
  number : Nat
  deriving DecidableEq, Repr

/-- A DIVERT: the sheet's tag, the decision, the Sheet Record entry it belongs to (none for a sheet without a record, or
once that record is closed), and the candidate its notice names (R140, R152). -/
structure Divert where
  tag : Nat
  decision : Decision
  entry : Option Nat
  cand : Option Decoded
  deriving DecidableEq, Repr

/-- A message to the transport (R138). -/
inductive TxMsg where
  | geometry (mask : BitVec 48) (subSamples rows : Nat)
  | feed (go : Bool)
  | divert (d : Divert)
  deriving DecidableEq, Repr

/-- What the Sheet Reader Interface holds (R137): `frame` is the receiver (none while hunting, else the bytes after the
start byte); the message at the front of `tx` is the one being sent (log 11); `sent` is the frame last sent (R138). -/
structure Reader where
  bound : Option Nat
  ready : Bool
  frame : Option (List Byte)
  tx : List TxMsg
  sent : Option (List Byte)
  feedSent : Bool
  fifo : List Byte
  owner : Option Nat
  moved : Nat
  buf0 : Buffer
  buf1 : Buffer
  records : Table SheetRec
  endCounter : Nat
  deriving DecidableEq, Repr

/-! ### The marker (R158) -/

/-- The reading of one question: its options' darkness values and its class (R158). -/
structure Reading where
  darkness : List Nat
  cls : QClass
  deriving DecidableEq, Repr

/-- The sheet in hand: the entry taken, whether the record open there is still the one taken, the buffer read, the tag,
the key generation when the marking began (R176), the backgrounds, the block cursor and the readings so far (R158). -/
structure MarkJob where
  entry : Nat
  same : Bool
  buffer : Nat
  tag : Nat
  generation : Nat
  backgrounds : List Nat
  cursor : Cursor
  digits : List QClass
  readings : List Reading
  deriving DecidableEq, Repr

/-- The marker (R158). -/
inductive Marker where
  | idle
  | marking (j : MarkJob)
  | rescoring (slot next count : Nat)
  deriving DecidableEq, Repr

/-! ### Notices (R202) -/

/-- What a WATCH_TRACE gives as the cause of the change (R14). -/
inductive Cause where
  | request (kind : Nat)
  | present | done | call | key | second | holdExpiry | paper | collection | sheet | seat
  deriving DecidableEq, Repr

/-- Why a paper's state changed (R77). -/
inductive PaperCause where
  | request | schedule | second | lastFinish | holdExpiry
  deriving DecidableEq, Repr

/-- Why a collection state changed (R136). -/
inductive CollCause where
  | baseEnd | abandon | walkEnd | lastScript | request
  deriving DecidableEq, Repr

/-- Why DONE was refused (R84). -/
inductive LeaveRefusal where
  | reading | held | tooEarly | tooLate
  deriving DecidableEq, Repr

/-- How a call ended (R112 to R114). -/
inductive CallEnd where
  | answered | withdrawn | dropped
  deriving DecidableEq, Repr

/-- Why the walk skipped a target (R136). -/
inductive SkipReason where
  | timeout | seatFault
  deriving DecidableEq, Repr

/-- Why a Sheet Record was closed as lost (R144). -/
inductive LostCause where
  | misrouted | earlyStack | tagReused | jam | reset
  deriving DecidableEq, Repr

/-- What stopped the reader (R155, R156). -/
inductive StopCause where
  | jam | reset
  deriving DecidableEq, Repr

/-- Why a reader frame or message was dropped (R157). -/
inductive ReaderErr where
  | frame | kind | length | order | txFull | value
  deriving DecidableEq, Repr

/-- The items of a notice, by kind (R202); the rule that posts each lists its items. -/
inductive NoticeBody where
  | controllerStart (revision rate : Nat)
  | watchTrace (number paper : Nat) (previous new : CandState) (seat : Option Nat) (used limit : Nat)
      (flags : CandFlags) (cause : Cause)
  | seatFaulted (seat row col : Nat) (occupant : Option (Nat × Nat))
  | allocEnd (paper : Nat) (outcome : JobOutcome) (placed unplacedAccess unplacedGeneral : Nat)
  | paperState (previous new : PaperState) (cause : PaperCause) (elapsed readingLeft admitted absent active : Nat)
  | lateRefused (index number : Nat) (seat : Option Nat) (elapsed lateCutoff : Nat)
  | leaveDenied (index : Nat) (seat : Option Nat) (reason : LeaveRefusal) (used remaining : Nat)
  | restEnd (index : Nat) (seat : Option Nat) (restUsed used : Nat)
  | awayLong (index : Nat) (seat : Option Nat) (away used : Nat)
  | holdBegin (cause : HoldCause)
  | holdEnd (cause : HoldCause) (elapsed : Nat)
  | holdExpired (cause : HoldCause) (elapsed : Nat) (slots : List Nat)
  | callRaised (seat index number : Nat) (state : CandState)
  | callEnded (how : CallEnd)
  | scriptCollected (position index number paper : Nat) (seat : Option Nat) (flags : EntryFlags) (next : Option Nat)
  | collectSkipped (paper seat index number : Nat) (reason : SkipReason) (next : Option Nat)
  | collectionState (previous new : CollState) (cause : CollCause) (target : Option Nat)
      (admitted collected absent missing : Nat)
  | sheetSpoiled (tag : Nat) (reason : Spoil) (rows : Nat)
  | sheetDiverted (tag : Nat) (decision : Decision) (bound : Option Nat) (cand : Option Decoded)
  | sheetLost (tag : Nat) (cause : LostCause) (state : SheetState) (decision : Option Decision)
      (reported : Option Stacker) (cand : Option (Nat × Nat)) (returned : Bool)
  | readerStop (cause : StopCause) (tags : List Nat)
  | readerError (reason : ReaderErr) (kind : Option Nat)
  | resultCommitted (number paper tag : Nat) (final raw floored : Int) (neg zero clamped : Bool) (generation : Nat)
  | rescoreDone (count generation : Nat)
  | sessionCleared (freed slots : Nat)
  deriving DecidableEq, Repr

/-- A notice: its hall time, its subject and its items (R191, R197). -/
structure Notice where
  time : Nat
  subject : Nat
  body : NoticeBody
  deriving DecidableEq, Repr

/-! ### The host link (R185 to R197) -/

/-- The receiver states (R186). -/
inductive RxState where
  | hunt | header | body
  deriving DecidableEq, Repr

/-- The receiver and its frame under receipt: the bytes after the start byte, the length value, the running check (R185). -/
structure HostRx where
  state : RxState
  bytes : List Byte
  length : Nat
  crc : BitVec 16
  deriving DecidableEq, Repr

/-- A complete frame from the console (R197). -/
structure Frame where
  kind : Byte
  tag : Byte
  body : List Byte
  deriving DecidableEq, Repr

/-- The ten result codes (R190). -/
inductive ResultCode where
  | ok | busy | state | range | unknownKind | notFound | full | conflict | format | length
  deriving DecidableEq, Repr

/-- A refusal detail: its code and value (R197). -/
structure Detail where
  code : Nat
  value : Nat
  deriving DecidableEq, Repr

/-- What the owner of a request hands back: the data of an OK reply, or a refusal with its detail (R189, R190). -/
inductive Answer where
  | ok (data : List Byte)
  | refused (code : ResultCode) (detail : Detail)
  deriving DecidableEq, Repr

/-- The request in hand, with its built reply (R185, R189). -/
structure InHand where
  kind : Byte
  tag : Byte
  status : Byte
  answer : Answer
  deriving DecidableEq, Repr

/-- The transmitter, with the whole frame it is sending (R185, R191). -/
inductive HostTx where
  | idle
  | reply (frame : List Byte)
  | notice (frame : List Byte)
  deriving DecidableEq, Repr

/-- What the Link Controller holds (R185). -/
structure Link where
  rx : HostRx
  inHand : Option InHand
  waiting : Option Frame
  notices : List Notice
  lostNotice : Bool
  frameDiscarded : Bool
  requestDropped : Bool
  tx : HostTx
  rate : Nat
  deriving DecidableEq, Repr

/-! ### The whole controller -/

/-- The state of the controller, and the queue of the commands that are waiting (log 2). -/
structure State where
  cands : Table Cand
  papers : Table Paper
  hall : Hall
  seats : Table Seat
  loops : Table LoopRec
  sweep : Option Nat
  closing : List Nat
  passList : List Nat
  window : Option Window
  pollFrame : Option (List Byte)
  job : Option Job
  lastOutcome : Option LastOutcome
  hallTime : Nat
  hold : Option HoldCause
  holdElapsed : Nat
  holdLine : Bool
  collection : List CollEntry
  reader : Reader
  marker : Marker
  responses : Table (List QClass)
  link : Link
  resetLow : Bool
  pending : List Instr
  deriving DecidableEq, Repr

/-- No fault: the spec gives the block no exception and no event that stops it (INVENTORY.md, Faults). -/
inductive Fault where
  deriving DecidableEq, Repr

/-- Why a command is refused. -/
inductive Refusal where
  /-- Raised by an arm of `exec` whose row has no meaning yet; no arm does. Safe: the machine stops. -/
  | notModelled (mnemonic : String)
  deriving DecidableEq, Repr

/-- The conditioning of every input kind after reset (R25). -/
def InputConf.reset : InputConf := { polarity := .activeHigh, debounce := 2 }

/-- The hall settings after reset (R23, R25). -/
def Hall.reset : Hall where
  rows := 0
  cols := 0
  presentConf := InputConf.reset
  doneConf := InputConf.reset
  callConf := InputConf.reset
  keyConf := InputConf.reset
  callSense := .latch
  awayLimit := 0
  holdLimit := 0

/-- The Sheet Reader Interface after reset (R137). -/
def Reader.reset : Reader where
  bound := none
  ready := false
  frame := none
  tx := [.feed false]
  sent := none
  feedSent := true
  fifo := []
  owner := none
  moved := 0
  buf0 := { state := .free, mem := [] }
  buf1 := { state := .free, mem := [] }
  records := []
  endCounter := 0

/-- The receiver hunting for a start byte (R185). -/
def HostRx.reset : HostRx := { state := .hunt, bytes := [], length := 0, crc := 0xFFFF }

/-- The Link Controller after reset with the given link rate code (R185, R196): one CONTROLLER_START notice is queued. -/
def Link.reset (rate : Nat) : Link where
  rx := HostRx.reset
  inHand := none
  waiting := none
  notices := [{ time := 0, subject := 0, body := .controllerStart Config.revision rate }]
  lostNotice := false
  frameDiscarded := false
  requestDropped := false
  tx := .idle
  rate := rate

/-- The controller right after RESET is released with the given link rate code: every record at its reset value
(R1, R15, R25, R26, R48, R69, R98, R120, R137, R158, R185). -/
def State.resetAt (rate : Nat) : State where
  cands := []
  papers := []
  hall := Hall.reset
  seats := []
  loops := []
  sweep := some 0
  closing := []
  passList := []
  window := none
  pollFrame := none
  job := none
  lastOutcome := none
  hallTime := 0
  hold := none
  holdElapsed := 0
  holdLine := false
  collection := []
  reader := Reader.reset
  marker := .idle
  responses := []
  link := Link.reset rate
  resetLow := false
  pending := []

/-- The machine right after reset. DESIGN CHOICE (log 1): both straps low, rate code 0. -/
def State.reset : State := State.resetAt 0

end Sys2Proof.Machine
end

