-- ==== Sys2Proof/Machine/Ops.lean ====
section
/-! DEFINITION. The named operations over tables, records, buffers and notices that every block uses.
-/

namespace Sys2Proof.Machine

/-! ### Tables -/

/-- The record numbered `k`, if there is one. -/
def Table.get {α : Type} : Table α → Nat → Option α
  | [], _ => none
  | (j, v) :: t, k => if j = k then some v else Table.get t k

/-- The table with `v` as the record numbered `k`, in rising order. -/
def Table.insert {α : Type} : Table α → Nat → α → Table α
  | [], k, v => [(k, v)]
  | (j, w) :: t, k, v =>
    if k < j then (k, v) :: (j, w) :: t else if k = j then (k, v) :: t else (j, w) :: Table.insert t k v

/-- The table without a record numbered `k`. -/
def Table.erase {α : Type} (t : Table α) (k : Nat) : Table α := t.filter (fun e => e.1 ≠ k)

/-- The table with the record numbered `k`, if there is one, changed by `f`. -/
def Table.modify {α : Type} (t : Table α) (k : Nat) (f : α → α) : Table α :=
  t.map (fun e => if e.1 = k then (e.1, f e.2) else e)

/-- The table with every record changed by `f`. -/
def Table.mapAll {α : Type} (t : Table α) (f : α → α) : Table α := t.map (fun e => (e.1, f e.2))

/-- The numbers of the records, rising. -/
def Table.keys {α : Type} (t : Table α) : List Nat := t.map Prod.fst

/-- The lowest number below `n` without a record. -/
def Table.firstFree {α : Type} (t : Table α) (n : Nat) : Option Nat :=
  (List.range n).find? (fun k => (Table.get t k).isNone)

/-- The canonical form: the numbers rise strictly and lie below `n`. -/
def Table.wf {α : Type} (n : Nat) (t : Table α) : Bool :=
  decide ((Table.keys t).Pairwise (· < ·)) && (Table.keys t).all (· < n)

/-! ### Records by number -/

/-- The candidate record at an index (R1). -/
def State.cand (s : State) (i : Nat) : Option Cand := Table.get s.cands i
/-- The defined paper in a slot (R15). -/
def State.paper (s : State) (p : Nat) : Option Paper := Table.get s.papers p
/-- The defined seat of a number (R26). -/
def State.seat (s : State) (n : Nat) : Option Seat := Table.get s.seats n
/-- The loop record of a seat (R97). -/
def State.loop (s : State) (n : Nat) : Option LoopRec := Table.get s.loops n

/-- Change the candidate record at an index, if it is in use. -/
def State.modCand (s : State) (i : Nat) (f : Cand → Cand) : State := { s with cands := Table.modify s.cands i f }
/-- Change a defined paper. -/
def State.modPaper (s : State) (p : Nat) (f : Paper → Paper) : State := { s with papers := Table.modify s.papers p f }
/-- Change a defined seat. -/
def State.modSeat (s : State) (n : Nat) (f : Seat → Seat) : State := { s with seats := Table.modify s.seats n f }
/-- Change a loop record. -/
def State.modLoop (s : State) (n : Nat) (f : LoopRec → LoopRec) : State := { s with loops := Table.modify s.loops n f }
/-- Change the collection group of a paper. -/
def State.modColl (s : State) (p : Nat) (f : Collecting → Collecting) : State :=
  s.modPaper p (fun q => { q with coll := f q.coll })
/-- Change every candidate of a paper. -/
def State.mapCands (s : State) (p : Nat) (f : Cand → Cand) : State :=
  { s with cands := Table.mapAll s.cands (fun c => if c.paper = p then f c else c) }

/-- The candidates of a paper that pass a test. -/
def State.countCands (s : State) (p : Nat) (test : Cand → Bool) : Nat :=
  s.cands.countP (fun e => e.2.paper = p && test e.2)

/-- The paper slots, ascending. -/
def slots : List Nat := List.range Config.slotCount

/-- READING, WRITING or RESTING (R82). -/
def CandState.active : CandState → Bool
  | .reading | .writing | .resting => true
  | .unseated | .seated | .finished | .absent | .collected | .missing | .markPending | .marked => false

/-- READING, WRITING or EXTENDED (R24, R87). -/
def PaperState.running : PaperState → Bool
  | .reading | .writing | .extended => true
  | .planned | .closed | .abandoned => false

/-- The paper's candidates that are READING, WRITING or RESTING (R77). -/
def State.activeCount (s : State) (p : Nat) : Nat := s.countCands p (fun c => c.state.active)

/-- No flag set (R4). -/
def CandFlags.clear : CandFlags where
  late := false
  away := false
  call := false
  seatFault := false
  deferred := false
  missing := false
  watch := false

/-- Set or clear SEAT_FAULT (R4). -/
def Cand.setSeatFault (c : Cand) (b : Bool) : Cand := { c with flags := { c.flags with seatFault := b } }
/-- Set or clear CALL (R4). -/
def Cand.setCall (c : Cand) (b : Bool) : Cand := { c with flags := { c.flags with call := b } }
/-- Set DEFERRED (R4). -/
def Cand.setDeferred (c : Cand) : Cand := { c with flags := { c.flags with deferred := true } }

/-! ### The samples of a sheet buffer (R147)

Addresses strictly rising, and no entry equal to `Config.blankSample`, what an unlisted address reads as. -/

/-- The sample at an address. -/
def Mem.read : List Host.Cell → Nat → Byte
  | [], _ => Config.blankSample
  | (b, v) :: m, a => if b = a then v else Mem.read m a

/-- The cells with `v` at address `a`, put in place. -/
def Mem.put : List Host.Cell → Nat → Byte → List Host.Cell
  | [], a, v => if v = Config.blankSample then [] else [(a, v)]
  | (b, w) :: m, a, v =>
    if a < b then (if v = Config.blankSample then (b, w) :: m else (a, v) :: (b, w) :: m)
    else if a = b then (if v = Config.blankSample then m else (a, v) :: m)
    else (b, w) :: Mem.put m a v

/-- Write one sample; a buffer has no place at or beyond `Config.bufferSize` (R137). -/
def Mem.write (m : List Host.Cell) (a : Nat) (v : Byte) : List Host.Cell :=
  if a < Config.bufferSize then Mem.put m a v else m

/-- Write samples one after another from an address on. -/
def Mem.writeFrom : List Host.Cell → Nat → List Byte → List Host.Cell
  | m, _, [] => m
  | m, a, v :: vs => Mem.writeFrom (Mem.write m a v) (a + 1) vs

/-- The canonical form of a buffer's samples. -/
def Mem.wf (m : List Host.Cell) : Bool :=
  decide ((m.map Prod.fst).Pairwise (· < ·)) && m.all (fun c => c.1 < Config.bufferSize && c.2 != Config.blankSample)

/-- The sheet buffer numbered 0 or 1 (R137). -/
def Reader.buffer (r : Reader) (b : Nat) : Buffer := if b = 0 then r.buf0 else r.buf1

/-- Change the sheet buffer numbered 0 or 1. -/
def Reader.modBuffer (r : Reader) (b : Nat) (f : Buffer → Buffer) : Reader :=
  if b = 0 then { r with buf0 := f r.buf0 } else { r with buf1 := f r.buf1 }

/-! ### Notices (R191) and WATCH_TRACE (R14) -/

/-- A notice joins the Notice Queue or, at a full queue, is discarded and sets the lost-notice flag (R191). -/
def Link.push (n : Notice) (l : Link) : Link :=
  if l.notices.length < Config.noticeCapacity then { l with notices := l.notices ++ [n] } else { l with lostNotice := true }

/-- Post a notice, with the hall time (R191). -/
def State.post (s : State) (subject : Nat) (body : NoticeBody) : State :=
  { s with link := s.link.push { time := s.hallTime, subject := subject, body := body } }

/-- The change of a record that a WATCH_TRACE reports: of its state, its seat, or a flag other than WATCH (R14). -/
def traced (old new : Cand) : Bool :=
  decide (old.state ≠ new.state) || decide (old.seat ≠ new.seat) ||
  decide ({ old.flags with watch := false } ≠ { new.flags with watch := false })

/-- Post the WATCH_TRACE of one change of one record, if it is watched (R14). -/
def State.traceChange (s : State) (i : Nat) (old new : Cand) (cause : Cause) : State :=
  if new.flags.watch && traced old new then
    s.post i (.watchTrace new.number new.paper old.state new.state new.seat new.used new.limit new.flags cause)
  else s

/-- Post the WATCH_TRACE of one record in use, as it stands, for its change from `old` (R14). -/
def State.traceOne (s : State) (i : Nat) (old : Cand) (cause : Cause) : State :=
  match s.cand i with
  | some new => s.traceChange i old new cause
  | none => s

/-- Post the WATCH_TRACE notices of one event that may have changed several records since `before`, in ascending index
(R14), each with the cause its record gives. -/
def State.traceAllBy (s : State) (before : Table Cand) (cause : Cand → Cause) : State :=
  s.cands.foldl (fun t e =>
    match Table.get before e.1 with
    | some old => t.traceChange e.1 old e.2 (cause e.2)
    | none => t) s

/-- Post the WATCH_TRACE notices of one event whose changes have one cause (R14). -/
def State.traceAll (s : State) (before : Table Cand) (cause : Cause) : State := s.traceAllBy before (fun _ => cause)

/-- Change one candidate record and post its WATCH_TRACE (R2, R14). -/
def State.changeCand (s : State) (i : Nat) (f : Cand → Cand) (cause : Cause) : State :=
  match s.cand i with
  | some old => (s.modCand i f).traceOne i old cause
  | none => s

/-! ### Answers to requests (R189, R190) -/

/-- Refuse a request: the records stay as they were, and the reply carries no detail (R190, R197). -/
def refuse (code : ResultCode) (s : State) : State × Answer := (s, .refused code { code := 0, value := 0 })

/-- Refuse a request with a detail (R197). -/
def refuseWith (code : ResultCode) (detail value : Nat) (s : State) : State × Answer :=
  (s, .refused code { code := detail, value := value })

end Sys2Proof.Machine
end

