-- ==== Sys2Proof/Machine/Flags.lean ====
section
/-! DEFINITION. The sets of flags as the bytes R197 and R198 give them, the link-status byte (R192), and the flags of a
Collection List entry (R128).
-/

namespace Sys2Proof.Machine

/-- A set of flags as a number, the first flag in bit 0; unused bits are 0 (R198). -/
def flagSet : List Bool → Nat
  | [] => 0
  | b :: bs => (if b then 1 else 0) + 2 * flagSet bs

/-- The candidate flags byte: LATE in bit 0 to WATCH in bit 6 (R198). -/
def CandFlags.code (f : CandFlags) : Nat :=
  flagSet [f.late, f.away, f.call, f.seatFault, f.deferred, f.missing, f.watch]

/-- The Collection List entry flags byte: EARLY in bit 0 to FOUND in bit 5 (R198). -/
def EntryFlags.code (f : EntryFlags) : Nat :=
  flagSet [f.early, f.walk, f.deferred, f.outOfOrder, f.host, f.found]

/-- The result flags byte: NEG in bit 0, ZERO 1, CLAMPED 2 (R198). -/
def resultFlags (neg zero clamped : Bool) : Nat := flagSet [neg, zero, clamped]

/-- The link-status byte: lost-notice in bit 0, frame-discarded 1, request-dropped 2 (R197). -/
def Link.statusCode (l : Link) : Nat := flagSet [l.lostNotice, l.frameDiscarded, l.requestDropped]

/-- The three link flags cleared, as a reply that is built clears them (R192). -/
def Link.clearFlags (l : Link) : Link :=
  { l with lostNotice := false, frameDiscarded := false, requestDropped := false }

/-- Set the frame-discarded flag (R186, R188). -/
def State.discardFrame (s : State) : State := { s with link := { s.link with frameDiscarded := true } }

/-- How a script is taken (R129, R130, R133). -/
inductive Taking where
  | target | key | host
  deriving DecidableEq, Repr

/-- The flags of the entry made when candidate `c` of paper `p` has its script taken (R128). -/
def entryFlags (p : Paper) (c : Cand) (how : Taking) : EntryFlags where
  early := decide (p.coll.state = .idle)
  walk := decide (how = .target)
  deferred := c.flags.deferred
  outOfOrder := decide (how = .key) && decide (p.coll.state = .walking)
  host := decide (how = .host)
  found := decide (how = .host) && decide (c.state = .missing)

end Sys2Proof.Machine
end

