-- ==== Sys2Proof/Machine/Encode.lean ====
section
/-! DEFINITION. Items as bytes (R198), the central record bodies (R200, R201), notices (R202) and host frames (R187,
R197). Multi-byte values go most significant byte first.
-/

namespace Sys2Proof.Machine

/-! ### Item types (R198) -/

/-- One byte. -/
def u8 (n : Nat) : List Byte := [BitVec.ofNat 8 n]
/-- Two bytes. -/
def u16 (n : Nat) : List Byte := [BitVec.ofNat 8 (n / 256), BitVec.ofNat 8 n]
/-- Three bytes. -/
def u24 (n : Nat) : List Byte := [BitVec.ofNat 8 (n / 65536), BitVec.ofNat 8 (n / 256), BitVec.ofNat 8 n]
/-- One byte in two's complement. -/
def s8 (z : Int) : List Byte := [BitVec.ofInt 8 z]
/-- Two bytes in two's complement. -/
def s16 (z : Int) : List Byte := u16 (BitVec.ofInt 16 z).toNat
/-- Set/clear, on/off, present/absent, active/inactive: 1 or 0. -/
def flag (b : Bool) : List Byte := u8 (if b then 1 else 0)
/-- An index or seat that may be absent: 0xFFFF. -/
def opt16 (n : Option Nat) : List Byte := u16 (n.getD Config.absent16)
/-- A slot that may be none, or an enumeration that may be absent: 0xFF. -/
def opt8 (n : Option Nat) : List Byte := u8 (n.getD Config.absent8)
/-- A list: a one-byte count, then the entries. -/
def listOf {α : Type} (enc : α → List Byte) (xs : List α) : List Byte := u8 xs.length ++ xs.flatMap enc
/-- A group that may be absent: a presence byte, then its items when present. -/
def group {α : Type} (enc : α → List Byte) : Option α → List Byte
  | none => u8 0
  | some a => u8 1 ++ enc a

/-! ### Enumeration codes (R198, R202) -/

def CandState.code : CandState → Nat
  | .unseated => 0
  | .seated => 1
  | .reading => 2
  | .writing => 3
  | .resting => 4
  | .finished => 5
  | .absent => 6
  | .collected => 7
  | .missing => 8
  | .markPending => 9
  | .marked => 10

def PaperState.code : PaperState → Nat
  | .planned => 1
  | .reading => 2
  | .writing => 3
  | .extended => 4
  | .closed => 5
  | .abandoned => 6

def CollState.code : CollState → Nat
  | .idle => 0
  | .walking => 1
  | .outstanding => 2
  | .complete => 3

def MarkState.code : MarkState → Nat
  | .notReady => 0
  | .ready => 1
  | .bound => 2
  | .rescoring => 3

def FinishReason.code : FinishReason → Nat
  | .early => 0
  | .time => 1
  | .forced => 2
  | .abandoned => 3

/-- UNDEFINED is 0 and stands for a seat that is not listed. -/
def SeatState.code : SeatState → Nat
  | .enabled => 1
  | .disabled => 2
  | .faulty => 3

def SeatClass.code : SeatClass → Nat
  | .standard => 0
  | .access => 1

def Separation.code : Separation → Nat
  | .none => 0
  | .row => 1
  | .grid => 2
  | .diag => 3

def Policy.code : Policy → Nat
  | .asBlank => 0
  | .asWrong => 1

def Polarity.code : Polarity → Nat
  | .activeHigh => 0
  | .activeLow => 1

def CallSense.code : CallSense → Nat
  | .latch => 0
  | .level => 1

def HoldCause.code : HoldCause → Nat
  | .request => 1
  | .line => 2

/-- NOT_HELD is 0 (R198). -/
def holdCode : Option HoldCause → Nat
  | none => 0
  | some c => c.code

def QClass.code : QClass → Nat
  | .blank => 0
  | .faint => 1
  | .resp _ => 2
  | .respE _ => 3
  | .multi => 4

/-- The option of a class; 0 for a class that carries none (R200). -/
def QClass.optionCode : QClass → Nat
  | .resp o | .respE o => o
  | .blank | .faint | .multi => 0

/-- A level: 2 for unknown (R198). -/
def Level.code : Level → Nat
  | .inactive => 0
  | .active => 1
  | .unknown => 2

/-- The lamp codes (R100). -/
def Lamp.code : Lamp → Nat
  | .off => 0
  | .idle => 1
  | .await => 2
  | .read => 3
  | .write => 4
  | .warnA => 5
  | .warnB => 6
  | .rest => 7
  | .finished => 8
  | .collect => 9
  | .called => 10
  | .hold => 11

/-- Numbered from 0 in the order of R48 (log 42). -/
def JobOutcome.code : JobOutcome → Nat
  | .done => 0
  | .partly => 1
  | .aborted => 2

/-- IDLE is 0 (R48). -/
def Pass.code : Pass → Nat
  | .access => 1
  | .general => 2

def Stacker.code : Stacker → Nat
  | .accept => 0
  | .reject => 1

/-- The DIVERT reason codes (R138). -/
def Reason.code : Reason → Nat
  | .notBound => 1
  | .noRecord => 2
  | .noBuffer => 3
  | .overrun => 4
  | .geometry => 5
  | .noDecision => 6
  | .idUnreadable => 7
  | .unknownCandidate => 8
  | .wrongPaper => 9
  | .duplicate => 10
  | .notCollected => 11

/-- The stacker of a decision (R152). -/
def Decision.stacker : Decision → Stacker
  | .accept => .accept
  | .reject _ => .reject

/-- The reason byte of a DIVERT: 0 for ACCEPT (R138). -/
def Decision.reasonCode : Decision → Nat
  | .accept => 0
  | .reject r => r.code

/-- Numbered from 0 in the order of R145, in STATUS as in SHEET_SPOILED (R202, log 42). -/
def Spoil.code : Spoil → Nat
  | .noBuffer => 0
  | .overrun => 1
  | .geometry => 2

/-- The DIVERT reason of a spoiled record (R150). -/
def Spoil.reason : Spoil → Reason
  | .noBuffer => .noBuffer
  | .overrun => .overrun
  | .geometry => .geometry

/-- Numbered from 0 in the order of R143's table (log 42). -/
def SheetState.code : SheetState → Nat
  | .receiving => 0
  | .stored => 1
  | .marking => 2
  | .decided => 3
  | .diverted => 4

/-- Numbered from 0 in the order of R148's table (log 42). -/
def BufState.code : BufState → Nat
  | .free => 0
  | .filling => 1
  | .full => 2
  | .marking => 3

def Cause.code : Cause → Nat
  | .request _ => 0
  | .present => 1
  | .done => 2
  | .call => 3
  | .key => 4
  | .second => 5
  | .holdExpiry => 6
  | .paper => 7
  | .collection => 8
  | .sheet => 9
  | .seat => 10

/-- The request kind byte of a WATCH_TRACE: 0 for a cause other than REQUEST (R202). -/
def Cause.kind : Cause → Nat
  | .request k => k
  | .present | .done | .call | .key | .second | .holdExpiry | .paper | .collection | .sheet | .seat => 0

def PaperCause.code : PaperCause → Nat
  | .request => 0
  | .schedule => 1
  | .second => 2
  | .lastFinish => 3
  | .holdExpiry => 4

def CollCause.code : CollCause → Nat
  | .baseEnd => 0
  | .abandon => 1
  | .walkEnd => 2
  | .lastScript => 3
  | .request => 4

def LeaveRefusal.code : LeaveRefusal → Nat
  | .reading => 0
  | .held => 1
  | .tooEarly => 2
  | .tooLate => 3

def CallEnd.code : CallEnd → Nat
  | .answered => 0
  | .withdrawn => 1
  | .dropped => 2

def SkipReason.code : SkipReason → Nat
  | .timeout => 0
  | .seatFault => 1

def LostCause.code : LostCause → Nat
  | .misrouted => 0
  | .earlyStack => 1
  | .tagReused => 2
  | .jam => 3
  | .reset => 4

def StopCause.code : StopCause → Nat
  | .jam => 0
  | .reset => 1

def ReaderErr.code : ReaderErr → Nat
  | .frame => 0
  | .kind => 1
  | .length => 2
  | .order => 3
  | .txFull => 4
  | .value => 5

/-- The result codes (R197). -/
def ResultCode.code : ResultCode → Nat
  | .ok => 0
  | .busy => 1
  | .state => 2
  | .range => 3
  | .unknownKind => 4
  | .notFound => 5
  | .full => 6
  | .conflict => 7
  | .format => 8
  | .length => 9

/-! ### Descriptors and record bodies -/

/-- A seat walk descriptor in 12 bytes (R198). -/
def SeatWalk.bytes (w : SeatWalk) : List Byte :=
  u8 w.startRow ++ u8 w.startCol ++ s8 w.e.row ++ s8 w.e.col ++ s8 w.o1.row ++ s8 w.o1.col ++ s8 w.o2.row ++
  s8 w.o2.col ++ u8 w.countL ++ u8 w.countM ++ u8 w.countH ++ flag w.alternate

/-- A cursor: its three indices and the exhausted mark (R41). -/
def Cursor.bytes (c : Cursor) : List Byte := u8 c.h ++ u8 c.m ++ u8 c.l ++ flag c.exhausted

/-- A block walk in 6 bytes (R198). -/
def BlockWalk.bytes (w : BlockWalk) : List Byte := u16 w.start ++ s16 w.o1 ++ s16 w.o2

/-- The 42 bytes of a definition group (R201). -/
def PaperDef.bytes (d : PaperDef) : List Byte :=
  d.code ++ u16 d.reading ++ u16 d.writing ++ u16 d.lateCutoff ++ u16 d.noLeaveFirst ++ u16 d.noLeaveLast ++
  u16 d.warnA ++ u16 d.warnB ++ u8 d.separation.code ++ u16 d.collectTimeout ++
  flag d.start.isSome ++ u24 (d.start.getD 0) ++
  flag d.walk.isSome ++ (match d.walk with | some w => w.bytes | none => List.replicate 12 0)

/-- The key is complete: every question 1..Q of the present format is written (R163). -/
def Paper.keyComplete (p : Paper) : Bool := p.format.isSome && p.key.all Option.isSome

/-- The paper record in 73 bytes (R201). -/
def Paper.bytes (p : Paper) (slot time : Nat) : List Byte :=
  u24 time ++ u8 slot ++ u8 p.state.code ++ p.defn.bytes ++ u16 p.readingLeft ++ u16 p.elapsed ++
  u8 p.coll.state.code ++ p.coll.cursor.bytes ++ opt16 p.coll.target ++ u16 p.coll.timer ++
  u16 p.coll.admitted ++ u16 p.coll.collected ++ u16 p.coll.absent ++ u16 p.coll.missing ++
  flag p.format.isSome ++ flag p.keyComplete ++ u16 p.generation ++ u8 p.marking.code

/-- The candidate record in 29 bytes (R200). -/
def Cand.bytes (c : Cand) (index time : Nat) : List Byte :=
  u24 time ++ u16 index ++ u24 c.number ++ u8 c.paper ++ u8 c.allowance ++ flag c.needsAccess ++
  u16 c.restBudget ++ u16 c.restUsed ++ opt16 c.seat ++ u8 c.state.code ++
  opt8 (c.finish.map (fun f => f.reason.code)) ++ u24 ((c.finish.map Finish.time).getD 0) ++
  u16 c.limit ++ u16 c.used ++ u8 c.flags.code ++ flag c.present ++ flag c.result.isSome

/-- The seven counts of a result, one byte each (R200). -/
def Counts.bytes (n : Counts) : List Byte :=
  u8 n.correct ++ u8 n.wrong ++ u8 n.blank ++ u8 n.faint ++ u8 n.multi ++ u8 n.void ++ u8 n.erasure

/-- The result record in 28 bytes (R200). -/
def MarkResult.bytes (r : MarkResult) (index time generation : Nat) (c : Cand) : List Byte :=
  u24 time ++ u16 index ++ u24 c.number ++ u8 c.paper ++ s16 r.final ++ s16 r.raw ++ s16 r.floored ++
  u8 (resultFlags r.neg r.zero r.clamped) ++ r.counts.bytes ++ u16 r.generation ++ u16 generation ++ u8 r.tag

/-- One stored response: the class in bits 7..4, the option in bits 3..0 (R200). -/
def QClass.bytes (q : QClass) : List Byte := u8 (16 * q.code + q.optionCode)

/-- The six bytes of a channel mask: channel k is bit k mod 8 of byte k div 8 (R138). -/
def maskBytes (mask : BitVec 48) : List Byte := (List.range 6).map (fun i => mask.extractLsb' (8 * i) 8)

/-- The channels a format enables, C (R160). -/
def Format.channels (f : Format) : Nat := (List.range 48).countP (fun k => f.mask.getLsbD k)

/-- The questions of a format, Q (R160). -/
def Format.questions (f : Format) : Nat := (f.blocks.map AnswerBlock.count).sum

/-- The samples of a whole sheet, R x C x S (R46). -/
def Format.sheetSize (f : Format) : Nat := f.rows * f.channels * f.subSamples

/-- An answer block in 9 bytes (R199). -/
def AnswerBlock.bytes (b : AnswerBlock) : List Byte := u8 b.first ++ u8 b.count ++ u8 b.options ++ b.walk.bytes

/-- A format as FORMAT_LOAD carries it after the slot (R199). -/
def Format.bytes (f : Format) : List Byte :=
  maskBytes f.mask ++ u8 f.subSamples ++ u8 f.rows ++ u8 f.refRow ++ u8 f.tBlank ++ u8 f.tMark ++ u8 f.margin ++
  u8 f.faint.code ++ u8 f.multi.code ++ flag f.sectionFloor ++ s16 f.paperFloor ++ f.idBlock.bytes ++
  listOf AnswerBlock.bytes f.blocks

/-- A key entry in 4 bytes (R199). -/
def KeyEntry.bytes (e : KeyEntry) : List Byte := [e.keySet] ++ u8 e.weight ++ u8 e.penalty ++ u8 e.sect

/-- An entry of the Collection List with its position (R132). -/
def CollEntry.bytes (e : CollEntry) (position : Nat) : List Byte :=
  u16 position ++ u16 e.index ++ u24 e.number ++ u8 e.paper ++ opt16 e.seat ++ u24 e.time ++ u8 e.flags.code

/-- The last-outcome record (R48). -/
def LastOutcome.bytes (o : LastOutcome) : List Byte :=
  u8 o.paper ++ u8 o.outcome.code ++ u16 o.placed ++ u16 o.unplacedAccess ++ u16 o.unplacedGeneral ++ u24 o.time

/-- A decision, or absent: the stacker, then the reason code (log 15). -/
def decisionBytes (d : Option Decision) : List Byte :=
  opt8 (d.map (fun x => x.stacker.code)) ++ u8 ((d.map Decision.reasonCode).getD 0)

/-! ### Notices (R202) -/

/-- The kind of a notice (R202). -/
def NoticeBody.kind : NoticeBody → Nat
  | .controllerStart .. => 0xC0
  | .watchTrace .. => 0xC1
  | .seatFaulted .. => 0xC2
  | .allocEnd .. => 0xC3
  | .paperState .. => 0xC4
  | .lateRefused .. => 0xC5
  | .leaveDenied .. => 0xC6
  | .restEnd .. => 0xC7
  | .awayLong .. => 0xC8
  | .holdBegin .. => 0xC9
  | .holdEnd .. => 0xCA
  | .holdExpired .. => 0xCB
  | .callRaised .. => 0xCC
  | .callEnded .. => 0xCD
  | .scriptCollected .. => 0xCE
  | .collectSkipped .. => 0xCF
  | .collectionState .. => 0xD0
  | .sheetSpoiled .. => 0xD1
  | .sheetDiverted .. => 0xD2
  | .sheetLost .. => 0xD3
  | .readerStop .. => 0xD4
  | .readerError .. => 0xD5
  | .resultCommitted .. => 0xD6
  | .rescoreDone .. => 0xD7
  | .sessionCleared .. => 0xD8

/-- The items of a notice in the order its rule lists them (R202, logs 15 to 17). An item that is also the notice's subject, the
slot of ALLOC_END and COLLECT_SKIPPED and the tag of SHEET_SPOILED, SHEET_DIVERTED and SHEET_LOST, is written again among them
(log 61). Of SHEET_LOST the returned item stands with the candidate's (log 46); SHEET_DIVERTED with a number not in use carries
index 0xFFFF and the number (log 47); a READER_ERROR without a kind carries 0xFF in its byte (log 59). The revision of
CONTROLLER_START takes one byte (log 62). -/
def NoticeBody.items : NoticeBody → List Byte
  | .controllerStart revision rate => u8 revision ++ u8 rate
  | .watchTrace number paper previous new seat used limit flags cause =>
    u24 number ++ u8 paper ++ u8 previous.code ++ u8 new.code ++ opt16 seat ++ u16 used ++ u16 limit ++
    u8 flags.code ++ u8 cause.code ++ u8 cause.kind
  | .seatFaulted seat row col occupant =>
    u16 seat ++ u8 row ++ u8 col ++ group (fun o => u16 o.1 ++ u8 o.2) occupant
  | .allocEnd paper outcome placed unplacedAccess unplacedGeneral =>
    u8 paper ++ u8 outcome.code ++ u16 placed ++ u16 unplacedAccess ++ u16 unplacedGeneral
  | .paperState previous new cause elapsed readingLeft admitted absent active =>
    u8 previous.code ++ u8 new.code ++ u8 cause.code ++ u16 elapsed ++ u16 readingLeft ++ u16 admitted ++
    u16 absent ++ u16 active
  | .lateRefused index number seat elapsed lateCutoff =>
    u16 index ++ u24 number ++ opt16 seat ++ u16 elapsed ++ u16 lateCutoff
  | .leaveDenied index seat reason used remaining =>
    u16 index ++ opt16 seat ++ u8 reason.code ++ u16 used ++ u16 remaining
  | .restEnd index seat restUsed used => u16 index ++ opt16 seat ++ u16 restUsed ++ u16 used
  | .awayLong index seat away used => u16 index ++ opt16 seat ++ u16 away ++ u16 used
  | .holdBegin cause => u8 cause.code
  | .holdEnd cause elapsed => u8 cause.code ++ u16 elapsed
  | .holdExpired cause elapsed abandoned => u8 cause.code ++ u16 elapsed ++ listOf u8 abandoned
  | .callRaised seat index number state => u16 seat ++ u16 index ++ u24 number ++ u8 state.code
  | .callEnded how => u8 how.code
  | .scriptCollected position index number paper seat flags next =>
    u16 position ++ u16 index ++ u24 number ++ u8 paper ++ opt16 seat ++ u8 flags.code ++ opt16 next
  | .collectSkipped paper seat index number reason next =>
    u8 paper ++ u16 seat ++ u16 index ++ u24 number ++ u8 reason.code ++ opt16 next
  | .collectionState previous new cause target admitted collected absent missing =>
    u8 previous.code ++ u8 new.code ++ u8 cause.code ++ opt16 target ++ u16 admitted ++ u16 collected ++
    u16 absent ++ u16 missing
  | .sheetSpoiled tag reason rows => u8 tag ++ u8 reason.code ++ u8 rows
  | .sheetDiverted tag decision bound cand =>
    u8 tag ++ u8 decision.stacker.code ++ u8 decision.reasonCode ++ opt8 bound ++
    group (fun c => opt16 c.index ++ u24 c.number) cand
  | .sheetLost tag cause state decision reported cand returned =>
    u8 tag ++ u8 cause.code ++ u8 state.code ++ decisionBytes decision ++ opt8 (reported.map Stacker.code) ++
    group (fun c => u16 c.1 ++ u24 c.2 ++ flag returned) cand
  | .readerStop cause tags => u8 cause.code ++ listOf u8 tags
  | .readerError reason kind => u8 reason.code ++ opt8 kind
  | .resultCommitted number paper tag final raw floored neg zero clamped generation =>
    u24 number ++ u8 paper ++ u8 tag ++ s16 final ++ s16 raw ++ s16 floored ++
    u8 (resultFlags neg zero clamped) ++ u16 generation
  | .rescoreDone count generation => u16 count ++ u16 generation
  | .sessionCleared freed slots => u16 freed ++ u8 slots

/-! ### Host frames (R187, R197) -/

/-- One bit of the CRC-16 with polynomial 0x1021 (R187). -/
def crcBit (crc : BitVec 16) : BitVec 16 := if crc.msb then (crc <<< 1) ^^^ 0x1021#16 else crc <<< 1

/-- One byte of the CRC-16, most significant bit first (R187). -/
def crcByte (crc : BitVec 16) (b : Byte) : BitVec 16 :=
  crcBit (crcBit (crcBit (crcBit (crcBit (crcBit (crcBit (crcBit
    (crc ^^^ (b.setWidth 16 <<< 8)))))))))

/-- The check over bytes: initial value 0xFFFF, no final inversion (R187). -/
def crc16 (bytes : List Byte) : BitVec 16 := bytes.foldl crcByte 0xFFFF#16

/-- A host frame: start byte, length, kind, tag, body and check (R197). -/
def hostFrame (kind tag : Byte) (body : List Byte) : List Byte :=
  let checked := u16 (body.length + 2) ++ [kind, tag] ++ body
  [0x7E#8] ++ checked ++ u16 (crc16 checked).toNat

/-- The body of a reply after the link-status byte and the result code: the owner's data with OK, nothing with
UNKNOWN_KIND and LENGTH, and a detail of three bytes with any other code (R197). -/
def Answer.data : Answer → List Byte
  | .ok data => data
  | .refused .unknownKind _ => []
  | .refused .length _ => []
  | .refused _ d => u8 d.code ++ u16 d.value

/-- The result code of an answer (R190). -/
def Answer.result : Answer → ResultCode
  | .ok _ => .ok
  | .refused c _ => c

/-- The frame of a built reply (R189, R197). -/
def InHand.frame (r : InHand) : List Byte :=
  hostFrame r.kind r.tag ([r.status] ++ u8 r.answer.result.code ++ r.answer.data)

/-- The frame of a notice: kind 0xC0 or above, tag 0, hall time, subject and items (R191, R197). -/
def Notice.frame (n : Notice) : List Byte :=
  hostFrame (BitVec.ofNat 8 n.body.kind) 0 (u24 n.time ++ u16 n.subject ++ n.body.items)

/-! ### Reader link messages (R138) -/

/-- The check byte that makes the sum of the bytes, modulo 256, equal 0xFF (R100, R138). -/
def checkByte (bytes : List Byte) : Byte := 0xFF#8 - bytes.sum

/-- A reader link frame: start, kind, tag, length, body, check (R138). -/
def readerFrame (kind tag : Byte) (body : List Byte) : List Byte :=
  let summed := [kind, tag] ++ u8 body.length ++ body
  [0xA5#8] ++ summed ++ [checkByte summed]

/-- The frame of a message to the transport (R138). -/
def TxMsg.frame : TxMsg → List Byte
  | .geometry mask subSamples rows => readerFrame 0x41 0 (maskBytes mask ++ u8 subSamples ++ u8 rows)
  | .feed go => readerFrame 0x42 0 (flag go)
  | .divert d => readerFrame 0x43 (BitVec.ofNat 8 d.tag) (u8 d.decision.stacker.code ++ u8 d.decision.reasonCode)

end Sys2Proof.Machine
end

