-- ==== Sys2Proof/Machine/Walk.lean ====
section
/-! DEFINITION. Walks: the descriptor's validity (R39, R42, R45, R46), the order of positions (R40), the cursor (R41), the
advance of a seat walk (R43), and the addresses of a block walk (R45).
-/

namespace Sys2Proof.Machine

/-! ### The cursor (R41) -/

/-- A cursor at the beginning of a walk (R41). -/
def Cursor.start : Cursor := { h := 0, m := 0, l := 0, exhausted := false }

/-- The cursor of a paper whose definition carries no walk (R44). -/
def Cursor.noWalk : Cursor := { Cursor.start with exhausted := true }

/-- A run goes forward, unless the alternate flag is set and its middle index is odd (R40). -/
def runForward (alternate : Bool) (m : Nat) : Bool := !alternate || m % 2 == 0

/-- The inner index at which a run begins (R40). -/
def runFirst (countL : Nat) (alternate : Bool) (m : Nat) : Nat := if runForward alternate m then 0 else countL - 1

/-- The inner index at which a run ends (R40). -/
def runLast (countL : Nat) (alternate : Bool) (m : Nat) : Nat := if runForward alternate m then countL - 1 else 0

/-- The cursor after the position it names is taken: the following position, or, after the last, exhausted with its
indices kept (R41). -/
def Cursor.next (countL countM countH : Nat) (alternate : Bool) (c : Cursor) : Cursor :=
  if c.exhausted then c
  else if c.l ≠ runLast countL alternate c.m then
    { c with l := if runForward alternate c.m then c.l + 1 else c.l - 1 }
  else if c.m + 1 < countM then { c with m := c.m + 1, l := runFirst countL alternate (c.m + 1) }
  else if c.h + 1 < countH then { c with h := c.h + 1, m := 0, l := 0 }
  else { c with exhausted := true }

/-! ### Seat walks (R42, R43) -/

/-- A count of a descriptor lies in 1..64 (R39). -/
def countOk (n : Nat) : Bool := decide (1 ≤ n) && decide (n ≤ 64)

/-- A component of a seat walk step lies in -31..+31 (R42). -/
def stepOk (z : Int) : Bool := decide (-31 ≤ z) && decide (z ≤ 31)

/-- The descriptor is valid as a seat walk against the present grid (R39, R42); a flag byte that is neither set nor clear makes it
invalid, which is answered FORMAT (log 41). -/
def seatWalkValid (w : SeatWalkArgs) (hall : Hall) : Bool :=
  countOk w.countL && countOk w.countM && countOk w.countH &&
  decide (w.countL * w.countM * w.countH ≤ Config.maxWalk) &&
  decide (w.startRow ≤ 31) && decide (w.startCol ≤ 31) && decide (w.startRow < hall.rows) &&
  decide (w.startCol < hall.cols) &&
  stepOk w.eRow && stepOk w.eCol && stepOk w.o1Row && stepOk w.o1Col && stepOk w.o2Row && stepOk w.o2Col &&
  decide (w.alternate ≤ 1)

/-- A valid descriptor as taken: kept as given (R39). -/
def seatWalkTaken (w : SeatWalkArgs) : SeatWalk where
  startRow := w.startRow
  startCol := w.startCol
  e := { row := w.eRow, col := w.eCol }
  o1 := { row := w.o1Row, col := w.o1Col }
  o2 := { row := w.o2Row, col := w.o2Col }
  countL := w.countL
  countM := w.countM
  countH := w.countH
  alternate := w.alternate == 1

/-- The position a cursor names: start plus h times O2, m times O1 and l times E (R40). -/
def SeatWalk.position (w : SeatWalk) (c : Cursor) : Int × Int :=
  ((w.startRow : Int) + c.h * w.o2.row + c.m * w.o1.row + c.l * w.e.row,
   (w.startCol : Int) + c.h * w.o2.col + c.m * w.o1.col + c.l * w.e.col)

/-- The defined seat at a grid position; none outside the grid and at an aisle (R23, R43). -/
def State.seatAt (s : State) (pos : Int × Int) : Option Nat :=
  if 0 ≤ pos.1 ∧ pos.1 < s.hall.rows ∧ 0 ≤ pos.2 ∧ pos.2 < s.hall.cols then
    (s.seats.find? (fun e => (e.2.row : Int) == pos.1 && (e.2.col : Int) == pos.2)).map Prod.fst
  else none

/-- One advance of a seat walk over at most `fuel` positions: positions outside the grid and aisles are passed over in the
same act, and the first defined seat met is offered (R41, R43). -/
def State.advanceSeatWalk (s : State) (w : SeatWalk) : Nat → Cursor → Cursor × Option Nat
  | 0, c => (c, none)
  | fuel + 1, c =>
    if c.exhausted then (c, none)
    else
      let c' := c.next w.countL w.countM w.countH w.alternate
      match s.seatAt (w.position c) with
      | some seat => (c', some seat)
      | none => s.advanceSeatWalk w fuel c'

/-! ### Block walks (R45, R46) -/

/-- The address of sub-sample `l` of option `m` of the block's question `h` (R40, R45; E is +1). -/
def BlockWalk.address (w : BlockWalk) (h m l : Nat) : Int := (w.start : Int) + h * w.o2 + m * w.o1 + l

/-- What an axis takes off the start at its lowest (R46). -/
def axisLow (count : Nat) (step : Int) : Int := min 0 (((count : Int) - 1) * step)

/-- What an axis adds to the start at its highest (R46). -/
def axisHigh (count : Nat) (step : Int) : Int := max 0 (((count : Int) - 1) * step)

/-- The smallest address of a block walk with run length `countL` and counts `countM`, `countH` (R46). -/
def BlockWalk.lowest (w : BlockWalk) (countL countM countH : Nat) : Int :=
  (w.start : Int) + axisLow countL 1 + axisLow countM w.o1 + axisLow countH w.o2

/-- The largest address of a block walk (R46). -/
def BlockWalk.highest (w : BlockWalk) (countL countM countH : Nat) : Int :=
  (w.start : Int) + axisHigh countL 1 + axisHigh countM w.o1 + axisHigh countH w.o2

/-- The walk stays inside the part of the buffer a complete sheet fills (R46). -/
def BlockWalk.fits (w : BlockWalk) (countL countM countH size : Nat) : Bool :=
  decide (0 ≤ w.lowest countL countM countH) && decide (w.highest countL countM countH < size)

end Sys2Proof.Machine
end

