-- ==== Sys2Proof/Machine/Operands.lean ====
section
/-! DEFINITION. The requests on the wire: their kinds and body lengths (R199), the reading of a body into its arguments and
the writing of one (R198).
-/

namespace Sys2Proof.Machine

/-! ### Reading items (R198) -/

/-- The byte at an offset. -/
def at8 (body : List Byte) (i : Nat) : Nat := (body.getD i 0).toNat
/-- The two-byte value at an offset. -/
def at16 (body : List Byte) (i : Nat) : Nat := at8 body i * 256 + at8 body (i + 1)
/-- The three-byte value at an offset. -/
def at24 (body : List Byte) (i : Nat) : Nat := at16 body i * 256 + at8 body (i + 2)
/-- The signed byte at an offset. -/
def atS8 (body : List Byte) (i : Nat) : Int := (body.getD i 0).toInt
/-- The signed two-byte value at an offset. -/
def atS16 (body : List Byte) (i : Nat) : Int := (BitVec.ofNat 16 (at16 body i)).toInt

/-- The seat walk descriptor at an offset, 12 bytes. -/
def atSeatWalk (body : List Byte) (i : Nat) : SeatWalkArgs where
  startRow := at8 body i
  startCol := at8 body (i + 1)
  eRow := atS8 body (i + 2)
  eCol := atS8 body (i + 3)
  o1Row := atS8 body (i + 4)
  o1Col := atS8 body (i + 5)
  o2Row := atS8 body (i + 6)
  o2Col := atS8 body (i + 7)
  countL := at8 body (i + 8)
  countM := at8 body (i + 9)
  countH := at8 body (i + 10)
  alternate := at8 body (i + 11)

/-- The block walk at an offset, 6 bytes. -/
def atBlockWalk (body : List Byte) (i : Nat) : BlockWalkArgs where
  start := at16 body i
  o1 := atS16 body (i + 2)
  o2 := atS16 body (i + 4)

/-- The channel mask at an offset: channel k is bit k mod 8 of byte k div 8 (R138, R199). -/
def atMask (body : List Byte) (i : Nat) : BitVec 48 :=
  body.getD (i + 5) 0 ++ body.getD (i + 4) 0 ++ body.getD (i + 3) 0 ++ body.getD (i + 2) 0 ++ body.getD (i + 1) 0 ++
  body.getD i 0

/-- `n` answer blocks of 9 bytes each (R199). -/
def readBlocks : Nat → List Byte → List AnswerBlockArgs
  | 0, _ => []
  | n + 1, b =>
    { first := at8 b 0, count := at8 b 1, options := at8 b 2, walk := atBlockWalk b 3 } :: readBlocks n (b.drop 9)

/-- `n` key entries of 4 bytes each (R199). -/
def readEntries : Nat → List Byte → List KeyEntryArgs
  | 0, _ => []
  | n + 1, b =>
    { keySet := b.getD 0 0, weight := at8 b 1, penalty := at8 b 2, sect := at8 b 3 } :: readEntries n (b.drop 4)

/-- The definition group of PAPER_DEFINE, from offset 1 (R201). -/
def readPaperArgs (b : List Byte) : PaperArgs where
  code := (b.drop 1).take 8
  reading := at16 b 9
  writing := at16 b 11
  lateCutoff := at16 b 13
  noLeaveFirst := at16 b 15
  noLeaveLast := at16 b 17
  warnA := at16 b 19
  warnB := at16 b 21
  separation := at8 b 23
  collectTimeout := at16 b 24
  startPresent := at8 b 26
  start := at24 b 27
  walkPresent := at8 b 30
  walk := atSeatWalk b 31

/-- The body of HALL_CONFIG (R199). -/
def readHallArgs (b : List Byte) : HallConfigArgs where
  rows := at8 b 0
  cols := at8 b 1
  presentPolarity := at8 b 2
  presentDebounce := at8 b 3
  donePolarity := at8 b 4
  doneDebounce := at8 b 5
  callPolarity := at8 b 6
  callDebounce := at8 b 7
  keyPolarity := at8 b 8
  keyDebounce := at8 b 9
  callSense := at8 b 10
  awayLimit := at16 b 11
  holdLimit := at16 b 13

/-- The body of FORMAT_LOAD after the slot (R199). -/
def readFormatArgs (b : List Byte) : FormatArgs where
  mask := atMask b 1
  subSamples := at8 b 7
  rows := at8 b 8
  refRow := at8 b 9
  tBlank := at8 b 10
  tMark := at8 b 11
  margin := at8 b 12
  faintPolicy := at8 b 13
  multiPolicy := at8 b 14
  sectionFloor := at8 b 15
  paperFloor := atS16 b 16
  idBlock := atBlockWalk b 18
  blocks := readBlocks (at8 b 24) (b.drop 25)

/-! ### Kinds and lengths (R199) -/

/-- The body bytes a request kind needs, the count of FORMAT_LOAD and KEY_LOAD taken as it stands in the body; none for a
kind that names no request (R199). -/
def bodyLength (kind : Nat) (body : List Byte) : Option Nat :=
  match kind with
  | 0x01 => some 0
  | 0x02 => some 0
  | 0x03 => some 0
  | 0x04 => some 3
  | 0x05 => some 15
  | 0x06 => some 6
  | 0x07 => some 3
  | 0x08 => some 4
  | 0x10 => some 43
  | 0x11 => some 1
  | 0x12 => some 10
  | 0x13 => some 2
  | 0x14 => some 4
  | 0x15 => some 3
  | 0x18 => some 14
  | 0x19 => some 0
  | 0x1A => some 4
  | 0x1B => some 2
  | 0x20 => some 1
  | 0x21 => some 1
  | 0x22 => some 2
  | 0x23 => some 2
  | 0x24 => some 0
  | 0x25 => some 0
  | 0x28 => some 2
  | 0x29 => some 1
  | 0x2A => some 3
  | 0x30 => some (25 + 9 * at8 body 24)
  | 0x31 => some 1
  | 0x32 => some (3 + 4 * at8 body 2)
  | 0x33 => some 3
  | 0x34 => some 1
  | 0x35 => some 0
  | 0x36 => some 1
  | 0x37 => some 2
  | 0x38 => some 2
  | _ => none

/-- The arguments of a body whose length fits its kind (R199). -/
def readBody (kind : Nat) (b : List Byte) : Option Request :=
  match kind with
  | 0x01 => some .identify
  | 0x02 => some .status
  | 0x03 => some .sessionClear
  | 0x04 => some (.timeSet (at24 b 0))
  | 0x05 => some (.hallConfig (readHallArgs b))
  | 0x06 => some (.seatDefine (at16 b 0) (at8 b 2) (at8 b 3) (at8 b 4) (at8 b 5))
  | 0x07 => some (.seatState (at16 b 0) (at8 b 2))
  | 0x08 => some (.seatRead (at8 b 0) (at16 b 1) (at8 b 3))
  | 0x10 => some (.paperDefine (at8 b 0) (readPaperArgs b))
  | 0x11 => some (.paperRead (at8 b 0))
  | 0x12 => some (.candAdd (at24 b 0) (at8 b 3) (at8 b 4) (at8 b 5) (at16 b 6) (at16 b 8))
  | 0x13 => some (.candRemove (at16 b 0))
  | 0x14 => some (.candRead (at8 b 0) (at24 b 1))
  | 0x15 => some (.candWatch (at16 b 0) (at8 b 2))
  | 0x18 => some (.allocate (at8 b 0) (atSeatWalk b 1) (at8 b 13))
  | 0x19 => some .allocAbort
  | 0x1A => some (.move (at16 b 0) (at16 b 2))
  | 0x1B => some (.unseat (at16 b 0))
  | 0x20 => some (.paperStart (at8 b 0))
  | 0x21 => some (.paperAbandon (at8 b 0))
  | 0x22 => some (.admitCand (at16 b 0))
  | 0x23 => some (.finish (at16 b 0))
  | 0x24 => some .hold
  | 0x25 => some .resume
  | 0x28 => some (.collectMark (at16 b 0))
  | 0x29 => some (.collectClose (at8 b 0))
  | 0x2A => some (.collectionRead (at8 b 0) (at16 b 1))
  | 0x30 => some (.formatLoad (at8 b 0) (readFormatArgs b))
  | 0x31 => some (.formatRead (at8 b 0))
  | 0x32 => some (.keyLoad (at8 b 0) (at8 b 1) (readEntries (at8 b 2) (b.drop 3)))
  | 0x33 => some (.keyRead (at8 b 0) (at8 b 1) (at8 b 2))
  | 0x34 => some (.markBind (at8 b 0))
  | 0x35 => some .markUnbind
  | 0x36 => some (.rescore (at8 b 0))
  | 0x37 => some (.resultRead (at16 b 0))
  | 0x38 => some (.responsesRead (at16 b 0))
  | _ => none

/-- What a taken frame asks (R189, R199). -/
inductive Asked where
  | unknownKind
  | badLength
  | request (r : Request)
  deriving DecidableEq, Repr

/-- The kind is checked first, then the body length; a FORMAT_LOAD or KEY_LOAD shorter than its fixed part has a wrong
length (R199). -/
def readRequest (kind : Nat) (body : List Byte) : Asked :=
  match bodyLength kind body, readBody kind body with
  | some n, some r =>
    if (kind = 0x30 ∧ body.length < 25) ∨ (kind = 0x32 ∧ body.length < 3) then .badLength
    else if body.length = n then .request r
    else .badLength
  | _, _ => .unknownKind

/-! ### Writing a request -/

/-- The kind code of a request (R199). -/
def requestKind : Request → Nat
  | .identify => 0x01
  | .status => 0x02
  | .sessionClear => 0x03
  | .timeSet .. => 0x04
  | .hallConfig .. => 0x05
  | .seatDefine .. => 0x06
  | .seatState .. => 0x07
  | .seatRead .. => 0x08
  | .paperDefine .. => 0x10
  | .paperRead .. => 0x11
  | .candAdd .. => 0x12
  | .candRemove .. => 0x13
  | .candRead .. => 0x14
  | .candWatch .. => 0x15
  | .allocate .. => 0x18
  | .allocAbort => 0x19
  | .move .. => 0x1A
  | .unseat .. => 0x1B
  | .paperStart .. => 0x20
  | .paperAbandon .. => 0x21
  | .admitCand .. => 0x22
  | .finish .. => 0x23
  | .hold => 0x24
  | .resume => 0x25
  | .collectMark .. => 0x28
  | .collectClose .. => 0x29
  | .collectionRead .. => 0x2A
  | .formatLoad .. => 0x30
  | .formatRead .. => 0x31
  | .keyLoad .. => 0x32
  | .keyRead .. => 0x33
  | .markBind .. => 0x34
  | .markUnbind => 0x35
  | .rescore .. => 0x36
  | .resultRead .. => 0x37
  | .responsesRead .. => 0x38

/-- A seat walk descriptor as given, in 12 bytes (R198). -/
def writeSeatWalk (w : SeatWalkArgs) : List Byte :=
  u8 w.startRow ++ u8 w.startCol ++ s8 w.eRow ++ s8 w.eCol ++ s8 w.o1Row ++ s8 w.o1Col ++ s8 w.o2Row ++ s8 w.o2Col ++
  u8 w.countL ++ u8 w.countM ++ u8 w.countH ++ u8 w.alternate

/-- A block walk as given, in 6 bytes (R198). -/
def writeBlockWalk (w : BlockWalkArgs) : List Byte := u16 w.start ++ s16 w.o1 ++ s16 w.o2

/-- The definition group as given, in 42 bytes (R201). -/
def writePaperArgs (a : PaperArgs) : List Byte :=
  a.code ++ u16 a.reading ++ u16 a.writing ++ u16 a.lateCutoff ++ u16 a.noLeaveFirst ++ u16 a.noLeaveLast ++
  u16 a.warnA ++ u16 a.warnB ++ u8 a.separation ++ u16 a.collectTimeout ++ u8 a.startPresent ++ u24 a.start ++
  u8 a.walkPresent ++ writeSeatWalk a.walk

/-- The body of HALL_CONFIG (R199). -/
def writeHallArgs (a : HallConfigArgs) : List Byte :=
  u8 a.rows ++ u8 a.cols ++ u8 a.presentPolarity ++ u8 a.presentDebounce ++ u8 a.donePolarity ++ u8 a.doneDebounce ++
  u8 a.callPolarity ++ u8 a.callDebounce ++ u8 a.keyPolarity ++ u8 a.keyDebounce ++ u8 a.callSense ++
  u16 a.awayLimit ++ u16 a.holdLimit

/-- The body of FORMAT_LOAD after the slot (R199). -/
def writeFormatArgs (a : FormatArgs) : List Byte :=
  maskBytes a.mask ++ u8 a.subSamples ++ u8 a.rows ++ u8 a.refRow ++ u8 a.tBlank ++ u8 a.tMark ++ u8 a.margin ++
  u8 a.faintPolicy ++ u8 a.multiPolicy ++ u8 a.sectionFloor ++ s16 a.paperFloor ++ writeBlockWalk a.idBlock ++
  listOf (fun b => u8 b.first ++ u8 b.count ++ u8 b.options ++ writeBlockWalk b.walk) a.blocks

/-- The body of a request (R199). -/
def requestBody : Request → List Byte
  | .identify | .status | .sessionClear | .allocAbort | .hold | .resume | .markUnbind => []
  | .timeSet time => u24 time
  | .hallConfig a => writeHallArgs a
  | .seatDefine seat action row col cls => u16 seat ++ u8 action ++ u8 row ++ u8 col ++ u8 cls
  | .seatState seat action => u16 seat ++ u8 action
  | .seatRead selector place mode => u8 selector ++ u16 place ++ u8 mode
  | .paperDefine slot a => u8 slot ++ writePaperArgs a
  | .paperRead slot => u8 slot
  | .candAdd number slot allowance needs restBudget seat =>
    u24 number ++ u8 slot ++ u8 allowance ++ u8 needs ++ u16 restBudget ++ u16 seat
  | .candRemove index => u16 index
  | .candRead selector value => u8 selector ++ u24 value
  | .candWatch index watch => u16 index ++ u8 watch
  | .allocate slot walk spill => u8 slot ++ writeSeatWalk walk ++ u8 spill
  | .move index seat => u16 index ++ u16 seat
  | .unseat index => u16 index
  | .paperStart slot => u8 slot
  | .paperAbandon slot => u8 slot
  | .admitCand index => u16 index
  | .finish index => u16 index
  | .collectMark index => u16 index
  | .collectClose slot => u8 slot
  | .collectionRead selector start => u8 selector ++ u16 start
  | .formatLoad slot a => u8 slot ++ writeFormatArgs a
  | .formatRead slot => u8 slot
  | .keyLoad slot first entries =>
    u8 slot ++ u8 first ++ listOf (fun e => [e.keySet] ++ u8 e.weight ++ u8 e.penalty ++ u8 e.sect) entries
  | .keyRead slot first count => u8 slot ++ u8 first ++ u8 count
  | .markBind slot => u8 slot
  | .rescore slot => u8 slot
  | .resultRead index => u16 index
  | .responsesRead index => u16 index

/-- The complete frame that carries a request with a tag (R197). -/
def requestFrame (r : Request) (tag : Nat) : Frame where
  kind := BitVec.ofNat 8 (requestKind r)
  tag := BitVec.ofNat 8 tag
  body := requestBody r

end Sys2Proof.Machine
end

