-- ==== Sys2Proof/Machine/HallMap.lean ====
section
/-! DEFINITION. The Seat Map (R23 to R38): neighbours, the separation and target tests (R30, R53, R62), the loop records and
polling order that follow a seat's state (R97, R98), HALL_CONFIG, SEAT_DEFINE, SEAT_STATE and SEAT_READ.
-/

namespace Sys2Proof.Machine

/-! ### Neighbours (R30) -/

/-- The two numbers differ by 1. -/
def differByOne (a b : Nat) : Bool := a == b + 1 || b == a + 1

/-- Two different defined seats are neighbours under a separation mode (R30). -/
def neighbours (mode : Separation) (a b : Seat) : Bool :=
  let row := a.row == b.row && differByOne a.col b.col
  let grid := row || (a.col == b.col && differByOne a.row b.row)
  match mode with
  | .none => false
  | .row => row
  | .grid => grid
  | .diag => grid || (differByOne a.row b.row && differByOne a.col b.col)

/-- The seat is occupied by a candidate of the paper. -/
def State.holdsPaper (s : State) (seat : Seat) (paper : Nat) : Bool :=
  match seat.occupant.bind s.cand with
  | some c => c.paper == paper
  | none => false

/-- The first neighbour, by seat number, that makes the separation test of seat `n` fail for a candidate of a paper with
this mode; `own` is a seat left out (R53). -/
def State.firstBlocking (s : State) (mode : Separation) (paper n : Nat) (seat : Seat) (own : Option Nat) : Option Nat :=
  (s.seats.find? (fun e =>
    e.1 != n && own != some e.1 && neighbours mode seat e.2 && s.holdsPaper e.2 paper)).map Prod.fst

/-- Why a seat does not pass as a new seat for a candidate of a paper: a result code with its detail (R61 check 4, R62). -/
def State.targetFailure (s : State) (n paper : Nat) (mode : Separation) (needsAccess : Bool) (own : Option Nat) :
    Option (ResultCode × Detail) :=
  match s.seat n with
  | none => some (.notFound, { code := 0, value := 0 })
  | some seat =>
    if seat.state ≠ .enabled then some (.state, { code := 1, value := seat.state.code })
    else
      match seat.occupant with
      | some i => some (.conflict, { code := 2, value := i })
      | none =>
        if needsAccess ∧ seat.cls ≠ .access then some (.conflict, { code := 3, value := 0 })
        else
          match s.firstBlocking mode paper n seat own with
          | some k => some (.conflict, { code := 4, value := k })
          | none => none

/-- The present level a candidate takes from a seat: active where the conditioned PRESENT state is active (R5). -/
def State.seatPresent (s : State) (n : Nat) : Bool :=
  match s.loop n with
  | some r => decide (r.presentIn.cond = .active)
  | none => false

/-! ### Loop records and the polling order (R97, R98) -/

/-- An input with an empty history and unknown state (R97). -/
def InputRec.blank : InputRec := { hist := [], cond := .unknown }

/-- The loop record of a seat that becomes ENABLED from UNDEFINED or DISABLED (R97). -/
def LoopRec.new : LoopRec where
  misses := 0
  presentIn := InputRec.blank
  doneIn := InputRec.blank
  callIn := InputRec.blank
  keyIn := InputRec.blank
  fresh := true
  call := none
  answered := false
  lamp := none

/-- The loop record with every conditioned state unknown and the fresh-take mark set (R97, R107). -/
def LoopRec.toFresh (r : LoopRec) : LoopRec :=
  { r with
    presentIn := { r.presentIn with cond := .unknown }
    doneIn := { r.doneIn with cond := .unknown }
    callIn := { r.callIn with cond := .unknown }
    keyIn := { r.keyIn with cond := .unknown }
    fresh := true }

/-- The ENABLED and FAULTY seats, in ascending seat number (R99). -/
def State.pollingOrder (s : State) : List Nat :=
  (s.seats.filter (fun e => decide (e.2.state ≠ .disabled))).map Prod.fst

/-- A pass is in progress: a seat of its list is still to be polled, or the window of a regular poll is open (R99). -/
def State.passInProgress (s : State) : Bool := !s.passList.isEmpty || s.window.any (fun w => !w.closing)

/-- Where the last seat of a pass has been dealt with, or the list was empty, the next pass begins at once and takes its list;
none begins before the reset sweep is over (R98, R99, log 39). -/
def State.nextPass (s : State) : State :=
  if s.sweep.isNone && !s.passInProgress then { s with passList := s.pollingOrder } else s

/-- The reply window ends. With the last window of the reset sweep the sweep is over (R98), and with the window of a pass's
last seat the pass is (R99). -/
def State.endWindow (s : State) : State :=
  let t : State := { s with window := none, sweep := if s.sweep = some Config.indexCount then none else s.sweep }
  t.nextPass

/-- A seat joins the polling order: it gets a loop record, and a closing poll of it that was not sent is not sent (R97,
R98). It is in no list of the pass in progress; with none in progress the next begins (R99). -/
def State.joinLoop (s : State) (n : Nat) : State :=
  { s with loops := Table.insert s.loops n LoopRec.new, closing := s.closing.filter (· ≠ n) }.nextPass

/-- A seat leaves the polling order: its loop record is dropped, it is passed over for the rest of the pass (R99), a closing
poll is due, in the reset sweep too (R98, log 44), and a reply window open for it becomes that of a closing poll (R102). Where
the pass ends by that, the next begins (log 39). -/
def State.leaveLoop (s : State) (n : Nat) : State :=
  let t : State :=
    { s with
      loops := Table.erase s.loops n
      closing := s.closing.filter (· ≠ n) ++ [n]
      passList := s.passList.filter (· ≠ n)
      window := s.window.map (fun w => if w.seat = n then { w with closing := true } else w) }
  t.nextPass

/-! ### HALL_CONFIG (R24, R25) -/

/-- Check 1 of R24. -/
def hallInRange (a : HallConfigArgs) : Bool :=
  decide (1 ≤ a.rows) && decide (a.rows ≤ 32) && decide (1 ≤ a.cols) && decide (a.cols ≤ 32) &&
  decide (a.presentPolarity ≤ 1) && decide (a.donePolarity ≤ 1) && decide (a.callPolarity ≤ 1) &&
  decide (a.keyPolarity ≤ 1) &&
  decide (1 ≤ a.presentDebounce) && decide (1 ≤ a.doneDebounce) && decide (1 ≤ a.callDebounce) &&
  decide (1 ≤ a.keyDebounce) && decide (a.callSense ≤ 1)

/-- The conditioning of one input kind as taken: a debounce above 4 is clamped to 4 (R24). -/
def inputConf (polarity debounce : Nat) : InputConf where
  polarity := if polarity = 0 then .activeHigh else .activeLow
  debounce := min debounce 4

/-- The settings as taken, with the clamps of R24. -/
def hallTaken (a : HallConfigArgs) : Hall where
  rows := a.rows
  cols := a.cols
  presentConf := inputConf a.presentPolarity a.presentDebounce
  doneConf := inputConf a.donePolarity a.doneDebounce
  callConf := inputConf a.callPolarity a.callDebounce
  keyConf := inputConf a.keyPolarity a.keyDebounce
  callSense := if a.callSense = 0 then .latch else .level
  awayLimit := min a.awayLimit 1800
  holdLimit := min a.holdLimit 7200

/-- The conditioning of one input kind, 2 bytes (R199). -/
def InputConf.bytes (c : InputConf) : List Byte := u8 c.polarity.code ++ u8 c.debounce

/-- Every setting as taken, in the order of HALL_CONFIG's body (R25, R199). -/
def Hall.bytes (h : Hall) : List Byte :=
  u8 h.rows ++ u8 h.cols ++ h.presentConf.bytes ++ h.doneConf.bytes ++ h.callConf.bytes ++ h.keyConf.bytes ++
  u8 h.callSense.code ++ u16 h.awayLimit ++ u16 h.holdLimit

/-- Every ENABLED seat takes its inputs afresh from its next good reply; a FAULTY seat keeps its states (R25, R107). The
occupant's present level stands until then (log 40). -/
def State.freshTakes (s : State) : State :=
  { s with loops := s.loops.map (fun e =>
      match s.seat e.1 with
      | some seat => if seat.state = .enabled then (e.1, e.2.toFresh) else e
      | none => e) }

/-- HALL_CONFIG (R24, R25). -/
def decideHallConfig (a : HallConfigArgs) (s : State) : State × Answer :=
  if ¬ hallInRange a then refuse .range s
  else if s.job.isSome then refuse .busy s
  else if s.papers.any (fun e => e.2.state.running) then refuse .state s
  else if ¬ s.seats.all (fun e => decide (e.2.row < a.rows) && decide (e.2.col < a.cols)) then refuse .state s
  else if ¬ s.papers.all (fun e => match e.2.defn.walk with
      | some w => decide (w.startRow < a.rows) && decide (w.startCol < a.cols)
      | none => true) then refuse .state s
  else
    let t := { s.freshTakes with hall := hallTaken a }
    (t, .ok (t.hall.bytes ++ u16 s.seats.length))

/-! ### SEAT_DEFINE (R31 to R33) -/

/-- A seat's fields in R26's order: position, class, seat state, occupant, fault cause (log 15; NO_REPLY as 0, log 42). -/
def Seat.bytes (x : Seat) : List Byte :=
  u8 x.row ++ u8 x.col ++ u8 x.cls.code ++ u8 x.state.code ++ opt16 x.occupant ++ opt8 (x.fault.map (fun _ => 0))

/-- The class a byte names (R198). -/
def seatClassOf (code : Nat) : SeatClass := if code = 0 then .standard else .access

/-- SEAT_DEFINE with action DEFINE (R31, R32). -/
def decideSeatDefine (n row col cls : Nat) (s : State) : State × Answer :=
  if ¬ (n < Config.indexCount ∧ cls ≤ 1 ∧ row < s.hall.rows ∧ col < s.hall.cols) then refuse .range s
  else if s.job.isSome then refuse .busy s
  else if s.seats.any (fun e => e.1 != n && e.2.row == row && e.2.col == col) then refuse .conflict s
  else
    match s.seat n with
    | none =>
      let seat : Seat :=
        { row := row, col := col, cls := seatClassOf cls, state := .enabled, occupant := none, fault := none }
      ({ s with seats := Table.insert s.seats n seat }.joinLoop n, .ok seat.bytes)
    | some old =>
      if old.occupant.isSome ∧ ¬ (old.row = row ∧ old.col = col ∧ old.cls = seatClassOf cls) then refuse .state s
      else
        let seat := { old with row := row, col := col, cls := seatClassOf cls }
        (s.modSeat n (fun _ => seat), .ok seat.bytes)

/-- SEAT_DEFINE with action REMOVE (R33). A DISABLED seat has left the polling order already (R98). -/
def decideSeatRemove (n : Nat) (s : State) : State × Answer :=
  if ¬ n < Config.indexCount then refuse .range s
  else if s.job.isSome then refuse .busy s
  else
    match s.seat n with
    | none => refuse .notFound s
    | some seat =>
      if seat.occupant.isSome then refuse .state s
      else
        let t := { s with seats := Table.erase s.seats n }
        (if seat.state = .disabled then t else t.leaveLoop n, .ok (u8 seat.row ++ u8 seat.col))

/-- SEAT_DEFINE by its action byte: DEFINE 0, REMOVE 1 (R31, R199). -/
def decideSeatDefineAction (n action row col cls : Nat) (s : State) : State × Answer :=
  match action with
  | 0 => decideSeatDefine n row col cls s
  | 1 => decideSeatRemove n s
  | _ => refuse .range s

/-! ### SEAT_STATE (R34, R35) -/

/-- The reply to a taken SEAT_STATE: the seat state after the request and the occupant (R34). -/
def seatStateAnswer (state : SeatState) (occupant : Option Nat) : Answer := .ok (u8 state.code ++ opt16 occupant)

/-- A seat's miss count set to 0 (R34). -/
def State.clearMisses (s : State) (n : Nat) : State := s.modLoop n (fun r => { r with misses := 0 })

/-- SEAT_STATE CLEAR of a FAULTY seat: ENABLED, no misses, no fault cause, inputs taken afresh, and the occupant's
SEAT_FAULT cleared with a WATCH_TRACE of cause SEAT (R34, R35, R97). The occupant's present level stands (log 40). -/
def State.clearFault (s : State) (n : Nat) (seat : Seat) : State :=
  let t := (s.modSeat n (fun x => { x with state := .enabled, fault := none })).modLoop n
    (fun r => { r.toFresh with misses := 0 })
  match seat.occupant with
  | some i => t.changeCand i (fun c => c.setSeatFault false) .seat
  | none => t

/-- SEAT_STATE ENABLE 0, DISABLE 1, CLEAR 2 (R34, R199). -/
def decideSeatState (n action : Nat) (s : State) : State × Answer :=
  if ¬ (n < Config.indexCount ∧ action ≤ 2) then refuse .range s
  else if s.job.isSome then refuse .busy s
  else
    match s.seat n with
    | none => refuse .notFound s
    | some seat =>
      match action, seat.state with
      | 0, .enabled => (s, seatStateAnswer .enabled seat.occupant)
      | 0, .disabled =>
        ((s.modSeat n (fun x => { x with state := .enabled })).joinLoop n, seatStateAnswer .enabled seat.occupant)
      | 0, .faulty => refuse .state s
      | 1, .disabled => (s, seatStateAnswer .disabled seat.occupant)
      | 1, _ =>
        if seat.occupant.isSome then refuse .state s
        else
          ((s.modSeat n (fun x => { x with state := .disabled, fault := none })).leaveLoop n,
            seatStateAnswer .disabled seat.occupant)
      | _, .enabled => (s.clearMisses n, seatStateAnswer .enabled seat.occupant)
      | _, .disabled => refuse .state s
      | _, .faulty => (s.clearFault n seat, seatStateAnswer .enabled seat.occupant)

/-! ### SEAT_READ (R37, R38) -/

/-- The separation mode a byte names (R198). -/
def separationOf : Nat → Option Separation
  | 0 => some .none
  | 1 => some .row
  | 2 => some .grid
  | 3 => some .diag
  | _ => none

/-- The slot of the paper whose collection target a seat is (R37, R123). -/
def State.targetOf (s : State) (n : Nat) : Option Nat :=
  (s.papers.find? (fun e => e.2.coll.target == some n)).map Prod.fst

/-- The paper slot of a seat's occupant, or none. -/
def State.occupantPaper (s : State) (seat : Seat) : Option Nat := (seat.occupant.bind s.cand).map Cand.paper

/-- The neighbours of a seat under a mode, in ascending seat number (R38). -/
def State.neighbourList (s : State) (mode : Separation) (n : Nat) : Table Seat :=
  match s.seat n with
  | some seat => s.seats.filter (fun e => e.1 != n && neighbours mode seat e.2)
  | none => []

/-- One entry of the neighbour list: seat number, seat state, the occupant's paper slot or empty (R38). -/
def State.neighbourBytes (s : State) (e : Nat × Seat) : List Byte :=
  u16 e.1 ++ u8 e.2.state.code ++ opt8 (s.occupantPaper e.2)

/-- The occupant group of SEAT_READ (R37). -/
def State.occupantBytes (s : State) (i : Nat) : List Byte :=
  match s.cand i with
  | some c => u16 i ++ u24 c.number ++ u8 c.paper ++ u8 c.state.code
  | none => []

/-- The seat loop group of SEAT_READ (R37); of the lamp last commanded the code alone (log 43). -/
def LoopRec.bytes (r : LoopRec) : List Byte :=
  u8 r.misses ++ u8 r.presentIn.cond.code ++ u8 r.doneIn.cond.code ++ u8 r.callIn.cond.code ++ u8 r.keyIn.cond.code ++
  flag r.call.isSome ++ opt8 (r.lamp.map (fun x => x.lamp.code))

/-- The OK data of SEAT_READ for a seat number, with a neighbour list where a mode is given (R37, R38, log 15; NO_REPLY as 0, log 42). -/
def State.seatBytes (s : State) (n : Nat) (mode : Option Separation) : List Byte :=
  u24 s.hallTime ++ u8 s.hall.rows ++ u8 s.hall.cols ++ u16 n ++
  u8 ((s.seat n).elim 0 (fun x => x.state.code)) ++
  group (fun x => u8 x.row ++ u8 x.col ++ u8 x.cls.code ++ opt8 (x.fault.map (fun _ => 0))) (s.seat n) ++
  group s.occupantBytes ((s.seat n).bind Seat.occupant) ++ opt8 (s.targetOf n) ++ group LoopRec.bytes (s.loop n) ++
  (match mode with
   | some m => listOf s.neighbourBytes (s.neighbourList m n)
   | none => [])

/-- SEAT_READ: selector by number 0 or by position 1, the seat number or row and column, and a neighbour mode or 0xFF for
no list (R37, R38, R199). -/
def decideSeatRead (selector place mode : Nat) (s : State) : State × Answer :=
  if ¬ (mode ≤ 3 ∨ mode = Config.absent8) then refuse .range s
  else
    match selector with
    | 0 =>
      if ¬ place < Config.indexCount then refuse .range s
      else (s, .ok (s.seatBytes place (separationOf mode)))
    | 1 =>
      if ¬ (place / 256 ≤ 31 ∧ place % 256 ≤ 31) then refuse .range s
      else
        match s.seatAt ((place / 256 : Nat), (place % 256 : Nat)) with
        | none => refuse .notFound s
        | some n => (s, .ok (s.seatBytes n (separationOf mode)))
    | _ => refuse .range s

end Sys2Proof.Machine
end

