-- ==== Sys2Proof/Machine/Candidates.lean ====
section
/-! DEFINITION. The Candidate Table's requests: CAND_ADD, CAND_REMOVE, CAND_READ, CAND_WATCH (R6 to R14).
-/

namespace Sys2Proof.Machine

/-- The limit of a candidate with allowance `a` of a paper with writing time `d` (R6). -/
def limitOf (d a : Nat) : Nat := ceilDiv (d * (100 + a)) 100

/-- The index of the record in use that holds a number (R1). -/
def State.findNumber (s : State) (number : Nat) : Option Nat :=
  (s.cands.find? (fun e => e.2.number == number)).map Prod.fst

/-- The seat a two-byte field names; 0xFFFF means none (R198, R199). -/
def seatField (seat : Nat) : Option Nat := if seat = Config.absent16 then none else some seat

/-- Check 6 of R8. -/
def addAllowed (p : Paper) (seat : Option Nat) : Bool :=
  match p.state with
  | .planned => true
  | .reading => seat.isSome
  | .writing | .extended => seat.isSome && decide (p.elapsed ≤ p.defn.lateCutoff)
  | .closed | .abandoned => false

/-- The record of a new candidate (R9). -/
def newCand (number slot allowance : Nat) (needsAccess : Bool) (restBudget writing : Nat) (seat : Option Nat)
    (present : Bool) : Cand where
  number := number
  paper := slot
  allowance := allowance
  needsAccess := needsAccess
  restBudget := min restBudget 3600
  restUsed := 0
  seat := seat
  state := if seat.isSome then .seated else .unseated
  finish := none
  limit := limitOf writing allowance
  used := 0
  flags := CandFlags.clear
  present := present
  result := none
  awayCount := 0
  awayReported := false

/-- Bring a record into use at a free index, and, with a seat, make the candidate its occupant in the same step (R9, R10,
R28). -/
def State.addCand (s : State) (i : Nat) (c : Cand) : State :=
  let t := { s with cands := Table.insert s.cands i c }
  match c.seat with
  | some n => t.modSeat n (fun x => { x with occupant := some i })
  | none => t

/-- CAND_ADD (R8 to R10). -/
def decideCandAdd (number slot allowance needs restBudget seatCode : Nat) (s : State) : State × Answer :=
  let seat := seatField seatCode
  if s.job.isSome then refuse .busy s
  else if ¬ (1 ≤ number ∧ number ≤ 999999 ∧ slot < Config.slotCount ∧ allowance ≤ 100 ∧ needs ≤ 1 ∧
      seat.all (· < Config.indexCount)) then refuse .range s
  else
    match s.paper slot with
    | none => refuse .notFound s
    | some p =>
      if (s.findNumber number).isSome then refuse .conflict s
      else
        match Table.firstFree s.cands Config.indexCount with
        | none => refuse .full s
        | some i =>
          if ¬ addAllowed p seat then refuse .state s
          else
            match seat.bind (fun n => s.targetFailure n slot p.defn.separation (needs == 1) none) with
            | some (code, d) => refuseWith code d.code d.value s
            | none =>
              let c := newCand number slot allowance (needs == 1) restBudget p.defn.writing seat
                ((seat.map s.seatPresent).getD false)
              (s.addCand i c, .ok (u16 i ++ c.bytes i s.hallTime))

/-- CAND_REMOVE (R11): the record of an UNSEATED candidate is freed, without a WATCH_TRACE. -/
def decideCandRemove (index : Nat) (s : State) : State × Answer :=
  if s.job.isSome then refuse .busy s
  else if ¬ index < Config.indexCount then refuse .range s
  else
    match s.cand index with
    | none => refuse .notFound s
    | some c =>
      if c.state ≠ .unseated then refuse .state s
      else ({ s with cands := Table.erase s.cands index }, .ok (u24 c.number))

/-- The reply of CAND_READ for an index (R12, R200). -/
def candReadAnswer (index : Nat) (s : State) : State × Answer :=
  match s.cand index with
  | none => refuse .notFound s
  | some c => (s, .ok (c.bytes index s.hallTime))

/-- CAND_READ: selector index 0 (the last two of the three bytes; the first is not examined, log 60) or number 1 (R12, R199). -/
def decideCandRead (selector value : Nat) (s : State) : State × Answer :=
  match selector with
  | 0 => if value % 65536 < Config.indexCount then candReadAnswer (value % 65536) s else refuse .range s
  | 1 =>
    if ¬ (1 ≤ value ∧ value ≤ 999999) then refuse .range s
    else
      match s.findNumber value with
      | none => refuse .notFound s
      | some i => candReadAnswer i s
  | _ => refuse .range s

/-- The records with WATCH set (R13). -/
def State.watchCount (s : State) : Nat := s.cands.countP (fun e => e.2.flags.watch)

/-- CAND_WATCH (R13). -/
def decideCandWatch (index watch : Nat) (s : State) : State × Answer :=
  if ¬ (index < Config.indexCount ∧ watch ≤ 1) then refuse .range s
  else
    match s.cand index with
    | none => refuse .notFound s
    | some c =>
      if watch = 1 ∧ c.flags.watch = false ∧ Config.watchCapacity ≤ s.watchCount then refuse .full s
      else
        let t := s.modCand index (fun x => { x with flags := { x.flags with watch := watch == 1 } })
        (t, .ok (u8 t.watchCount))

end Sys2Proof.Machine
end

