-- ==== Sys2Proof/Machine/Papers.lean ====
section
/-! DEFINITION. The paper table's requests: PAPER_DEFINE and PAPER_READ (R15 to R22).
-/

namespace Sys2Proof.Machine

/-- Check 1 of R18; a presence byte other than 0 and 1 holds no listed code (R198, log 18). -/
def paperInRange (slot : Nat) (a : PaperArgs) : Bool :=
  decide (slot < Config.slotCount) && decide (60 ≤ a.writing) && decide (a.writing ≤ 28800) &&
  decide (a.separation ≤ 3) && a.code.all (fun b => decide (0x20 ≤ b.toNat) && decide (b.toNat ≤ 0x7E)) &&
  decide (a.startPresent ≤ 1) && decide (a.start ≤ Config.maxTime) && decide (a.walkPresent ≤ 1)

/-- The definition group as taken, clamped in R19's order. -/
def paperTaken (a : PaperArgs) : PaperDef where
  code := a.code
  reading := min a.reading 1800
  writing := a.writing
  lateCutoff := min a.lateCutoff a.writing
  noLeaveFirst := min a.noLeaveFirst a.writing
  noLeaveLast := min a.noLeaveLast a.writing
  warnA := min a.warnA 3600
  warnB := min a.warnB (min a.warnA 3600)
  separation := (separationOf a.separation).getD .none
  collectTimeout := min a.collectTimeout 600
  start := if a.startPresent = 1 then some a.start else none
  walk := if a.walkPresent = 1 then some (seatWalkTaken a.walk) else none

/-- The collection group of a newly defined or redefined paper (R20, R21, R120). -/
def Collecting.new (d : PaperDef) : Collecting where
  state := .idle
  cursor := if d.walk.isSome then Cursor.start else Cursor.noWalk
  target := none
  timer := 0
  admitted := 0
  collected := 0
  absent := 0
  missing := 0

/-- The record of a newly defined paper (R20). -/
def Paper.new (d : PaperDef) : Paper where
  defn := d
  state := .planned
  readingLeft := d.reading
  elapsed := 0
  coll := Collecting.new d
  format := none
  key := []
  generation := 0
  marking := .notReady

/-- A PLANNED paper redefined: the marking group is kept (R21). -/
def Paper.redefined (p : Paper) (d : PaperDef) : Paper :=
  { p with defn := d, state := .planned, readingLeft := d.reading, elapsed := 0, coll := Collecting.new d }

/-- PAPER_DEFINE (R18 to R21). -/
def decidePaperDefine (slot : Nat) (a : PaperArgs) (s : State) : State × Answer :=
  if ¬ paperInRange slot a then refuse .range s
  else if a.walkPresent = 1 ∧ ¬ seatWalkValid a.walk s.hall then refuse .format s
  else if s.job.any (fun j => j.paper == slot) then refuse .busy s
  else if s.papers.any (fun e => e.1 != slot && e.2.defn.code == a.code) then refuse .conflict s
  else
    let d := paperTaken a
    match s.paper slot with
    | none => ({ s with papers := Table.insert s.papers slot (Paper.new d) }, .ok (d.bytes ++ u16 0))
    | some p =>
      if ¬ (p.state = .planned ∧ s.countCands slot (fun c => c.seat.isSome) = 0) then refuse .state s
      else
        let t := (s.modPaper slot (fun q => q.redefined d)).mapCands slot
          (fun c => { c with limit := limitOf d.writing c.allowance })
        (t, .ok (d.bytes ++ u16 (s.countCands slot (fun _ => true))))

/-- PAPER_READ (R22, R201): five bytes for an UNDEFINED slot. -/
def decidePaperRead (slot : Nat) (s : State) : State × Answer :=
  if ¬ slot < Config.slotCount then refuse .range s
  else
    match s.paper slot with
    | none => (s, .ok (u24 s.hallTime ++ u8 slot ++ u8 0))
    | some p => (s, .ok (p.bytes slot s.hallTime))

end Sys2Proof.Machine
end

