-- ==== Sys2Proof/Machine/Collection.lean ====
section
/-! DEFINITION. The Collection Unit (R120 to R136): the walk and its targets, the taking of a script, COLLECT_MARK,
COLLECT_CLOSE and COLLECTION_READ.
-/

namespace Sys2Proof.Machine

/-! ### The walk (R122) -/

/-- What the table of R122 says of an offered seat. -/
inductive Judgement where
  | pass
  | defer (index : Nat)
  | target
  | fault (index : Nat)
  deriving DecidableEq, Repr

/-- The first line of R122's table that applies to a seat offered to the walk of a paper. An occupied seat is never
DISABLED (R28, R34). -/
def State.judge (s : State) (slot n : Nat) : Judgement :=
  match s.seat n with
  | none => .pass
  | some seat =>
    match seat.occupant with
    | none => .pass
    | some i =>
      match s.cand i with
      | none => .pass
      | some c =>
        if c.paper ≠ slot then .pass
        else if c.state.active then .defer i
        else if c.state = .finished ∧ c.flags.deferred = false then
          match seat.state with
          | .enabled => .target
          | .faulty => .fault i
          | .disabled => .pass
        else .pass

/-- A candidate the walk passed over and deferred: its index, its record before, its seat, and whether line 4 of R122's
table applied. -/
structure Passed where
  index : Nat
  old : Cand
  seat : Nat
  fault : Bool
  deriving DecidableEq, Repr

/-- Defer a candidate that the walk passes over (R122 lines 2 and 4). -/
def State.passOver (s : State) (i seat : Nat) (fault : Bool) (passed : List Passed) : State × List Passed :=
  match s.cand i with
  | some c => (s.modCand i Cand.setDeferred, passed ++ [{ index := i, old := c, seat := seat, fault := fault }])
  | none => (s, passed)

/-- The seat becomes the paper's target, with timer 0 (R123). -/
def State.setTarget (s : State) (slot n : Nat) : State :=
  s.modColl slot (fun c => { c with target := some n, timer := 0 })

/-- The target is resolved: absent, with timer 0 (R123). -/
def State.resolveTarget (s : State) (slot : Nat) : State :=
  s.modColl slot (fun c => { c with target := none, timer := 0 })

/-- Advance the walk of a paper by at most `fuel` advances, until it finds a target or is exhausted (R122). -/
def State.walkOn (slot : Nat) : Nat → State × List Passed → State × List Passed
  | 0, r => r
  | fuel + 1, r =>
    match r.1.paper slot with
    | none => r
    | some p =>
      match p.defn.walk with
      | none => r
      | some w =>
        let (cursor, seat) := r.1.advanceSeatWalk w Config.maxWalk p.coll.cursor
        let t := r.1.modColl slot (fun c => { c with cursor := cursor })
        match seat with
        | none => (t, r.2)
        | some n =>
          match r.1.judge slot n with
          | .target => (t.setTarget slot n, r.2)
          | .pass => State.walkOn slot fuel (t, r.2)
          | .defer i => State.walkOn slot fuel (t.passOver i n false r.2)
          | .fault i => State.walkOn slot fuel (t.passOver i n true r.2)

/-- One advance of the walk at one of the four points of R122; a walk has at most 4096 positions (R39). -/
def State.findTarget (s : State) (slot : Nat) : State × List Passed := State.walkOn slot (Config.maxWalk + 1) (s, [])

/-- The current target seat of a paper. -/
def State.targetSeat (s : State) (slot : Nat) : Option Nat := (s.paper slot).bind (fun p => p.coll.target)

/-- COLLECT_SKIPPED for a candidate a walk passed over, where line 4 of R122's table posts one (R136). -/
def State.postSkip (s : State) (slot : Nat) (p : Passed) : State :=
  if p.fault then s.post slot (.collectSkipped slot p.seat p.index p.old.number .seatFault (s.targetSeat slot)) else s

/-- The notices for the candidates a walk passed over in the taking of a script, in walk order: COLLECT_SKIPPED where line 4
posts one, then the WATCH_TRACE (R122, R127). -/
def State.postPassed (s : State) (slot : Nat) (passed : List Passed) : State :=
  passed.foldl (fun t p => (t.postSkip slot p).traceOne p.index p.old .collection) s

/-- The notices for the candidates that a walk deferred at a start, an expiry or a fault, `before` being the records before it:
the COLLECT_SKIPPED in walk order, then the WATCH_TRACE notices of the event in ascending index (R14, R136, log 45). -/
def State.postDeferred (s : State) (slot : Nat) (before : Table Cand) (passed : List Passed) : State :=
  (passed.foldl (fun t p => t.postSkip slot p) s).traceAll before .collection

/-! ### The collection state (R126, R136) -/

/-- The completeness test (R126). -/
def Collecting.complete (c : Collecting) : Bool := c.collected + c.missing == c.admitted

/-- Move the collection state, with its COLLECTION_STATE notice where it changes (R136). -/
def State.setColl (s : State) (slot : Nat) (new : CollState) (cause : CollCause) : State :=
  match s.paper slot with
  | none => s
  | some p =>
    if p.coll.state = new then s
    else
      (s.modColl slot (fun c => { c with state := new })).post slot
        (.collectionState p.coll.state new cause p.coll.target p.coll.admitted p.coll.collected p.coll.absent
          p.coll.missing)

/-- After an advance of the walk: WALKING while it has a target; without one, the end-of-walk test (R121, R126). -/
def State.settle (s : State) (slot : Nat) (cause : CollCause) : State :=
  match s.paper slot with
  | none => s
  | some p =>
    if p.coll.target.isSome then s.setColl slot .walking cause
    else s.setColl slot (if p.coll.complete then .complete else .outstanding) cause

/-- Start an IDLE collection; in any other collection state the report changes nothing (R121). -/
def State.startCollection (s : State) (slot : Nat) (cause : CollCause) : State :=
  match s.paper slot with
  | none => s
  | some p =>
    if p.coll.state ≠ .idle then s
    else
      let (t, passed) := s.findTarget slot
      (t.postDeferred slot s.cands passed).settle slot cause

/-- The target is passed without its script: its candidate is deferred, COLLECT_SKIPPED is posted, and the walk advances
(R124, R125, R136). Its WATCH_TRACE stands among those of the candidates passed over, in ascending index (R14, log 45). -/
def State.skipTarget (s : State) (slot : Nat) (reason : SkipReason) : State :=
  match s.targetSeat slot with
  | none => s
  | some n =>
    match (s.seat n).bind Seat.occupant with
    | none => s
    | some i =>
      match s.cand i with
      | none => s
      | some c =>
        let (t, passed) := ((s.modCand i Cand.setDeferred).resolveTarget slot).findTarget slot
        let u := t.post slot (.collectSkipped slot n i c.number reason (t.targetSeat slot))
        (u.postDeferred slot s.cands passed).settle slot .walkEnd

/-- One second of a paper's target timer, 0..600 (R120), while the hall is not held, with its expiry (R124). -/
def State.tickTarget (s : State) (slot : Nat) : State :=
  match s.paper slot with
  | none => s
  | some p =>
    if p.coll.target.isNone || p.defn.collectTimeout = 0 then s
    else
      let t := s.modColl slot (fun c => { c with timer := min (c.timer + 1) Config.maxTimeout })
      if p.defn.collectTimeout ≤ p.coll.timer + 1 then t.skipTarget slot .timeout else t

/-! ### Taking a script (R127) -/

/-- The counts and the list as the taking of a script changes them (R127). -/
def State.recordScript (s : State) (i : Nat) (c : Cand) (flags : EntryFlags) : State :=
  { (s.modCand i (fun x => { x with state := .collected })).modColl c.paper (fun k =>
      { k with
        collected := k.collected + 1
        missing := if c.state = .missing then k.missing - 1 else k.missing }) with
    collection := s.collection ++
      [{ index := i, number := c.number, paper := c.paper, seat := c.seat, time := s.hallTime, flags := flags }] }

/-- Take the script of a FINISHED or MISSING candidate, with the notices in R127's order. -/
def State.takeScript (s : State) (i : Nat) (how : Taking) (cause : Cause) : State :=
  match s.cand i with
  | none => s
  | some c =>
    match s.paper c.paper with
    | none => s
    | some p =>
      if ¬ (c.state = .finished ∨ c.state = .missing) then s
      else
        let flags := entryFlags p c how
        let atTarget := p.coll.target.isSome && decide (p.coll.target = c.seat)
        let t := s.recordScript i c flags
        let (u, passed) := if atTarget then (t.resolveTarget c.paper).findTarget c.paper else (t, [])
        let v := u.post 0 (.scriptCollected s.collection.length i c.number c.paper c.seat flags (u.targetSeat c.paper))
        let w := (v.traceOne i c cause).postPassed c.paper passed
        if atTarget then w.settle c.paper .walkEnd
        else if p.coll.state = .outstanding then w.settle c.paper .lastScript
        else w

/-! ### Requests -/

/-- COLLECT_MARK (R133). -/
def decideCollectMark (index : Nat) (s : State) : State × Answer :=
  if ¬ index < Config.indexCount then refuse .range s
  else
    match s.cand index with
    | none => refuse .notFound s
    | some c =>
      match s.paper c.paper with
      | none => refuse .state s
      | some p =>
        if ¬ (c.state = .finished ∨ c.state = .missing) then refuse .state s
        else
          (s.takeScript index .host (.request 0x28),
            .ok (u16 s.collection.length ++ u8 (entryFlags p c .host).code))

/-- A FINISHED candidate made MISSING by COLLECT_CLOSE (R134). -/
def Cand.toMissing (c : Cand) : Cand :=
  if c.state = .finished then { c with state := .missing, flags := { c.flags with missing := true } } else c

/-- Close a collection that is not COMPLETE: every FINISHED candidate of the paper becomes MISSING (R134). -/
def State.closeCollection (s : State) (slot : Nat) : State :=
  let lost := s.countCands slot (fun c => decide (c.state = .finished))
  let t := (s.mapCands slot Cand.toMissing).modColl slot (fun c =>
    { c with
      target := none
      timer := 0
      cursor := { c.cursor with exhausted := true }
      missing := c.missing + lost })
  (t.traceAll s.cands (.request 0x29)).setColl slot .complete .request

/-- COLLECT_CLOSE (R134). -/
def decideCollectClose (slot : Nat) (s : State) : State × Answer :=
  if ¬ slot < Config.slotCount then refuse .range s
  else
    match s.paper slot with
    | none => refuse .notFound s
    | some p =>
      if p.coll.state = .idle then refuse .state s
      else if s.activeCount slot ≠ 0 then refuse .state s
      else
        let lost := s.countCands slot (fun c => decide (c.state = .finished))
        if p.coll.state = .complete then (s, .ok (u16 0 ++ u16 p.coll.collected ++ u16 p.coll.missing))
        else (s.closeCollection slot, .ok (u16 lost ++ u16 p.coll.collected ++ u16 (p.coll.missing + lost)))

/-- The entries from a position on that match a selector, each with its position (R132). -/
def State.entriesFrom (s : State) (selector start : Nat) : List (CollEntry × Nat) :=
  s.collection.zipIdx.filter (fun e =>
    decide (start ≤ e.2) && (selector == Config.absent8 || e.1.paper == selector))

/-- The position after the last entry returned, or none when no further matching entry exists (R132). -/
def nextPosition (entries : List (CollEntry × Nat)) : Option Nat :=
  if entries.length ≤ 20 then none else ((entries.take 20).getLast?).map (fun e => e.2 + 1)

/-- COLLECTION_READ (R132): the hall time, the list of entries, the total length, and the next position or the end mark. -/
def decideCollectionRead (selector start : Nat) (s : State) : State × Answer :=
  if ¬ ((selector < Config.slotCount ∨ selector = Config.absent8) ∧ start < Config.indexCount) then refuse .range s
  else if selector ≠ Config.absent8 ∧ (s.paper selector).isNone then refuse .notFound s
  else
    let entries := s.entriesFrom selector start
    (s, .ok (u24 s.hallTime ++ listOf (fun e => e.1.bytes e.2) (entries.take 20) ++ u16 s.collection.length ++
      opt16 (nextPosition entries)))

end Sys2Proof.Machine
end

