-- ==== Sys2Proof/Machine/Timing.lean ====
section
/-! DEFINITION. The Session Timer (R67 to R96): starts, admission, finishes, abandonment, rests, absences, holds, the second
event, and the requests that belong to it.
-/

namespace Sys2Proof.Machine

/-! ### Changes of a paper's state (R77) -/

/-- Post the PAPER_STATE notice of a change from `previous`, with the values after the change (R77). -/
def State.postPaperState (s : State) (slot : Nat) (previous : PaperState) (cause : PaperCause) : State :=
  match s.paper slot with
  | none => s
  | some p =>
    s.post slot (.paperState previous p.state cause p.elapsed p.readingLeft p.coll.admitted p.coll.absent
      (s.activeCount slot))

/-- A SEATED candidate made ABSENT (R74). -/
def Cand.toAbsent (c : Cand) : Cand := if c.state = .seated then { c with state := .absent } else c

/-- Every SEATED candidate of the paper becomes ABSENT, and the absent count follows (R74 to R76, R86). -/
def State.makeAbsent (s : State) (slot : Nat) : State :=
  (s.mapCands slot Cand.toAbsent).modColl slot (fun k =>
    { k with absent := k.absent + s.countCands slot (fun c => decide (c.state = .seated)) })

/-- Change a paper's state field. -/
def State.setPaperState (s : State) (slot : Nat) (new : PaperState) : State :=
  s.modPaper slot (fun p => { p with state := new })

/-! ### Finishing (R82, R76) -/

/-- The record of a candidate that finishes: reason and time are written, a rest ends, AWAY and its count are cleared
(R3, R82). -/
def Cand.toFinished (reason : FinishReason) (time : Nat) (c : Cand) : Cand :=
  { c with
    state := .finished
    finish := some { reason := reason, time := time }
    flags := { c.flags with away := false }
    awayCount := 0
    awayReported := false }

/-- The paper is EXTENDED and none of its candidates is active: its last finish closes it (R76). -/
def State.lastFinished (s : State) (slot : Nat) : Bool :=
  (s.paper slot).any (fun p => decide (p.state = .extended)) && s.activeCount slot == 0

/-- An EXTENDED paper closes, its SEATED candidates becoming ABSENT, without their WATCH_TRACE notices (R76). -/
def State.closePaper (s : State) (slot : Nat) : State :=
  ((s.makeAbsent slot).setPaperState slot .closed).postPaperState slot .extended .lastFinish

/-- Close a paper whose last active candidate has finished; `cause` is that of the finish that closes it (R76, log 22). -/
def State.closeIfDone (s : State) (slot : Nat) (cause : Cause) : State :=
  if s.lastFinished slot then (s.closePaper slot).traceAll s.cands cause else s

/-- Finish a READING, WRITING or RESTING candidate (R82). -/
def State.finishCand (s : State) (i : Nat) (reason : FinishReason) (cause : Cause) : State :=
  match s.cand i with
  | none => s
  | some c =>
    if ¬ c.state.active then s
    else (s.changeCand i (Cand.toFinished reason s.hallTime) cause).closeIfDone c.paper cause

/-! ### Admission (R71, R78, R79) -/

/-- Count one admission (R71, R78, R79). -/
def State.countAdmitted (s : State) (slot n : Nat) : State :=
  s.modColl slot (fun k => { k with admitted := k.admitted + n })

/-- The record of a candidate admitted late (R79). -/
def Cand.admittedLate (elapsed : Nat) (c : Cand) : Cand :=
  { c with state := .writing, used := elapsed, flags := { c.flags with late := true } }

/-- Admit a SEATED candidate of a READING, WRITING or EXTENDED paper (R78, R79). A late candidate whose credited used is
its limit finishes at once with TIME, whose WATCH_TRACE has the cause SECOND that R82 gives for TIME (log 21). -/
def State.admitCand (s : State) (i : Nat) (cause : Cause) : State :=
  match s.cand i with
  | none => s
  | some c =>
    match s.paper c.paper with
    | none => s
    | some p =>
      if c.state ≠ .seated then s
      else
        match p.state with
        | .reading =>
          (s.countAdmitted c.paper 1).changeCand i (fun x => { x with state := .reading, used := 0 }) cause
        | .writing | .extended =>
          let t := (s.countAdmitted c.paper 1).changeCand i (Cand.admittedLate p.elapsed) cause
          if c.limit ≤ p.elapsed then t.finishCand i .time .second else t
        | .planned | .closed | .abandoned => s

/-! ### Starting a paper (R71, R72) -/

/-- A SEATED candidate with an active present level (R71). -/
def Cand.atDesk (c : Cand) : Bool := decide (c.state = .seated) && c.present

/-- The record of a candidate at the paper's start (R71). -/
def Cand.started (reading : Nat) (c : Cand) : Cand :=
  if c.atDesk then { c with state := if 0 < reading then .reading else .writing, used := 0 } else c

/-- The paper record at its start (R71). -/
def Paper.started (admitted : Nat) (p : Paper) : Paper :=
  { p with
    state := if 0 < p.defn.reading then .reading else .writing
    readingLeft := p.defn.reading
    elapsed := 0
    coll := { p.coll with admitted := p.coll.admitted + admitted } }

/-- The records and the PAPER_STATE notice of a paper's start, without the WATCH_TRACE notices (R71, R77). -/
def State.startRecords (s : State) (slot : Nat) (cause : PaperCause) : State :=
  match s.paper slot with
  | none => s
  | some p =>
    ((s.mapCands slot (Cand.started p.defn.reading)).modPaper slot
      (Paper.started (s.countCands slot Cand.atDesk))).postPaperState slot p.state cause

/-- Start a PLANNED paper (R71). -/
def State.startPaper (s : State) (slot : Nat) (cause : PaperCause) : State :=
  (s.startRecords slot cause).traceAll s.cands .paper

/-- An allocation job is running for the paper. -/
def State.allocating (s : State) (slot : Nat) : Bool := s.job.any (fun j => j.paper == slot)

/-- All conditions of R72 hold for the slot; at a RESUME or a job's end too, hall time is compared as a TIME_SET has left it
(R68, log 52). -/
def State.startDue (s : State) (slot : Nat) : Bool :=
  match s.paper slot with
  | none => false
  | some p =>
    decide (p.state = .planned) && p.defn.start.any (· ≤ s.hallTime) && s.hold.isNone && !s.allocating slot

/-- Take one slot's scheduled start, if it is due (R72). -/
def State.runScheduledStart (s : State) (slot : Nat) : State :=
  if s.startDue slot then s.startPaper slot .schedule else s

/-- The records of every scheduled start that is due, in ascending slot order, each with its PAPER_STATE notice (R72). -/
def State.scheduledRecords (s : State) : State :=
  (slots.filter s.startDue).foldl (fun t slot => t.startRecords slot .schedule) s

/-- Take every scheduled start that is due, at one event (R72, R14). -/
def State.runScheduled (s : State) : State := s.scheduledRecords.traceAll s.cands .paper

/-! ### Abandonment (R86) -/

/-- The record of a candidate of an abandoned paper (R86). -/
def Cand.abandoned (time : Nat) (c : Cand) : Cand :=
  if c.state.active then c.toFinished .abandoned time else c.toAbsent

/-- The records and the PAPER_STATE notice of an abandonment, without the WATCH_TRACE notices (R86). -/
def State.abandonRecords (s : State) (slot : Nat) (cause : PaperCause) : State :=
  match s.paper slot with
  | none => s
  | some p =>
    (((s.mapCands slot (Cand.abandoned s.hallTime)).modColl slot (fun k =>
      { k with absent := k.absent + s.countCands slot (fun c => decide (c.state = .seated)) })).setPaperState slot
        .abandoned).postPaperState slot p.state cause

/-- Abandon a paper on request, without the report to the Collection Unit (R86). -/
def State.abandonPaper (s : State) (slot : Nat) : State := (s.abandonRecords slot .request).traceAll s.cands .paper

/-! ### Desk events (R78, R84, R88 to R91) -/

/-- Clear AWAY with its count and mark (R91). -/
def Cand.back (c : Cand) : Cand :=
  { c with flags := { c.flags with away := false }, awayCount := 0, awayReported := false }

/-- A PRESENT rising edge for the occupant `i` (R78, R91). -/
def State.presentRise (s : State) (i : Nat) : State :=
  match s.cand i with
  | none => s
  | some c =>
    match c.state, s.paper c.paper with
    | .seated, _ => s.admitCand i .present
    | .absent, some p =>
      match p.state with
      | .writing | .extended | .closed =>
        s.post 0 (.lateRefused i c.number c.seat p.elapsed p.defn.lateCutoff)
      | .planned | .reading | .abandoned => s
    | _, _ => if c.flags.away then s.changeCand i Cand.back .present else s

/-- The record of a candidate that leaves the desk (R90). -/
def Cand.left (c : Cand) : Cand :=
  { c with flags := { c.flags with away := true }, awayCount := 0, awayReported := false }

/-- A PRESENT falling edge for the occupant `i` (R90). -/
def State.presentFall (s : State) (i : Nat) : State :=
  match s.cand i with
  | none => s
  | some c => if c.state.active then s.changeCand i Cand.left .present else s

/-- The first refusal reason of R84's table that applies. -/
def leaveRefusal (s : State) (c : Cand) (p : Paper) : Option LeaveRefusal :=
  if c.state = .reading then some .reading
  else if s.hold.isSome then some .held
  else if c.used < p.defn.noLeaveFirst then some .tooEarly
  else if c.limit - c.used ≤ p.defn.noLeaveLast then some .tooLate
  else none

/-- A DONE rising edge for the occupant `i` (R84). -/
def State.leaveRequest (s : State) (i : Nat) : State :=
  match s.cand i with
  | none => s
  | some c =>
    match s.paper c.paper with
    | none => s
    | some p =>
      if ¬ c.state.active then s
      else
        match leaveRefusal s c p with
        | some reason => s.post 0 (.leaveDenied i c.seat reason c.used (c.limit - c.used))
        | none => s.finishCand i .early .done

/-- A KEY press decoded as a rest start (R88). -/
def State.restStart (s : State) (i : Nat) : State := s.changeCand i (fun c => { c with state := .resting }) .key

/-- A KEY press decoded as a rest end (R89). -/
def State.restStop (s : State) (i : Nat) : State := s.changeCand i (fun c => { c with state := .writing }) .key

/-! ### Holds (R92 to R96) -/

/-- Raise a hold at a hall that is not held (R92, R93). -/
def State.beginHold (s : State) (cause : HoldCause) : State :=
  { s with hold := some cause, holdElapsed := 0 }.post 0 (.holdBegin cause)

/-- The conditioned HOLD line becomes asserted (R93). -/
def State.holdAsserted (s : State) : State :=
  if s.holdLine then s
  else
    let t := { s with holdLine := true }
    if s.hold.isNone then t.beginHold .line else t

/-- The conditioned HOLD line becomes released; the hold stays (R93). -/
def State.holdReleased (s : State) : State := { s with holdLine := false }

/-- The paper in a slot is READING, WRITING or EXTENDED. -/
def State.paperRunning (s : State) (slot : Nat) : Bool := (s.paper slot).any (fun p => p.state.running)

/-- The cause of a change at a second event: PAPER for a candidate of a paper that was PLANNED before it, which only its start
changes, and `cause` for any other (R14). -/
def State.eventCause (before : State) (cause : Cause) (c : Cand) : Cause :=
  if (before.paper c.paper).any (fun p => decide (p.state = .planned)) then .paper else cause

/-- The hold runs out: HOLD_EXPIRED is posted, every running paper is abandoned, the hall is no longer held, scheduled
starts are taken, and the Collection Unit takes the reports (R96, R121, log 31). The WATCH_TRACE notices of the event stand
in ascending index (R14). -/
def State.expireHold (s : State) (cause : HoldCause) : State :=
  let running := slots.filter s.paperRunning
  let t := s.post 0 (.holdExpired cause s.holdElapsed running)
  let u := running.foldl (fun x slot => x.abandonRecords slot .holdExpiry) t
  let v := { u with hold := none }.scheduledRecords
  running.foldl (fun x slot => x.startCollection slot .abandon) (v.traceAllBy s.cands (s.eventCause .holdExpiry))

/-! ### The second event (R67, R73 to R75, R81, R89, R90, R94, R96, R124) -/

/-- Hall time after a second event (R67). -/
def nextTime (t : Nat) : Nat := min (t + 1) Config.maxTime

/-- One second of a candidate's clock: used, with its limit (R81), or rest used, with its budget (R89). The WATCH_TRACE
follows with those of the whole event. -/
def State.tickClock (s : State) (i : Nat) : State :=
  match s.cand i with
  | none => s
  | some c =>
    match c.state with
    | .writing =>
      if (s.paper c.paper).any (fun p => decide (p.state = .writing) || decide (p.state = .extended)) then
        let t := s.modCand i (fun x => { x with used := x.used + 1 })
        if c.limit ≤ c.used + 1 then t.modCand i (Cand.toFinished .time s.hallTime) else t
      else s
    | .resting =>
      let t := s.modCand i (fun x => { x with restUsed := x.restUsed + 1 })
      if c.restBudget ≤ c.restUsed + 1 then
        (t.modCand i (fun x => { x with state := .writing })).post 0 (.restEnd i c.seat (c.restUsed + 1) c.used)
      else t
    | .unseated | .seated | .reading | .finished | .absent | .collected | .missing | .markPending | .marked => s

/-- One second of a candidate's absence (R90). -/
def State.tickAway (s : State) (i : Nat) : State :=
  match s.cand i with
  | none => s
  | some c =>
    if ¬ c.flags.away then s
    else
      let away := min (c.awayCount + 1) Config.maxAway
      let t := s.modCand i (fun x => { x with awayCount := away })
      if 0 < s.hall.awayLimit ∧ s.hall.awayLimit ≤ away ∧ c.awayReported = false then
        (t.modCand i (fun x => { x with awayReported := true })).post 0 (.awayLong i c.seat away c.used)
      else t

/-- One second of one candidate. -/
def State.tickCand (s : State) (i : Nat) : State := (s.tickClock i).tickAway i

/-- Reading time ends (R73). -/
def State.endReading (s : State) (slot : Nat) : State :=
  ((s.mapCands slot (fun c => if c.state = .reading then { c with state := .writing, used := 0 } else c)).modPaper slot
    (fun p => { p with state := .writing, readingLeft := 0, elapsed := 0 })).postPaperState slot .reading .second

/-- Base end, without the report to the Collection Unit (R75). -/
def State.endBase (s : State) (slot : Nat) : State :=
  let t := s.makeAbsent slot
  (t.setPaperState slot (if t.activeCount slot = 0 then .closed else .extended)).postPaperState slot .writing .second

/-- One second of a paper's clock (R73 to R75): where late entry closes, with base end or before it, the SEATED candidates
become ABSENT. -/
def State.tickPaper (s : State) (slot : Nat) : State :=
  match s.paper slot with
  | none => s
  | some p =>
    match p.state with
    | .reading =>
      if p.readingLeft ≤ 1 then s.endReading slot
      else s.modPaper slot (fun q => { q with readingLeft := q.readingLeft - 1 })
    | .writing =>
      let t := s.modPaper slot (fun q => { q with elapsed := q.elapsed + 1 })
      if p.defn.writing ≤ p.elapsed + 1 then t.endBase slot
      else if p.elapsed = p.defn.lateCutoff then t.makeAbsent slot
      else t
    | .planned | .extended | .closed | .abandoned => s

/-- The paper in the slot is WRITING. -/
def State.paperWriting (s : State) (slot : Nat) : Bool := (s.paper slot).any (fun p => decide (p.state = .writing))

/-- What the Collection Unit does for a slot at a second event: it starts at a base end, and else counts the target timer
(R121, R124). -/
def State.tickCollection (before s : State) (slot : Nat) : State :=
  if before.paperWriting slot && !s.paperWriting slot then s.startCollection slot .baseEnd else s.tickTarget slot

/-- What the second event changes by the clocks and by scheduled starts, with the blocks' own notices: candidates in ascending
index, then papers in ascending slot, then starts (R72 to R75, R81, R89, R90; the order is log 4's). -/
def State.tickRecords (s : State) : State :=
  (slots.foldl State.tickPaper ((Table.keys s.cands).foldl State.tickCand s)).scheduledRecords

/-- The EXTENDED papers whose last active candidates finished at a second event close, each once, after the notices of the
finishes (R76). Several close in ascending slot order, all their PAPER_STATE notices before the traces (log 4). -/
def State.closeFinished (before s : State) : State :=
  ((slots.filter (fun slot => before.activeCount slot != 0 && s.lastFinished slot)).foldl State.closePaper s).traceAll
    s.cands .second

/-- The second event of a hall that is not held: the Session Timer's step, whose WATCH_TRACE notices stand in ascending index
(R14), and after it the Collection Unit's (R121, R124). The order of the parts is log 4's. -/
def State.runSecond (s : State) : State :=
  slots.foldl (State.tickCollection s)
    (s.closeFinished (s.tickRecords.traceAllBy s.cands (s.eventCause .second)))

/-- The second event of a held hall (R94, R96). -/
def State.heldSecond (s : State) (cause : HoldCause) : State :=
  let t := { s with holdElapsed := min (s.holdElapsed + 1) Config.maxHold }
  if 0 < s.hall.holdLimit ∧ s.hall.holdLimit ≤ t.holdElapsed then t.expireHold cause else t

/-- A second event of the hall time base (R67). -/
def State.secondEvent (s : State) : State :=
  let t := { s with hallTime := nextTime s.hallTime }
  match s.hold with
  | some cause => t.heldSecond cause
  | none => t.runSecond

/-! ### What the next second event brings about (log 3) -/

/-- The next second event ends the slot's reading time (R73). -/
def State.readingEndDue (s : State) (slot : Nat) : Bool :=
  s.hold.isNone && (s.paper slot).any (fun p => decide (p.state = .reading) && decide (p.readingLeft ≤ 1))

/-- The next second event brings the slot's E_p to D (R75). -/
def State.baseEndDue (s : State) (slot : Nat) : Bool :=
  s.hold.isNone && (s.paper slot).any (fun p =>
    decide (p.state = .writing) && decide (p.defn.writing ≤ p.elapsed + 1))

/-- The next second event closes the slot's late entry (R74). It may be base end too; with a late cutoff equal to D there is
no such event. -/
def State.lateCloseDue (s : State) (slot : Nat) : Bool :=
  s.hold.isNone && (s.paper slot).any (fun p =>
    decide (p.state = .writing) && decide (p.defn.lateCutoff < p.defn.writing) &&
    decide (p.elapsed = p.defn.lateCutoff))

/-- The next second event brings the candidate's used to its limit (R81). -/
def State.limitDue (s : State) (i : Nat) : Bool :=
  s.hold.isNone && (s.cand i).any (fun c =>
    decide (c.state = .writing) && decide (c.limit ≤ c.used + 1) &&
    (s.paper c.paper).any (fun p => decide (p.state = .writing) || decide (p.state = .extended)))

/-- The next second event exhausts the candidate's rest budget (R89). -/
def State.restDue (s : State) (i : Nat) : Bool :=
  s.hold.isNone && (s.cand i).any (fun c => decide (c.state = .resting) && decide (c.restBudget ≤ c.restUsed + 1))

/-- The next second event reports the candidate's absence (R90). -/
def State.awayDue (s : State) (i : Nat) : Bool :=
  s.hold.isNone && !s.limitDue i && (s.cand i).any (fun c =>
    c.flags.away && decide (0 < s.hall.awayLimit) &&
    decide (s.hall.awayLimit ≤ min (c.awayCount + 1) Config.maxAway) && !c.awayReported)

/-- The next second event expires the hold (R96). -/
def State.expiryDue (s : State) : Bool :=
  s.hold.isSome && decide (0 < s.hall.holdLimit) &&
  decide (s.hall.holdLimit ≤ min (s.holdElapsed + 1) Config.maxHold)

/-- The next second event brings the slot's target timer to the collect timeout (R124). -/
def State.targetDue (s : State) (slot : Nat) : Bool :=
  s.hold.isNone && (s.paper slot).any (fun p =>
    p.coll.target.isSome && decide (p.defn.collectTimeout ≠ 0) &&
    decide (p.defn.collectTimeout ≤ p.coll.timer + 1))

/-- The next second event takes the slot's scheduled start (R72, R96). -/
def State.scheduleDue (s : State) (slot : Nat) : Bool :=
  (s.hold.isNone || s.expiryDue) && !s.allocating slot && (s.paper slot).any (fun p =>
    decide (p.state = .planned) && p.defn.start.any (· ≤ nextTime s.hallTime))

/-- A second event that brings the named thing about; where the next second event would not, nothing (log 3). -/
def State.secondIf (s : State) (due : Bool) : State := if due then s.secondEvent else s

/-! ### Requests -/

/-- TIME_SET (R68). -/
def decideTimeSet (time : Nat) (s : State) : State × Answer :=
  if ¬ time ≤ Config.maxTime then refuse .range s
  else ({ s with hallTime := time }, .ok (u24 s.hallTime ++ u24 time))

/-- PAPER_START (R70). -/
def decidePaperStart (slot : Nat) (s : State) : State × Answer :=
  if ¬ slot < Config.slotCount then refuse .range s
  else
    match s.paper slot with
    | none => refuse .notFound s
    | some p =>
      if s.allocating slot then refuse .busy s
      else if ¬ (p.state = .planned ∧ s.hold = none) then refuse .state s
      else
        (s.startPaper slot .request,
          .ok (u8 (p.started 0).state.code ++ u16 (s.countCands slot Cand.atDesk)))

/-- PAPER_ABANDON (R87). -/
def decidePaperAbandon (slot : Nat) (s : State) : State × Answer :=
  if ¬ slot < Config.slotCount then refuse .range s
  else
    match s.paper slot with
    | none => refuse .notFound s
    | some p =>
      if ¬ p.state.running then refuse .state s
      else
        ((s.abandonPaper slot).startCollection slot .abandon, .ok (u16 (s.activeCount slot)))

/-- The reply to a taken ADMIT: the new state, used and the LATE flag (R80). -/
def admitAnswer (s : State) (index : Nat) : Answer :=
  match s.cand index with
  | some c => .ok (u8 c.state.code ++ u16 c.used ++ flag c.flags.late)
  | none => .ok []

/-- ADMIT (R80). -/
def decideAdmit (index : Nat) (s : State) : State × Answer :=
  if ¬ index < Config.indexCount then refuse .range s
  else
    match s.cand index with
    | none => refuse .notFound s
    | some c =>
      if ¬ (c.state = .seated ∧ s.paperRunning c.paper) then refuse .state s
      else (s.admitCand index (.request 0x22), admitAnswer (s.admitCand index (.request 0x22)) index)

/-- FINISH (R83). -/
def decideFinish (index : Nat) (s : State) : State × Answer :=
  if ¬ index < Config.indexCount then refuse .range s
  else
    match s.cand index with
    | none => refuse .notFound s
    | some c =>
      if ¬ c.state.active then refuse .state s
      else (s.finishCand index .forced (.request 0x23), .ok (u16 c.used ++ u24 s.hallTime))

/-- HOLD (R92). -/
def decideHold (s : State) : State × Answer :=
  match s.hold with
  | some cause => (s, .ok (u8 cause.code ++ u16 s.holdElapsed))
  | none => (s.beginHold .request, .ok (u8 HoldCause.request.code ++ u16 0))

/-- RESUME (R95). -/
def decideResume (s : State) : State × Answer :=
  match s.hold with
  | none => refuse .state s
  | some cause =>
    if s.holdLine then refuseWith .state 5 0 s
    else
      (({ s with hold := none }.post 0 (.holdEnd cause s.holdElapsed)).runScheduled, .ok (u16 s.holdElapsed))

end Sys2Proof.Machine
end

