-- ==== Sys2Proof/Machine/Allocation.lean ====
section
/-! DEFINITION. The Allocation Engine (R48 to R66): ALLOCATE and its job, ALLOC_ABORT, MOVE and UNSEAT.
-/

namespace Sys2Proof.Machine

/-! ### Waiting lists (R50, R55) -/

/-- The UNSEATED candidates of a paper with or without ACCESS need, in ascending candidate number (R50, R55). -/
def State.waitingList (s : State) (slot : Nat) (access : Bool) : List Nat :=
  ((s.cands.filter (fun e =>
    e.2.paper == slot && decide (e.2.state = .unseated) && e.2.needsAccess == access)).insertionSort
      (fun a b => a.2.number ≤ b.2.number)).map Prod.fst

/-! ### The ends of passes and jobs (R55 to R57) -/

/-- End the job: the last-outcome record, ALLOC_END, IDLE, and the paper's scheduled start if it is due (R56, R57, R72). -/
def State.endJob (s : State) (j : Job) (outcome : JobOutcome) (unplacedAccess unplacedGeneral : Nat) : State :=
  ({ s with
    job := none
    lastOutcome := some
      { paper := j.paper, outcome := outcome, placed := j.placed, unplacedAccess := unplacedAccess,
        unplacedGeneral := unplacedGeneral, time := s.hallTime } }.post j.paper
    (.allocEnd j.paper outcome j.placed unplacedAccess unplacedGeneral)).runScheduledStart j.paper

/-- End PASS_GENERAL, and the job with it (R56). -/
def State.endGeneral (s : State) (j : Job) : State :=
  s.endJob j (if j.unplacedAccess = 0 ∧ j.waiting = [] then .done else .partly) j.unplacedAccess j.waiting.length

/-- The job record when PASS_GENERAL begins (R55). -/
def Job.toGeneral (j : Job) (waiting : List Nat) : Job :=
  { j with
    pass := .general
    waiting := waiting
    generalCount := 0
    unplacedAccess := j.waiting.length
    cursor := Cursor.start }

/-- The pass has ended: its waiting list is empty or its cursor is exhausted (R55, R56). -/
def Job.passOver (j : Job) : Bool := j.waiting.isEmpty || j.cursor.exhausted

/-- Take the end of PASS_GENERAL where it has come (R56). -/
def State.checkGeneral (s : State) (j : Job) : State :=
  if j.passOver then s.endGeneral j else { s with job := some j }

/-- Take the end of the running job's pass where it has come (R55, R56): after PASS_ACCESS, an empty new waiting list ends
PASS_GENERAL at once. -/
def State.checkPass (s : State) (j : Job) : State :=
  match j.pass with
  | .general => s.checkGeneral j
  | .access =>
    if j.passOver then s.checkGeneral (j.toGeneral (s.waitingList j.paper false)) else { s with job := some j }

/-! ### ALLOCATE (R49, R50) -/

/-- The job a taken ALLOCATE sets up (R50). -/
def Job.new (slot : Nat) (walk : SeatWalk) (spill : Bool) (waiting : List Nat) (general : Nat) : Job where
  paper := slot
  spill := spill
  walk := walk
  cursor := Cursor.start
  pass := .access
  waiting := waiting
  generalCount := general
  placed := 0
  unplacedAccess := 0

/-- ALLOCATE (R49, R50). -/
def decideAllocate (slot : Nat) (walk : SeatWalkArgs) (spill : Nat) (s : State) : State × Answer :=
  if ¬ (slot < Config.slotCount ∧ spill ≤ 1) then refuse .range s
  else
    match s.paper slot with
    | none => refuse .notFound s
    | some p =>
      if ¬ seatWalkValid walk s.hall then refuse .format s
      else if s.job.isSome then refuse .busy s
      else if p.state ≠ .planned then refuse .state s
      else
        let waiting := s.waitingList slot true
        let general := (s.waitingList slot false).length
        (s.checkPass (Job.new slot (seatWalkTaken walk) (spill == 1) waiting general),
          .ok (u16 waiting.length ++ u16 general))

/-! ### One advance (R51 to R54) -/

/-- The eligibility test of an offered seat (R52). -/
def Job.eligible (j : Job) (seat : Seat) : Bool :=
  decide (seat.state = .enabled) && seat.occupant.isNone &&
  match j.pass with
  | .access => decide (seat.cls = .access)
  | .general => decide (seat.cls = .standard) || j.spill

/-- The separation test of R53 for a candidate of the paper at a seat. -/
def State.separated (s : State) (slot n : Nat) (seat : Seat) : Bool :=
  (s.paper slot).all (fun p => (s.firstBlocking p.defn.separation slot n seat none).isNone)

/-- Both sides of a placement: the seat's occupant and the candidate's seat, state and present level (R28, R54). -/
def State.occupy (s : State) (i n : Nat) : State :=
  (s.modSeat n (fun x => { x with occupant := some i })).modCand i
    (fun c => { c with seat := some n, state := .seated, present := s.seatPresent n })

/-- The first UNSEATED candidate waits and the offered seat passes both tests: the index placed there (R51 to R53). -/
def State.placeable (s : State) (j : Job) (n : Nat) : Option (Nat × Cand) :=
  match s.seat n, j.waiting with
  | some seat, i :: _ =>
    match s.cand i with
    | some c =>
      if j.eligible seat && s.separated j.paper n seat && decide (c.state = .unseated) then some (i, c) else none
    | none => none
  | _, _ => none

/-- The running job at an offered seat: a placement, or the seat is declined (R51, R54). Where the placement ends the job, its
WATCH_TRACE comes before the ALLOC_END (DESIGN CHOICE, unsafe, log 63). -/
def State.offer (s : State) (j : Job) (n : Nat) : State :=
  match s.placeable j n with
  | some (i, c) =>
    ((s.occupy i n).traceOne i c (.request 0x18)).checkPass
      { j with waiting := j.waiting.tail, placed := j.placed + 1 }
  | none => s.checkPass j

/-- One advance of the running job (R51). -/
def State.allocAdvance (s : State) : State :=
  match s.job with
  | none => s
  | some j =>
    let (cursor, offered) := s.advanceSeatWalk j.walk Config.maxWalk j.cursor
    match offered with
    | some n => s.offer { j with cursor := cursor } n
    | none => s.checkPass { j with cursor := cursor }

/-! ### ALLOC_ABORT (R57) -/

/-- ALLOC_ABORT (R57). -/
def decideAllocAbort (s : State) : State × Answer :=
  match s.job with
  | none => refuse .state s
  | some j =>
    let counts := match j.pass with
      | .access => (j.waiting.length, j.generalCount)
      | .general => (j.unplacedAccess, j.waiting.length)
    (s.endJob j .aborted counts.1 counts.2, .ok (u16 j.placed ++ u16 counts.1 ++ u16 counts.2))

/-! ### MOVE (R61 to R64) -/

/-- The seat's pending call is dropped as its occupant leaves, with CALL_ENDED; its level-answered mark is cleared (R113,
log 20). -/
def State.dropCall (s : State) (n : Nat) : State :=
  let t := s.modLoop n (fun r => { r with call := none, answered := false })
  if (s.loop n).any (fun r => r.call.isSome) then t.post 0 (.callEnded .dropped) else t

/-- The record of a moved candidate (R63). -/
def Cand.moved (n : Nat) (present : Bool) (c : Cand) : Cand :=
  { c.setSeatFault false with seat := some n, present := present }

/-- Both sides of a move (R28, R63). -/
def State.moveCand (s : State) (i old new : Nat) : State :=
  ((s.modSeat old (fun x => { x with occupant := none })).modSeat new (fun x => { x with occupant := some i })).modCand i
    (Cand.moved new (s.seatPresent new))

/-- A candidate in a state that MOVE takes (R61 check 5). -/
def CandState.movable : CandState → Bool
  | .seated | .reading | .writing | .resting | .finished => true
  | .unseated | .absent | .collected | .missing | .markPending | .marked => false

/-- MOVE (R61 to R63). The CALL_ENDED of a call dropped at the old seat comes before the WATCH_TRACE (log 50). -/
def decideMove (index seat : Nat) (s : State) : State × Answer :=
  if s.job.isSome then refuse .busy s
  else if ¬ (index < Config.indexCount ∧ seat < Config.indexCount) then refuse .range s
  else
    match s.cand index, s.seat seat with
    | none, _ => refuse .notFound s
    | _, none => refuse .notFound s
    | some c, some _ =>
      match s.paper c.paper, c.seat with
      | some p, some old =>
        if ¬ (c.state.movable ∧ p.coll.state ≠ .walking) then refuse .state s
        else if old = seat then (s, .ok (u16 old ++ u16 seat))
        else
          match s.targetFailure seat c.paper p.defn.separation c.needsAccess (some old) with
          | some (code, d) => refuseWith code d.code d.value s
          | none =>
            (((s.moveCand index old seat).dropCall old).traceOne index c (.request 0x1A), .ok (u16 old ++ u16 seat))
      | _, _ => refuse .state s

/-! ### UNSEAT (R65) -/

/-- The record of an unseated candidate (R65, R113). -/
def Cand.unseat (c : Cand) : Cand :=
  { (c.setSeatFault false).setCall false with seat := none, state := .unseated, present := false }

/-- UNSEAT (R65). The CALL_ENDED of a dropped call comes before the WATCH_TRACE (log 50). -/
def decideUnseat (index : Nat) (s : State) : State × Answer :=
  if s.job.isSome then refuse .busy s
  else if ¬ index < Config.indexCount then refuse .range s
  else
    match s.cand index with
    | none => refuse .notFound s
    | some c =>
      match c.seat with
      | none => refuse .state s
      | some old =>
        if c.state ≠ .seated then refuse .state s
        else
          ((((s.modSeat old (fun x => { x with occupant := none })).modCand index Cand.unseat).dropCall old).traceOne
            index c (.request 0x1B), .ok (u16 old))

end Sys2Proof.Machine
end

