-- ==== Sys2Proof/Machine/SeatLoop.lean ====
section
/-! DEFINITION. The Seat Loop Controller (R97 to R119): lamps, polls, the conditioning of inputs, the decoding of edges,
calls, the key, and missed replies with seat faults (R36).
-/

namespace Sys2Proof.Machine

/-! ### Lamps (R116 to R118) -/

/-- The lamp of a WRITING candidate by its warning level (R85). -/
def warningLamp (p : Paper) (c : Cand) : Lamp :=
  if c.limit - c.used ≤ p.defn.warnB then .warnB
  else if c.limit - c.used ≤ p.defn.warnA then .warnA
  else .write

/-- The state lamp of an occupant (R117). -/
def State.stateLamp (s : State) (c : Cand) : Lamp :=
  match c.state with
  | .seated => .await
  | .reading => .read
  | .writing => (s.paper c.paper).elim .write (fun p => warningLamp p c)
  | .resting => .rest
  | .finished | .collected | .missing | .markPending | .marked => .finished
  | .absent => .off
  | .unseated => .idle

/-- The lamp of an ENABLED seat (R116). -/
def State.enabledLamp (s : State) (n : Nat) (seat : Seat) : Lamp :=
  if (s.loop n).any (fun r => r.call.isSome) then .called
  else if s.hold.isSome then .hold
  else if (s.targetOf n).isSome then .collect
  else (seat.occupant.bind s.cand).elim .idle s.stateLamp

/-- A lamp with its blink flag (R118). -/
def LampCmd.of (lamp : Lamp) : LampCmd where
  lamp := lamp
  blink := decide (lamp = .called) || decide (lamp = .collect) || decide (lamp = .warnB)

/-- The lamp a regular poll of a seat carries: OFF for a FAULTY one (R101, R116). -/
def State.pollLamp (s : State) (n : Nat) : LampCmd :=
  match s.seat n with
  | some seat =>
    match seat.state with
    | .enabled => LampCmd.of (s.enabledLamp n seat)
    | .faulty | .disabled => LampCmd.of .off
  | none => LampCmd.of .off

/-! ### Polls (R98 to R101) -/

/-- The four bytes of a poll (R100). -/
def pollBytes (n : Nat) (cmd : LampCmd) : List Byte :=
  let head := u8 (128 + n / 256) ++ u8 n ++ u8 ((if cmd.blink then 16 else 0) + cmd.lamp.code)
  head ++ [checkByte head]

/-- Send the poll of a seat: its lamp is recorded, and the reply window opens (R101, R102). -/
def State.sendPoll (s : State) (n : Nat) (rest : List Nat) : State :=
  let cmd := s.pollLamp n
  { s.modLoop n (fun r => { r with lamp := some cmd }) with
    passList := rest
    pollFrame := some (pollBytes n cmd)
    window := some { seat := n, closing := false, spoiled := false } }

/-- The next regular poll, of the next seat of the pass (R99). None is sent while a window is open, or a closing poll waits
(R98). -/
def State.seatPoll (s : State) : State :=
  if s.window.isSome || s.sweep.isSome || !s.closing.isEmpty then s
  else
    match s.passList with
    | n :: rest => s.sendPoll n rest
    | [] => s

/-- Send the closing poll of an address (R98). Where the reset sweep reaches a seat defined during it, the OFF is not recorded as
the lamp last commanded (log 57). -/
def State.sendClosing (s : State) (n : Nat) : State :=
  { s with
    pollFrame := some (pollBytes n (LampCmd.of .off))
    window := some { seat := n, closing := true, spoiled := false } }

/-- The next closing poll: of the reset sweep, and after it in the order the seats left (R98). -/
def State.closingPoll (s : State) : State :=
  if s.window.isSome then s
  else
    match s.sweep with
    | some n => if n < Config.indexCount then { s.sendClosing n with sweep := some (n + 1) } else s
    | none =>
      match s.closing with
      | n :: rest => { s.sendClosing n with closing := rest }
      | [] => s

/-! ### Conditioning (R105 to R107) -/

/-- The raw levels of a reply (R100). -/
structure RawInputs where
  present : Bool
  done : Bool
  call : Bool
  key : Bool
  deriving DecidableEq, Repr

/-- The raw levels in the second byte of a reply (R100). -/
def RawInputs.of (b : Byte) : RawInputs where
  present := b.getLsbD 0
  done := b.getLsbD 1
  call := b.getLsbD 2
  key := b.getLsbD 3

/-- A raw level after polarity: true for active (R105). -/
def InputConf.active (c : InputConf) (raw : Bool) : Bool :=
  match c.polarity with
  | .activeHigh => raw
  | .activeLow => !raw

/-- The conditioned state that stands for a sample. -/
def Level.ofSample (active : Bool) : Level := if active then .active else .inactive

/-- One sample joins the history, and the conditioned state follows k agreeing samples (R105, R106). -/
def InputRec.sample (conf : InputConf) (raw : Bool) (x : InputRec) : InputRec :=
  let active := conf.active raw
  let hist := (active :: x.hist).take 4
  let newest := hist.take conf.debounce
  { hist := hist
    cond := if newest.length = conf.debounce ∧ newest.all (· == active) then Level.ofSample active else x.cond }

/-- An input taken afresh (R107). -/
def InputRec.take (conf : InputConf) (raw : Bool) : InputRec where
  hist := List.replicate 4 (conf.active raw)
  cond := Level.ofSample (conf.active raw)

/-- The loop record after a good reply that is sampled (R103, R105). -/
def LoopRec.sampled (hall : Hall) (raw : RawInputs) (r : LoopRec) : LoopRec :=
  { r with
    misses := 0
    presentIn := r.presentIn.sample hall.presentConf raw.present
    doneIn := r.doneIn.sample hall.doneConf raw.done
    callIn := r.callIn.sample hall.callConf raw.call
    keyIn := r.keyIn.sample hall.keyConf raw.key }

/-- The loop record after a good reply that is taken afresh (R107). -/
def LoopRec.taken (hall : Hall) (raw : RawInputs) (r : LoopRec) : LoopRec :=
  { r with
    misses := 0
    presentIn := InputRec.take hall.presentConf raw.present
    doneIn := InputRec.take hall.doneConf raw.done
    callIn := InputRec.take hall.callConf raw.call
    keyIn := InputRec.take hall.keyConf raw.key
    fresh := false
    answered := false }

/-- The conditioned state changed from inactive to active (R106). -/
def rising (old new : InputRec) : Bool := decide (old.cond = .inactive) && decide (new.cond = .active)

/-- The conditioned state changed from active to inactive (R106). -/
def falling (old new : InputRec) : Bool := decide (old.cond = .active) && decide (new.cond = .inactive)

/-! ### Calls (R111 to R114) -/

/-- The occupant of a seat. -/
def State.occupantOf (s : State) (n : Nat) : Option Nat := (s.seat n).bind Seat.occupant

/-- Do something for the occupant of a seat, if it has one. -/
def State.forOccupant (s : State) (n : Nat) (f : Nat → State) : State :=
  match s.occupantOf n with
  | some i => f i
  | none => s

/-- A CALL rising edge (R111). -/
def State.callRise (s : State) (n : Nat) : State :=
  match s.loop n, s.occupantOf n with
  | some r, some i =>
    if r.call.isSome || r.answered then s
    else
      match s.cand i with
      | some c =>
        (((s.modLoop n (fun x => { x with call := some s.hall.callSense, answered := false })).modCand i
          (fun x => x.setCall true)).post 0 (.callRaised n i c.number c.state)).traceOne i c .call
      | none => s
  | _, _ => s

/-- The pending call of a seat ends: the occupant's CALL flag is cleared and CALL_ENDED is posted, the WATCH_TRACE after it
(R112, R114). -/
def State.endCall (s : State) (n : Nat) (answered : Bool) (how : CallEnd) (cause : Cause) : State :=
  let t := s.modLoop n (fun x => { x with call := none, answered := answered })
  match s.occupantOf n with
  | some i =>
    match s.cand i with
    | some c => ((t.modCand i (fun x => x.setCall false)).post 0 (.callEnded how)).traceOne i c cause
    | none => t.post 0 (.callEnded how)
  | none => t.post 0 (.callEnded how)

/-- A CALL falling edge: it clears the level-answered mark, and in LEVEL sense withdraws a pending call (R112). -/
def State.callFall (s : State) (n : Nat) : State :=
  match s.loop n with
  | none => s
  | some r =>
    if s.hall.callSense = .level ∧ r.call.isSome then s.endCall n false .withdrawn .call
    else s.modLoop n (fun x => { x with answered := false })

/-- A KEY answers the pending call; the level-answered mark is set where the call was raised under LEVEL and CALL is active
(R114). -/
def State.answerCall (s : State) (n : Nat) (r : LoopRec) : State :=
  s.endCall n (r.answered || (decide (r.call = some .level) && decide (r.callIn.cond = .active))) .answered .key

/-- Before the edges of a good reply: the CALL flag of an occupant whose seat has no pending call is cleared (R113). -/
def State.clearStaleCall (s : State) (n : Nat) : State :=
  if (s.loop n).any (fun r => r.call.isSome) then s
  else s.forOccupant n (fun i => s.changeCand i (fun c => c.setCall false) .call)

/-! ### The key (R114, R115) -/

/-- A KEY rising edge, by the first entry of R114's table that applies. -/
def State.keyPress (s : State) (n : Nat) : State :=
  match s.loop n, s.occupantOf n with
  | some r, some i =>
    match s.cand i with
    | none => s
    | some c =>
      if s.targetSeat c.paper = some n then s.takeScript i .target .key
      else if c.state = .finished then s.takeScript i .key .key
      else if r.call.isSome then s.answerCall n r
      else if c.state = .writing ∧ c.restUsed < c.restBudget then s.restStart i
      else if c.state = .resting then s.restStop i
      else s
  | _, _ => s

/-! ### Good replies (R102 to R109) -/

/-- The occupant's present level follows the conditioned PRESENT state (R5). -/
def State.writePresent (s : State) (n : Nat) : State :=
  s.forOccupant n (fun i => s.modCand i (fun c => { c with present := s.seatPresent n }))

/-- The edges of a reply in the order PRESENT, DONE, CALL, KEY, each decoded against the records as the one before it left
them (R108 to R110). -/
def State.decodeEdges (s : State) (n : Nat) (old new : LoopRec) : State :=
  let a := if rising old.presentIn new.presentIn then s.forOccupant n s.presentRise
    else if falling old.presentIn new.presentIn then s.forOccupant n s.presentFall else s
  let b := if rising old.doneIn new.doneIn then a.forOccupant n a.leaveRequest else a
  let c := if rising old.callIn new.callIn then b.callRise n
    else if falling old.callIn new.callIn then b.callFall n else b
  if rising old.keyIn new.keyIn then c.keyPress n else c

/-- A good reply at an ENABLED seat (R105 to R108). -/
def State.enabledReply (s : State) (n : Nat) (r : LoopRec) (raw : RawInputs) : State :=
  if r.fresh then
    (((s.modLoop n (LoopRec.taken s.hall raw)).writePresent n)).clearStaleCall n
  else
    let new := r.sampled s.hall raw
    let t := s.modLoop n (LoopRec.sampled s.hall raw)
    let u := if r.presentIn.cond ≠ new.presentIn.cond then t.writePresent n else t
    (u.clearStaleCall n).decodeEdges n r new

/-- A good reply from a polled seat: from a FAULTY one only the miss count is set to 0 (R104). -/
def State.takeReply (s : State) (n : Nat) (raw : RawInputs) : State :=
  match s.seat n, s.loop n with
  | some seat, some r =>
    match seat.state with
    | .enabled => s.enabledReply n r raw
    | .faulty => s.clearMisses n
    | .disabled => s
  | _, _ => s

/-- The three bytes are a good reply of the seat polled (R100, R102). -/
def replyGood (n : Nat) (b0 b1 b2 : Byte) : Bool :=
  decide (b0 + b1 + b2 = 0xFF#8) && decide ((if b1.msb then 256 else 0) + b0.toNat = n)

/-! ### Missed replies (R103, R36) -/

/-- The seat becomes FAULTY: the occupant's SEAT_FAULT is set, SEAT_FAULTED and the WATCH_TRACE are posted (R36), and a walk
that waits at the seat passes on (R125). -/
def State.faultSeat (s : State) (n : Nat) (seat : Seat) : State :=
  let t := s.modSeat n (fun x => { x with state := .faulty, fault := some .noReply })
  let u :=
    match seat.occupant with
    | none => t.post 0 (.seatFaulted n seat.row seat.col none)
    | some i =>
      match s.cand i with
      | none => t.post 0 (.seatFaulted n seat.row seat.col none)
      | some c =>
        ((t.modCand i (fun x => x.setSeatFault true)).post 0
          (.seatFaulted n seat.row seat.col (some (i, c.paper)))).traceOne i c .seat
  match s.targetOf n with
  | some slot => u.skipTarget slot .seatFault
  | none => u

/-- A missed reply of a polled seat (R103). -/
def State.miss (s : State) (n : Nat) : State :=
  match s.seat n, s.loop n with
  | some seat, some r =>
    let t := s.modLoop n (fun x => { x with misses := min (x.misses + 1) Config.maxMisses })
    if seat.state = .enabled ∧ r.misses + 1 = Config.faultMisses then t.faultSeat n seat else t
  | _, _ => s

/-- The reply window ends without a good reply; what a closing poll's window ends with is not counted (R98, R102). -/
def State.missedReply (s : State) : State :=
  match s.window with
  | none => s
  | some w => if w.closing then s.endWindow else s.endWindow.miss w.seat

/-- Three bytes within the reply window (R102). A good reply that comes first ends the window and is taken; other bytes leave
it open, to end as a missed reply (log 37). In the window of a closing poll, and with none open, bytes are discarded (R98,
R102). -/
def State.goodReply (s : State) (b0 b1 b2 : Byte) : State :=
  match s.window with
  | none => s
  | some w =>
    if w.closing || w.spoiled then s
    else if replyGood w.seat b0 b1 b2 then s.endWindow.takeReply w.seat (RawInputs.of b1)
    else { s with window := some { w with spoiled := true } }

end Sys2Proof.Machine
end

