-- ==== Sys2Proof/Machine/Marking.lean ====
section
/-! DEFINITION. The Marking Engine (R158 to R184) but for its dealings with the reader: formats, keys, the reading and
classing of a sheet, scoring, rescoring, and the requests that belong to them.
-/

namespace Sys2Proof.Machine

/-! ### Formats (R160 to R162) -/

/-- A walk start and two offsets are in range (R160 check 1). -/
def blockWalkInRange (w : BlockWalkArgs) : Bool :=
  decide (w.start ≤ 8191) && decide (-8191 ≤ w.o1) && decide (w.o1 ≤ 8191) && decide (-8191 ≤ w.o2) &&
  decide (w.o2 ≤ 8191)

/-- Check 1 of R160, but for the slot. -/
def formatInRange (a : FormatArgs) : Bool :=
  decide (a.mask ≠ 0) && decide (1 ≤ a.subSamples) && decide (a.subSamples ≤ 4) && decide (4 ≤ a.rows) &&
  decide (a.rows ≤ 64) && decide (a.refRow < a.rows) && decide (a.faintPolicy ≤ 1) && decide (a.multiPolicy ≤ 1) &&
  decide (a.sectionFloor ≤ 1) && decide (a.paperFloor ≤ 0) && decide (1 ≤ a.blocks.length) &&
  decide (a.blocks.length ≤ 5) && blockWalkInRange a.idBlock &&
  a.blocks.all (fun b => decide (1 ≤ b.first) && decide (b.first ≤ 200) && decide (2 ≤ b.options) &&
    decide (b.options ≤ 8) && blockWalkInRange b.walk)

/-- A block walk as taken. -/
def blockWalkTaken (w : BlockWalkArgs) : BlockWalk := { start := w.start, o1 := w.o1, o2 := w.o2 }

/-- The policy a byte names (R198). -/
def policyOf (code : Nat) : Policy := if code = 0 then .asBlank else .asWrong

/-- The format as taken, with the paper floor clamped (R161). -/
def formatTaken (a : FormatArgs) : Format where
  mask := a.mask
  subSamples := a.subSamples
  rows := a.rows
  refRow := a.refRow
  tBlank := a.tBlank
  tMark := a.tMark
  margin := a.margin
  faint := policyOf a.faintPolicy
  multi := policyOf a.multiPolicy
  sectionFloor := a.sectionFloor == 1
  paperFloor := max a.paperFloor (-8000)
  idBlock := blockWalkTaken a.idBlock
  blocks := a.blocks.map (fun b =>
    { first := b.first, count := b.count, options := b.options, walk := blockWalkTaken b.walk })

/-- The answer blocks in ascending first question number (R160 check 5). -/
def Format.ascending (f : Format) : List AnswerBlock := f.blocks.insertionSort (fun a b => a.first ≤ b.first)

/-- Each block begins at the question after the last of the block before it, from question `next` on (R160 check 5). -/
def contiguous : Nat → List AnswerBlock → Bool
  | _, [] => true
  | next, b :: bs => b.first == next && contiguous (next + b.count) bs

/-- A block walk's start and offsets lie in R45's ranges. -/
def BlockWalk.inRange (w : BlockWalk) : Bool :=
  decide (w.start ≤ 8191) && decide (-8191 ≤ w.o1) && decide (w.o1 ≤ 8191) && decide (-8191 ≤ w.o2) &&
  decide (w.o2 ≤ 8191)

/-- Check 4 of R160, every block walk valid by R39: each question count in 1..64, and the ranges of R45, which check 1 has already
tested (log 49). -/
def Format.walksValid (f : Format) : Bool :=
  f.idBlock.inRange &&
  f.blocks.all (fun b => decide (1 ≤ b.count) && decide (b.count ≤ 64) && b.walk.inRange)

/-- Check 5 of R160. -/
def Format.questionsValid (f : Format) : Bool := contiguous 1 f.ascending && decide (f.questions ≤ 200)

/-- The ID block's run length and counts (R45): S, 10 options, 6 digits. -/
def Format.idCounts (f : Format) : Nat × Nat × Nat := (f.subSamples, 10, 6)

/-- Every block walk of the format with its counts: the ID block first, then the answer blocks in the order given (R45). -/
def Format.walks (f : Format) : List (BlockWalk × Nat × Nat × Nat) :=
  (f.idBlock, f.idCounts) :: f.blocks.map (fun b => (b.walk, f.subSamples, b.options, b.count))

/-- Check 6 of R160. -/
def Format.fits (f : Format) : Bool :=
  decide (f.sheetSize ≤ Config.bufferSize) && f.walks.all (fun w => w.1.fits w.2.1 w.2.2.1 w.2.2.2 f.sheetSize)

/-- The smallest and largest address of each block walk (R46, R161), a variable number of entries and so a list (R198); that it
is one list, with the ID block's as its first entry, is log 15's. -/
def Format.addressBytes (f : Format) : List Byte :=
  listOf (fun w => u16 (w.1.lowest w.2.1 w.2.2.1 w.2.2.2).toNat ++ u16 (w.1.highest w.2.1 w.2.2.1 w.2.2.2).toNat) f.walks

/-- What the replies to FORMAT_LOAD and FORMAT_READ carry of a format (R161, R162, log 15). -/
def Format.report (f : Format) : List Byte :=
  f.bytes ++ u8 f.channels ++ u8 f.questions ++ u16 f.sheetSize ++ f.addressBytes

/-- A candidate of the paper is MARKED. -/
def State.anyMarked (s : State) (slot : Nat) : Bool :=
  s.cands.any (fun e => e.2.paper == slot && decide (e.2.state = .marked))

/-- A taken FORMAT_LOAD (R161). -/
def Paper.loadFormat (f : Format) (p : Paper) : Paper :=
  { p with format := some f, key := List.replicate f.questions none, marking := .notReady }

/-- FORMAT_LOAD (R160, R161). A block walk's start or offset out of its range fails R160's check 1, whose code is RANGE, before its
check 4, at which R39 and R45 have it refused with FORMAT (log 49). -/
def decideFormatLoad (slot : Nat) (a : FormatArgs) (s : State) : State × Answer :=
  if ¬ (slot < Config.slotCount ∧ formatInRange a) then refuse .range s
  else
    match s.paper slot with
    | none => refuse .notFound s
    | some p =>
      let f := formatTaken a
      if ¬ f.tBlank < f.tMark then refuse .format s
      else if ¬ f.walksValid then refuse .format s
      else if ¬ f.questionsValid then refuse .format s
      else if ¬ f.fits then refuse .format s
      else if ¬ (p.marking = .notReady ∨ p.marking = .ready) ∨ s.anyMarked slot then refuse .state s
      else (s.modPaper slot (Paper.loadFormat f), .ok f.report)

/-- FORMAT_READ, with hall time first as of every reply that reports records (R162, R189, log 15). -/
def decideFormatRead (slot : Nat) (s : State) : State × Answer :=
  if ¬ slot < Config.slotCount then refuse .range s
  else
    match s.paper slot with
    | none => refuse .notFound s
    | some p => (s, .ok (u24 s.hallTime ++ group Format.report p.format))

/-! ### Keys (R163 to R166) -/

/-- The option count of question `q` (R163). -/
def Format.optionsOf (f : Format) (q : Nat) : Nat :=
  ((f.blocks.find? (fun b => decide (b.first ≤ q) && decide (q < b.first + b.count))).map AnswerBlock.options).getD 0

/-- An entry as taken, with W and P clamped to 40 (R164). -/
def keyEntryTaken (e : KeyEntryArgs) : KeyEntry where
  keySet := e.keySet
  weight := min e.weight 40
  penalty := min e.penalty 40
  sect := e.sect

/-- The key with entries written for the questions from `first` on (R165). -/
def writeKey (key : List (Option KeyEntry)) : Nat → List KeyEntry → List (Option KeyEntry)
  | _, [] => key
  | first, e :: es => writeKey (key.set (first - 1) (some e)) (first + 1) es

/-- The key generation after a KEY_LOAD (R163). -/
def nextGeneration (g : Nat) : Nat := if g = 65535 then 1 else g + 1

/-- Every key set names options of its question only (R164 check 4). -/
def keySetsFit (f : Format) : Nat → List KeyEntryArgs → Bool
  | _, [] => true
  | q, e :: es => decide (e.keySet.toNat < 2 ^ f.optionsOf q) && keySetsFit f (q + 1) es

/-- The marker is MARKING a sheet of the paper or RESCORING the paper (R164 check 5). -/
def State.markerBusy (s : State) (slot : Nat) : Bool :=
  match s.marker with
  | .idle => false
  | .marking _ => decide (s.reader.bound = some slot)
  | .rescoring p _ _ => p == slot

/-- The questions whose entry is unwritten (R163). -/
def Paper.unwritten (p : Paper) : Nat := p.key.countP Option.isNone

/-- A taken KEY_LOAD (R165, R159). -/
def Paper.loadKey (first : Nat) (entries : List KeyEntry) (p : Paper) : Paper :=
  let q := { p with key := writeKey p.key first entries, generation := nextGeneration p.generation }
  if q.keyComplete ∧ q.marking = .notReady then { q with marking := .ready } else q

/-- KEY_LOAD (R164, R165). -/
def decideKeyLoad (slot first : Nat) (entries : List KeyEntryArgs) (s : State) : State × Answer :=
  if ¬ (slot < Config.slotCount ∧ 1 ≤ first ∧ first ≤ 200 ∧ 1 ≤ entries.length ∧ entries.length ≤ 50 ∧
      entries.all (fun e => decide (e.sect ≤ 7))) then refuse .range s
  else
    match s.paper slot with
    | none => refuse .notFound s
    | some p =>
      match p.format with
      | none => refuse .state s
      | some f =>
        if ¬ (first + entries.length - 1 ≤ f.questions ∧ keySetsFit f first entries) then refuse .range s
        else if s.markerBusy slot then refuse .busy s
        else
          let taken := entries.map keyEntryTaken
          let q := p.loadKey first taken
          (s.modPaper slot (Paper.loadKey first taken),
            .ok (listOf KeyEntry.bytes taken ++ u16 q.generation ++ u8 q.unwritten ++ u8 q.marking.code))

/-- KEY_READ, with hall time first as of every reply that reports records (R166, R189, log 15). -/
def decideKeyRead (slot first count : Nat) (s : State) : State × Answer :=
  if ¬ (slot < Config.slotCount ∧ 1 ≤ first ∧ first ≤ 200 ∧ 1 ≤ count ∧ count ≤ 50) then refuse .range s
  else
    match s.paper slot with
    | none => refuse .notFound s
    | some p =>
      match p.format with
      | none => refuse .state s
      | some f =>
        if ¬ first + count - 1 ≤ f.questions then refuse .range s
        else
          (s, .ok (u24 s.hallTime ++ u16 p.generation ++ u8 p.unwritten ++
            listOf (group KeyEntry.bytes) ((p.key.drop (first - 1)).take count)))

/-! ### Reading a sheet (R168 to R171) -/

/-- The sum of `n` samples from address `a` on. -/
def sumSamples (mem : List Host.Cell) (a : Nat) : Nat → Nat
  | 0 => 0
  | n + 1 => (Mem.read mem a).toNat + sumSamples mem (a + 1) n

/-- The background of every rank (R168). -/
def backgrounds (f : Format) (mem : List Host.Cell) : List Nat :=
  (List.range f.channels).map (fun i =>
    sumSamples mem ((f.refRow * f.channels + i) * f.subSamples) f.subSamples / f.subSamples)

/-- The darkness of the bubble whose first address is `a`; a difference below 0 counts as 0 (R169). -/
def darkness (f : Format) (bgs : List Nat) (mem : List Host.Cell) (a : Nat) : Nat :=
  sumSamples mem a f.subSamples / f.subSamples - bgs.getD (a / f.subSamples % f.channels) 0

/-- The largest of the values, 0 for none. -/
def largest (xs : List Nat) : Nat := xs.foldl max 0

/-- The class of a question from its options' darkness values (R170). -/
def classify (f : Format) (ds : List Nat) : QClass :=
  let d1 := largest ds
  let option := ds.idxOf d1
  let d2 := largest (ds.eraseIdx option)
  if d1 < f.tBlank then .blank
  else if d1 < f.tMark then .faint
  else if d2 < f.tBlank then .resp option
  else if d1 - d2 > f.margin then .respE option
  else .multi

/-- The darkness values of question `h` of a block with `options` options (R169). -/
def questionDarkness (f : Format) (bgs : List Nat) (mem : List Host.Cell) (w : BlockWalk) (options h : Nat) : List Nat :=
  (List.range options).map (fun m => darkness f bgs mem (w.address h m 0).toNat)

/-- The readings of a block, question by question (R167). -/
def readBlock (f : Format) (bgs : List Nat) (mem : List Host.Cell) (w : BlockWalk) (options count : Nat) :
    List Reading :=
  (List.range count).map (fun h =>
    let ds := questionDarkness f bgs mem w options h
    { darkness := ds, cls := classify f ds })

/-- The classes of the six ID digits (R171). -/
def readDigits (f : Format) (bgs : List Nat) (mem : List Host.Cell) : List QClass :=
  (readBlock f bgs mem f.idBlock 10 6).map Reading.cls

/-- The option of a class that carries one (R170). -/
def QClass.option? : QClass → Option Nat
  | .resp o | .respE o => some o
  | .blank | .faint | .multi => none

/-- The number the digits give, most significant first; none where one carries no option (R171). -/
def digitsValue : List QClass → Nat → Option Nat
  | [], acc => some acc
  | d :: ds, acc =>
    match d.option? with
    | some o => digitsValue ds (10 * acc + o)
    | none => none

/-- The candidate number read; none for an unreadable sheet (R171). -/
def numberRead (digits : List QClass) : Option Nat :=
  match digitsValue digits 0 with
  | some 0 => none
  | r => r

/-- The readings of the answer blocks in the order of the format; none are made of an unreadable sheet (R167, R171). -/
def readAnswers (f : Format) (bgs : List Nat) (mem : List Host.Cell) (digits : List QClass) : List Reading :=
  if (numberRead digits).isNone then []
  else f.blocks.flatMap (fun b => readBlock f bgs mem b.walk b.options b.count)

/-- The question numbers of the answer blocks in the order of the format (R160). -/
def Format.numbering (f : Format) : List Nat := f.blocks.flatMap (fun b => (List.range b.count).map (b.first + ·))

/-- The classes in question order 1..Q, from the readings in the order they were made (R160, R167, R176). -/
def Format.responses (f : Format) (readings : List Reading) : List QClass :=
  ((f.numbering.zip (readings.map Reading.cls)).insertionSort (fun a b => a.1 ≤ b.1)).map Prod.snd

/-! ### Scoring (R173 to R175) -/

/-- What a question is counted as (R173). -/
inductive Counted where
  | correct | wrong | blank | faint | multi | void
  deriving DecidableEq, Repr

/-- The last column of R173's table. -/
def countedAs (e : KeyEntry) (c : QClass) : Counted :=
  if e.keySet = 0 then .void
  else
    match c with
    | .resp o | .respE o => if e.keySet.getLsbD o then .correct else .wrong
    | .blank => .blank
    | .faint => .faint
    | .multi => .multi

/-- What a FAINT or MULTI question scores under its policy (R173). -/
def policyOutcome (p : Policy) (penalty : Nat) : Int :=
  match p with
  | .asBlank => 0
  | .asWrong => -(penalty : Int)

/-- The outcome of a question in quarter-marks (R173). -/
def outcome (f : Format) (e : KeyEntry) (c : QClass) : Int :=
  match countedAs e c with
  | .void | .blank => 0
  | .correct => e.weight
  | .wrong => -(e.penalty : Int)
  | .faint => policyOutcome f.faint e.penalty
  | .multi => policyOutcome f.multi e.penalty

/-- A question scored: its section, outcome, what it is counted as, and whether its class is RESP_E. -/
structure Scored where
  sect : Nat
  outcome : Int
  counted : Counted
  erasure : Bool
  deriving DecidableEq, Repr

/-- The class is RESP_E (R175). -/
def QClass.isErasure : QClass → Bool
  | .respE _ => true
  | .blank | .faint | .resp _ | .multi => false

/-- Every question scored against its key entry (R173). -/
def scoreAll (f : Format) (key : List KeyEntry) (responses : List QClass) : List Scored :=
  (key.zip responses).map (fun x =>
    { sect := x.1.sect, outcome := outcome f x.1 x.2, counted := countedAs x.1 x.2, erasure := x.2.isErasure })

/-- The section sum of a section (R174). -/
def sectionSum (qs : List Scored) (k : Nat) : Int := ((qs.filter (fun q => q.sect == k)).map Scored.outcome).sum

/-- The eight section sums (R174). -/
def sectionSums (qs : List Scored) : List Int := (List.range 8).map (sectionSum qs)

/-- The section result of a section sum (R174). -/
def sectionResult (floor : Bool) (z : Int) : Int := if floor then max 0 z else z

/-- The questions counted as one kind (R175). -/
def countOf (qs : List Scored) (k : Counted) : Nat := qs.countP (fun q => q.counted == k)

/-- The result of a sheet's responses under a key: totals, flags and counts (R174, R175). -/
def scoreSheet (f : Format) (key : List KeyEntry) (responses : List QClass) (generation tag : Nat) : MarkResult :=
  let qs := scoreAll f key responses
  let sums := sectionSums qs
  let raw := sums.sum
  let floored := (sums.map (sectionResult f.sectionFloor)).sum
  let final := max floored f.paperFloor
  { final := final
    raw := raw
    floored := floored
    neg := decide (raw < 0)
    zero := decide (final = 0)
    clamped := (f.sectionFloor && sums.any (· < 0)) || decide (floored < final)
    counts :=
      { correct := countOf qs .correct
        wrong := countOf qs .wrong
        blank := countOf qs .blank
        faint := countOf qs .faint
        multi := countOf qs .multi
        void := countOf qs .void
        erasure := qs.countP Scored.erasure }
    generation := generation
    tag := tag }

/-- The written entries of a complete key, in question order (R163). -/
def Paper.keyEntries (p : Paper) : List KeyEntry := p.key.filterMap id

/-- The result of responses under the paper's format and key as they stand (R173 to R175). -/
def Paper.score (p : Paper) (f : Format) (responses : List QClass) (generation tag : Nat) : MarkResult :=
  scoreSheet f p.keyEntries responses generation tag

/-! ### Rescoring (R181, R182) -/

/-- The next MARKED candidate of the paper from an index on (R182). -/
def State.nextMarked (s : State) (slot from_ : Nat) : Option (Nat × Cand) :=
  s.cands.find? (fun e => decide (from_ ≤ e.1) && e.2.paper == slot && decide (e.2.state = .marked))

/-- Change a paper's marking state. -/
def State.setMarking (s : State) (slot : Nat) (m : MarkState) : State :=
  s.modPaper slot (fun p => { p with marking := m })

/-- The paper's key generation. -/
def State.generationOf (s : State) (slot : Nat) : Nat := ((s.paper slot).map Paper.generation).getD 0

/-- The rescore ends (R182). -/
def State.endRescore (s : State) (slot count : Nat) : State :=
  ({ s with marker := .idle }.setMarking slot .ready).post slot (.rescoreDone count (s.generationOf slot))

/-- Go on from an index, or end the rescore where no MARKED candidate is left (R182, log 24). -/
def State.continueRescore (s : State) (slot next count : Nat) : State :=
  if (s.nextMarked slot next).isSome then { s with marker := .rescoring slot next count } else s.endRescore slot count

/-- The recomputed result of a MARKED candidate (R182). -/
def State.rescored (s : State) (i : Nat) (c : Cand) : Option MarkResult :=
  match s.paper c.paper, Table.get s.responses i, c.result with
  | some p, some rs, some r => p.format.map (fun f => p.score f rs p.generation r.tag)
  | _, _, _ => c.result

/-- RESCORE_STEP (R182). -/
def State.rescoreStep (s : State) : State :=
  match s.marker with
  | .rescoring slot next count =>
    match s.nextMarked slot next with
    | some (i, c) =>
      (s.modCand i (fun x => { x with result := s.rescored i c })).continueRescore slot (i + 1) (count + 1)
    | none => s.endRescore slot count
  | .idle | .marking _ => s

/-- The MARKED candidates of a paper. -/
def State.markedCount (s : State) (slot : Nat) : Nat := s.countCands slot (fun c => decide (c.state = .marked))

/-- RESCORE (R181, R182). The RESCORE_DONE of a paper with no MARKED candidate is posted before the reply is built, so where it is
lost the reply itself shows lost-notice (log 56). -/
def decideRescore (slot : Nat) (s : State) : State × Answer :=
  if ¬ slot < Config.slotCount then refuse .range s
  else
    match s.paper slot with
    | none => refuse .notFound s
    | some p =>
      if p.marking ≠ .ready then refuse .state s
      else if ¬ (s.marker = .idle ∧ s.reader.bound = none) then refuse .busy s
      else
        ((s.setMarking slot .rescoring).continueRescore slot 0 0, .ok (u16 (s.markedCount slot) ++ u16 p.generation))

/-! ### Reading results (R183, R184) -/

/-- RESULT_READ (R183, R200). -/
def decideResultRead (index : Nat) (s : State) : State × Answer :=
  if ¬ index < Config.indexCount then refuse .range s
  else
    match s.cand index with
    | none => refuse .notFound s
    | some c =>
      if c.state ≠ .marked then refuseWith .state 11 c.state.code s
      else
        match c.result with
        | none => refuseWith .state 11 c.state.code s
        | some r => (s, .ok (r.bytes index s.hallTime (s.generationOf c.paper) c))

/-- RESPONSES_READ (R184, R200). -/
def decideResponsesRead (index : Nat) (s : State) : State × Answer :=
  if ¬ index < Config.indexCount then refuse .range s
  else
    match s.cand index with
    | none => refuse .notFound s
    | some c =>
      if c.state ≠ .marked then refuseWith .state 11 c.state.code s
      else
        let rs := (Table.get s.responses index).getD []
        (s, .ok (u24 s.hallTime ++ u16 index ++ u8 rs.length ++ rs.flatMap QClass.bytes))

end Sys2Proof.Machine
end

