-- ==== Sys2Proof/Machine/Reader.lean ====
section
/-! DEFINITION. The Sheet Reader Interface (R137 to R157) and what the Marking Engine does with its sheets (R151, R167,
R172, R176, R177, R179, R180). The message at the front of the transmit queue is the one being sent (log 11).
-/

namespace Sys2Proof.Machine

/-! ### The reader's records -/

/-- Change the reader. -/
def State.modReader (s : State) (f : Reader → Reader) : State := { s with reader := f s.reader }

/-- The open Sheet Record in an entry (R143). -/
def State.sheet (s : State) (e : Nat) : Option SheetRec := Table.get s.reader.records e

/-- Change an open Sheet Record. -/
def State.modSheet (s : State) (e : Nat) (f : SheetRec → SheetRec) : State :=
  s.modReader (fun r => { r with records := Table.modify r.records e f })

/-- The open record that holds a tag, with its entry. -/
def State.sheetOf (s : State) (tag : Nat) : Option (Nat × SheetRec) :=
  s.reader.records.find? (fun x => x.2.tag == tag)

/-- The format of the bound paper. -/
def State.boundFormat (s : State) : Option Format := (s.reader.bound.bind s.paper).bind Paper.format

/-- Post a READER_ERROR (R157). -/
def State.readerError (s : State) (reason : ReaderErr) (kind : Option Nat) (tag : Nat) : State :=
  s.post tag (.readerError reason kind)

/-! ### The transmit queue (R140) and the feed (R142) -/

/-- A message joins the back of the queue. -/
def Reader.push (m : TxMsg) (r : Reader) : Reader := { r with tx := r.tx ++ [m] }

/-- Replace, by `f`, the messages whose sending has not begun. -/
def Reader.modQueued (f : List TxMsg → List TxMsg) (r : Reader) : Reader :=
  match r.tx with
  | [] => r
  | m :: ms => { r with tx := m :: f ms }

/-- The messages whose sending has not begun. -/
def Reader.queued (r : Reader) : List TxMsg := r.tx.tail

/-- A FEED. -/
def TxMsg.isFeed : TxMsg → Bool
  | .feed _ => true
  | .geometry _ _ _ | .divert _ => false

/-- A GEOMETRY. -/
def TxMsg.isGeometry : TxMsg → Bool
  | .geometry _ _ _ => true
  | .feed _ | .divert _ => false

/-- A DIVERT of the record in an entry. -/
def TxMsg.isDivertOf (e : Nat) : TxMsg → Bool
  | .divert d => decide (d.entry = some e)
  | .feed _ | .geometry _ _ _ => false

/-- The value of the first FEED of a list. -/
def feedIn : List TxMsg → Option Bool
  | [] => none
  | .feed go :: _ => some go
  | _ :: ms => feedIn ms

/-- The FEED the transport will have received when the message being sent has left: that message, if it is a FEED, else the
feed last sent (log 12). -/
def Reader.feedBegun (r : Reader) : Bool :=
  match r.tx with
  | .feed go :: _ => go
  | _ => r.feedSent

/-- The feed wanted is GO (R142). -/
def Reader.feedWanted (r : Reader) : Bool :=
  r.bound.isSome && r.ready && (decide (r.buf0.state = .free) || decide (r.buf1.state = .free)) &&
  decide (r.records.length < Config.sheetRecords)

/-- Work the feed out afresh (R142); a new FEED replaces the queued one or, where it equals the feed last sent, removes it
(R140). -/
def Reader.updateFeed (r : Reader) : Reader :=
  let wanted := r.feedWanted
  match feedIn r.queued with
  | some queued =>
    if wanted = queued then r
    else if wanted = r.feedBegun then r.modQueued (fun ms => ms.filter (fun m => !m.isFeed))
    else r.modQueued (fun ms => ms.map (fun m => if m.isFeed then .feed wanted else m))
  | none => if wanted = r.feedBegun then r else r.push (.feed wanted)

/-- Work the feed out afresh (R142). -/
def State.updateFeed (s : State) : State := s.modReader Reader.updateFeed

/-- A GEOMETRY of a format is made: it replaces a queued one, or joins the back (R140, R141). -/
def Reader.makeGeometry (f : Format) (r : Reader) : Reader :=
  let m := TxMsg.geometry f.mask f.subSamples f.rows
  if r.queued.any TxMsg.isGeometry then
    r.modQueued (fun ms => ms.map (fun x => if x.isGeometry then m else x))
  else r.push m

/-- A DIVERT goes ahead of every message whose sending has not begun (R140, R153). -/
def Reader.pushAhead (m : TxMsg) (r : Reader) : Reader :=
  match r.tx with
  | [] => { r with tx := [m] }
  | b :: ms => { r with tx := b :: m :: ms }

/-- A DIVERT for a sheet without a record; at 10 messages it is not made, and TX_FULL is posted (R140). The frame concerned
is the SHEET_BEGIN. -/
def State.divertUnrecorded (s : State) (tag : Nat) (reason : Reason) : State :=
  if Config.divertRoom ≤ s.reader.tx.length then s.readerError .txFull (some 1) tag
  else s.modReader (Reader.push (.divert { tag := tag, decision := .reject reason, entry := none, cand := none }))

/-- Withdraw a record's DIVERT whose sending has not begun; one being sent is finished and is no longer the record's (R140,
R144, log 14). -/
def Reader.withdraw (e : Nat) (r : Reader) : Reader :=
  match r.tx with
  | [] => r
  | m :: ms =>
    let begun := match m with
      | .divert d => TxMsg.divert (if d.entry = some e then { d with entry := none } else d)
      | .feed go => .feed go
      | .geometry mask n rows => .geometry mask n rows
    { r with tx := begun :: ms.filter (fun x => !x.isDivertOf e) }

/-! ### The Sample FIFO and the buffers (R147, R148) -/

/-- The FIFO is emptied and has no owner. -/
def Reader.clearFifo (r : Reader) : Reader := { r with fifo := [], owner := none, moved := 0 }

/-- The FIFO is emptied and has no owner, if the tag owns it (R144, R145, R153). -/
def Reader.disown (tag : Nat) (r : Reader) : Reader := if r.owner = some tag then r.clearFifo else r

/-- Set the state of a buffer. -/
def Reader.setBuffer (b : Nat) (st : BufState) (r : Reader) : Reader := r.modBuffer b (fun x => { x with state := st })

/-- The lowest FREE buffer (R146). -/
def Reader.freeBuffer (r : Reader) : Option Nat :=
  if r.buf0.state = .free then some 0 else if r.buf1.state = .free then some 1 else none

/-- The owner is RECEIVING, not spoiled, and waits for a buffer (R148). -/
def SheetRec.waiting (owner : Option Nat) (x : SheetRec) : Bool :=
  decide (owner = some x.tag) && decide (x.state = .receiving) && x.spoil.isNone && x.buffer.isNone

/-- A buffer becomes FREE; an owner that waits takes it at once (R148). -/
def Reader.release (b : Nat) (r : Reader) : Reader :=
  match r.records.find? (fun x => x.2.waiting r.owner) with
  | some (e, _) =>
    { r.setBuffer b .filling with records := Table.modify r.records e (fun x => { x with buffer := some b }) }
  | none => r.setBuffer b .free

/-- Release a record's buffer, unless the marker is reading it (R144). -/
def Reader.releaseOf (b : Option Nat) (r : Reader) : Reader :=
  match b with
  | none => r
  | some n => if (r.buffer n).state = .marking then r else r.release n

/-- Move every sample of the FIFO into the owner's buffer, in arrival order (R147, log 10). -/
def Reader.moveSamples (b : Nat) (r : Reader) : Reader :=
  { r.modBuffer b (fun x => { x with mem := Mem.writeFrom x.mem r.moved r.fifo }) with
    fifo := []
    moved := r.moved + r.fifo.length }

/-! ### Spoiling, deciding and losing a record (R144, R145, R152) -/

/-- Spoil a record that is not spoiled (R145). -/
def State.spoil (s : State) (e : Nat) (reason : Spoil) : State :=
  match s.sheet e with
  | none => s
  | some x =>
    if x.spoil.isSome then s
    else
      (((s.modSheet e (fun y => { y with spoil := some reason, buffer := none })).modReader
        (fun r => (r.disown x.tag).releaseOf x.buffer)).post x.tag (.sheetSpoiled x.tag reason x.rows)).updateFeed

/-- Decide a record: it becomes DECIDED and its DIVERT is made; at the gate the DIVERT goes ahead (R152, R153). -/
def State.decideSheet (s : State) (e tag : Nat) (d : Decision) (cand : Option Decoded) (ahead : Bool) : State :=
  let m := TxMsg.divert { tag := tag, decision := d, entry := some e, cand := cand }
  (s.modSheet e (fun y => { y with state := .decided, decision := some d })).modReader
    (if ahead then Reader.pushAhead m else Reader.push m)

/-- The marker has lost the record it took (R144, R158). -/
def Marker.lose (e : Nat) : Marker → Marker
  | .marking j => .marking (if j.entry = e then { j with same := false } else j)
  | .idle => .idle
  | .rescoring slot next count => .rescoring slot next count

/-- The candidate of a record decided ACCEPT (R144). -/
def State.lostCand (s : State) (x : SheetRec) : Option (Nat × Cand) :=
  match x.decision, x.staged with
  | some .accept, some g => (s.cand g.index).map (fun c => (g.index, c))
  | _, _ => none

/-- Return a MARK_PENDING candidate to COLLECTED (R144). -/
def Cand.returned (c : Cand) : Cand := if c.state = .markPending then { c with state := .collected } else c

/-- Close an open record as lost (R144). Its WATCH_TRACE follows its own SHEET_LOST, also where one JAM or READER_RESET closes
several records (log 53). -/
def State.closeLost (s : State) (e : Nat) (cause : LostCause) (reported : Option Stacker) : State :=
  match s.sheet e with
  | none => s
  | some x =>
    let lost := s.lostCand x
    let t := s.modReader (fun r =>
      (({ r.withdraw e with records := Table.erase r.records e }.disown x.tag).releaseOf x.buffer))
    let u := { t with marker := t.marker.lose e }
    let notice := NoticeBody.sheetLost x.tag cause x.state x.decision reported
      (lost.map (fun c => (c.1, c.2.number))) (lost.any (fun c => decide (c.2.state = .markPending)))
    match lost with
    | some (i, c) => (((u.modCand i Cand.returned).post x.tag notice).traceOne i c .sheet).updateFeed
    | none => (u.post x.tag notice).updateFeed

/-! ### A sheet arrives (R146, R149, R150) -/

/-- A record as SHEET_BEGIN opens it (R146). -/
def SheetRec.opened (tag : Nat) (buffer : Option Nat) : SheetRec where
  tag := tag
  state := .receiving
  buffer := buffer
  rows := 0
  endTaken := none
  spoil := none
  decision := none
  staged := none

/-- Open a record in a free entry (R146 lines 4 and 5). -/
def State.openSheet (s : State) (e tag : Nat) : State :=
  if s.reader.owner.isSome then
    (s.modReader (fun r => { r with records := Table.insert r.records e (SheetRec.opened tag none) })).spoil e .noBuffer
  else
    let buffer := s.reader.freeBuffer
    let taken := buffer.elim s.reader (fun b => s.reader.setBuffer b .filling)
    { s with reader :=
      { taken with
        records := Table.insert s.reader.records e (SheetRec.opened tag buffer)
        fifo := []
        owner := some tag
        moved := 0 } }

/-- SHEET_BEGIN from line 3 of R146 on; the lowest free entry is taken (log 27). -/
def State.beginSheet (s : State) (tag : Nat) : State :=
  match Table.firstFree s.reader.records Config.sheetRecords with
  | none => s.divertUnrecorded tag .noRecord
  | some e => (s.openSheet e tag).updateFeed

/-- SHEET_BEGIN (R146). The close of a record that held the tag works the feed out afresh (R144), and a FEED it makes at an empty
queue has begun when the rest of the SHEET_BEGIN works it out again (log 51). -/
def State.sheetBegin (s : State) (tag : Nat) : State :=
  if s.reader.bound.isNone then s.divertUnrecorded tag .notBound
  else
    match s.sheetOf tag with
    | some (e, _) => (s.closeLost e .tagReused none).beginSheet tag
    | none => s.beginSheet tag

/-- Rows received after a ROW: one more, up to R (R149). -/
def State.countRow (s : State) (e : Nat) : State :=
  s.modSheet e (fun y => { y with rows := min (y.rows + 1) (s.boundFormat.elim y.rows Format.rows) })

/-- The ROW fits the record and the bound geometry (R149). -/
def State.rowFits (s : State) (x : SheetRec) (rowIndex n : Nat) : Bool :=
  s.boundFormat.any (fun f =>
    rowIndex == x.rows && decide (x.rows < f.rows) && n == f.channels * f.subSamples)

/-- The samples of a fitting ROW join the FIFO. With a buffer they move into it (R147); without one they wait, and a sample
beyond the FIFO's capacity spoils the owner with OVERRUN. -/
def State.takeSamples (s : State) (e : Nat) (x : SheetRec) (samples : List Byte) : State :=
  if s.reader.owner ≠ some x.tag then s
  else
    match x.buffer with
    | some b => s.modReader (fun r => { r with fifo := r.fifo ++ samples }.moveSamples b)
    | none =>
      if s.reader.fifo.length + samples.length ≤ Config.fifoCapacity then
        s.modReader (fun r => { r with fifo := r.fifo ++ samples })
      else s.spoil e .overrun

/-- ROW (R149). -/
def State.takeRow (s : State) (tag rowIndex : Nat) (samples : List Byte) : State :=
  match s.sheetOf tag with
  | none => s
  | some (e, x) =>
    match x.state with
    | .decided | .diverted => s
    | .stored | .marking => s.readerError .order (some 2) tag
    | .receiving =>
      if x.endTaken.isSome then s.readerError .order (some 2) tag
      else if x.spoil.isSome then s.countRow e
      else if s.rowFits x rowIndex samples.length then (s.takeSamples e x samples).countRow e
      else (s.spoil e .geometry).countRow e

/-- The sheet becomes STORED, its buffer FULL, and FIFO ownership ends (R150). -/
def State.store (s : State) (e b : Nat) : State :=
  (s.modSheet e (fun y => { y with state := .stored })).modReader (fun r => r.clearFifo.setBuffer b .full)

/-- The end of an unspoiled sheet whose end has been taken (R150). -/
def State.endUnspoiled (s : State) (e : Nat) (x : SheetRec) (rowCount : Nat) : State :=
  if s.boundFormat.any (fun f => rowCount == f.rows && x.rows == f.rows) then
    match x.buffer with
    | some b => if s.reader.fifo.isEmpty then s.store e b else s
    | none => s
  else ((s.spoil e .geometry).decideSheet e x.tag (.reject .geometry) none false).updateFeed

/-- SHEET_END (R150). -/
def State.sheetEnd (s : State) (tag rowCount : Nat) : State :=
  match s.sheetOf tag with
  | none => s
  | some (e, x) =>
    match x.state with
    | .decided | .diverted => s
    | .stored | .marking => s.readerError .order (some 3) tag
    | .receiving =>
      if x.endTaken.isSome then s.readerError .order (some 3) tag
      else
        let t := (s.modSheet e (fun y => { y with endTaken := some s.reader.endCounter })).modReader
          (fun r => { r with endCounter := (r.endCounter + 1) % 256 })
        match x.spoil with
        | some reason => (t.decideSheet e tag (.reject reason.reason) none false).updateFeed
        | none => t.endUnspoiled e x rowCount

/-- SHEET_STORED: the last sample of the ended owner has been moved into its buffer (R150). -/
def State.sheetStored (s : State) : State :=
  match s.reader.owner.bind s.sheetOf with
  | none => s
  | some (e, x) =>
    match x.buffer with
    | none => s
    | some b =>
      if x.state = .receiving ∧ x.endTaken.isSome ∧ x.spoil = none then
        (s.modReader (Reader.moveSamples b)).store e b
      else s

/-! ### The gate and the stackers (R153, R154) -/

/-- AT_GATE (R153). -/
def State.atGate (s : State) (tag : Nat) : State :=
  match s.sheetOf tag with
  | none => s
  | some (e, x) =>
    match x.state with
    | .decided | .diverted => s
    | .marking => (s.decideSheet e tag (.reject .noDecision) none true).updateFeed
    | .receiving | .stored =>
      let reason := x.spoil.elim Reason.noDecision Spoil.reason
      (((s.decideSheet e tag (.reject reason) none true).modSheet e (fun y => { y with buffer := none })).modReader
        (fun r => (r.disown tag).releaseOf x.buffer)).updateFeed

/-- Commit the staged result of a sheet stacked in ACCEPT (R177). -/
def State.commit (s : State) (g : Staged) : State :=
  match s.cand g.index with
  | none => s
  | some c =>
    if c.state ≠ .markPending then s
    else
      let t := { s.modCand g.index (fun x => { x with state := .marked, result := some g.result }) with
        responses := Table.insert s.responses g.index g.responses }
      (t.post g.index (.resultCommitted c.number c.paper g.result.tag g.result.final g.result.raw g.result.floored
        g.result.neg g.result.zero g.result.clamped g.result.generation)).traceOne g.index c .sheet

/-- A record closes at a matching STACKED (R154). Where the marker still reads it, decided at the gate, the record the marker
took is gone (R152, R158). -/
def State.closeSheet (s : State) (e : Nat) : State :=
  ({ s with marker := s.marker.lose e }.modReader (fun r => { r with records := Table.erase r.records e })).updateFeed

/-- The stacker a byte names (R138). -/
def stackerOf : Nat → Option Stacker
  | 0 => some .accept
  | 1 => some .reject
  | _ => none

/-- STACKED for an open record (R154). -/
def State.stackSheet (s : State) (e : Nat) (x : SheetRec) (k : Stacker) : State :=
  match x.state, x.decision with
  | .diverted, some d =>
    if d.stacker ≠ k then s.closeLost e .misrouted (some k)
    else
      match d, x.staged with
      | .accept, some g => (s.commit g).closeSheet e
      | _, _ => s.closeSheet e
  | _, _ => s.closeLost e .earlyStack (some k)

/-- STACKED; a stacker byte above 1 is a VALUE error (R139, R154). -/
def State.stacked (s : State) (tag stacker : Nat) : State :=
  match stackerOf stacker with
  | none => s.readerError .value (some 5) tag
  | some k =>
    match s.sheetOf tag with
    | none => s
    | some (e, x) => s.stackSheet e x k

/-! ### Jams, restarts and readiness (R141, R155, R156) -/

/-- Close the open record of a tag as lost, if there is one. -/
def State.loseTag (s : State) (tag : Nat) (cause : LostCause) : State :=
  match s.sheetOf tag with
  | some (e, _) => s.closeLost e cause none
  | none => s

/-- Clear reader ready; the feed follows (R142, R155, R156). -/
def State.clearReady (s : State) : State := (s.modReader (fun r => { r with ready := false })).updateFeed

/-- JAM with its tags, of a frame with the given tag byte; a count above 16 is a VALUE error (R139, R155). -/
def State.jam (s : State) (frameTag : Nat) (tags : List Nat) : State :=
  if 16 < tags.length then s.readerError .value (some 6) frameTag
  else
    let t := s.clearReady
    tags.foldl (fun u tag => u.loseTag tag .jam)
      (t.post 0 (.readerStop .jam (tags.filter (fun tag => (t.sheetOf tag).isSome))))

/-- The tags of the open records, ascending; READER_STOP lists them so (log 48). -/
def State.openTags (s : State) : List Nat := (s.reader.records.map (fun x => x.2.tag)).insertionSort (· ≤ ·)

/-- A GEOMETRY for the bound paper (R141, R156). -/
def State.sendGeometry (s : State) : State :=
  match s.boundFormat with
  | some f => s.modReader (Reader.makeGeometry f)
  | none => s

/-- READER_RESET (R156). -/
def State.readerReset (s : State) : State :=
  let t := s.clearReady
  let u := t.openTags.foldl (fun v tag => v.loseTag tag .reset) (t.post 0 (.readerStop .reset t.openTags))
  (u.modReader Reader.clearFifo).sendGeometry

/-- READER_READY: ignored while a GEOMETRY is queued or being sent (R141). -/
def State.readerReady (s : State) : State :=
  if s.reader.tx.any TxMsg.isGeometry then s else (s.modReader (fun r => { r with ready := true })).updateFeed

/-! ### Messages that have been sent (R140 to R142, R152) -/

/-- The message being sent has left the controller. -/
def Reader.popTx (m : TxMsg) (r : Reader) : Reader := { r with tx := r.tx.tail, sent := some m.frame }

/-- A DIVERT has been sent: its record becomes DIVERTED and SHEET_DIVERTED is posted, with the paper bound at the sending (R152,
log 55). -/
def State.divertSent (s : State) : State :=
  match s.reader.tx with
  | .divert d :: _ =>
    let t := s.modReader (Reader.popTx (.divert d))
    let u := match d.entry with
      | some e => t.modSheet e (fun x => if x.state = SheetState.decided then { x with state := SheetState.diverted } else x)
      | none => t
    u.post d.tag (.sheetDiverted d.tag d.decision s.reader.bound d.cand)
  | _ => s

/-- A GEOMETRY has been sent (R141). -/
def State.geometrySent (s : State) : State :=
  match s.reader.tx with
  | .geometry mask n rows :: _ => s.modReader (Reader.popTx (.geometry mask n rows))
  | _ => s

/-- A FEED has been sent: it is the feed last sent (R137, R142). -/
def State.feedSent (s : State) : State :=
  match s.reader.tx with
  | .feed go :: _ => s.modReader (fun r => { r.popTx (.feed go) with feedSent := go })
  | _ => s

/-! ### The marker and its sheets (R151, R167, R172) -/

/-- How far a record's end lies behind the end order counter, modulo 256 (R151). -/
def SheetRec.age (counter : Nat) (x : SheetRec) : Nat := (counter + 256 - x.endTaken.getD counter) % 256

/-- The older of two records (R151). -/
def older (counter : Nat) (a b : Nat × SheetRec) : Nat × SheetRec :=
  if a.2.age counter < b.2.age counter then b else a

/-- The STORED record whose end was taken earliest (R151). -/
def Reader.earliestStored (r : Reader) : Option (Nat × SheetRec) :=
  match r.records.filter (fun x => decide (x.2.state = .stored)) with
  | [] => none
  | x :: xs => some (xs.foldl (older r.endCounter) x)

/-- The block cursor after the last address of the last block read (R47, R167). -/
def Format.lastCursor (f : Format) (digits : List QClass) : Cursor :=
  let counts := if (numberRead digits).isNone then f.idCounts
    else (f.blocks.getLast?).elim f.idCounts (fun b => (f.subSamples, b.options, b.count))
  { h := counts.2.2 - 1, m := counts.2.1 - 1, l := counts.1 - 1, exhausted := true }

/-- The sheet in hand, with everything the marker reads from its buffer (R167, log 25). -/
def MarkJob.of (f : Format) (mem : List Host.Cell) (entry buffer tag generation : Nat) : MarkJob :=
  let bgs := Machine.backgrounds f mem
  let digits := readDigits f bgs mem
  { entry := entry
    same := true
    buffer := buffer
    tag := tag
    generation := generation
    backgrounds := bgs
    cursor := f.lastCursor digits
    digits := digits
    readings := readAnswers f bgs mem digits }

/-- MARKER_TAKE: the IDLE marker takes the STORED record whose end was taken earliest (R151, R167). -/
def State.markerTake (s : State) : State :=
  match s.marker, s.reader.earliestStored, s.boundFormat with
  | .idle, some (e, x), some f =>
    match x.buffer with
    | none => s
    | some b =>
      let generation := (s.reader.bound.map s.generationOf).getD 0
      { (s.modSheet e (fun y => { y with state := .marking })).modReader (Reader.setBuffer b .marking) with
        marker := .marking (MarkJob.of f (s.reader.buffer b).mem e b x.tag generation) }
  | _, _, _ => s

/-- The decision on a number read, with the candidate found (R172). -/
def State.judgeNumber (s : State) (number : Nat) : Decision × Option Nat :=
  match s.findNumber number with
  | none => (.reject .unknownCandidate, none)
  | some i =>
    match s.cand i with
    | none => (.reject .unknownCandidate, none)
    | some c =>
      if s.reader.bound ≠ some c.paper then (.reject .wrongPaper, some i)
      else
        match c.state with
        | .markPending | .marked => (.reject .duplicate, some i)
        | .collected => (.accept, some i)
        | .unseated | .seated | .reading | .writing | .resting | .finished | .absent | .missing =>
          (.reject .notCollected, some i)

/-- The staged result of an accepted sheet (R176). -/
def MarkJob.stage (j : MarkJob) (p : Paper) (f : Format) (i : Nat) : Staged where
  index := i
  responses := f.responses j.readings
  result := p.score f (f.responses j.readings) j.generation j.tag

/-- Decide the sheet in hand (R171, R172). A number that no candidate has goes into SHEET_DIVERTED without an index (log 47). -/
def State.decideMarked (s : State) (j : MarkJob) (p : Paper) (f : Format) : State :=
  match numberRead j.digits with
  | none => s.decideSheet j.entry j.tag (.reject .idUnreadable) none false
  | some number =>
    match s.judgeNumber number with
    | (.accept, some i) =>
      ((s.modSheet j.entry (fun y => { y with staged := some (j.stage p f i) })).changeCand i
        (fun c => { c with state := .markPending }) .sheet).decideSheet j.entry j.tag .accept
          (some { index := some i, number := number }) false
    | (d, i) => s.decideSheet j.entry j.tag d (some { index := i, number := number }) false

/-- The record the marker took is still MARKING (R172). -/
def State.stillMarking (s : State) (j : MarkJob) : Bool :=
  j.same && (s.sheet j.entry).any (fun x => decide (x.state = .marking))

/-- The marker returns to IDLE and its buffer becomes FREE (R152). -/
def State.endMarking (s : State) (j : MarkJob) : State :=
  let t := if j.same then s.modSheet j.entry (fun y => { y with buffer := none }) else s
  ({ t with marker := .idle }.modReader (Reader.release j.buffer)).updateFeed

/-- MARKING_END (R152, R172). -/
def State.markingEnd (s : State) : State :=
  match s.marker with
  | .marking j =>
    match s.reader.bound.bind s.paper with
    | none => s.endMarking j
    | some p =>
      match p.format with
      | none => s.endMarking j
      | some f => if s.stillMarking j then (s.decideMarked j p f).endMarking j else s.endMarking j
  | .idle | .rescoring _ _ _ => s

/-! ### MARK_BIND and MARK_UNBIND (R141, R179, R180) -/

/-- The reader is idle (R179 check 4). -/
def State.readerIdle (s : State) : Bool :=
  s.reader.records.isEmpty && decide (s.reader.buf0.state = .free) && decide (s.reader.buf1.state = .free) &&
  decide (s.marker = .idle)

/-- The marker is RESCORING. -/
def Marker.isRescoring : Marker → Bool
  | .rescoring _ _ _ => true
  | .idle | .marking _ => false

/-- The marker is MARKING. -/
def Marker.isMarking : Marker → Bool
  | .marking _ => true
  | .idle | .rescoring _ _ _ => false

/-- Bind a paper with its format (R141, R179). -/
def State.bind (s : State) (slot : Nat) (f : Format) : State :=
  ((s.setMarking slot .bound).modReader (fun r =>
    { r with bound := some slot, ready := false }.makeGeometry f)).updateFeed

/-- MARK_BIND (R179). -/
def decideMarkBind (slot : Nat) (s : State) : State × Answer :=
  if ¬ slot < Config.slotCount then refuse .range s
  else
    match s.paper slot with
    | none => refuse .notFound s
    | some p =>
      if s.reader.bound.isSome ∨ s.marker.isRescoring then refuse .busy s
      else if ¬ s.readerIdle then refuse .busy s
      else if p.marking ≠ .ready then refuse .state s
      else
        match p.format with
        | none => refuse .state s
        | some f =>
          (s.bind slot f, .ok (u8 slot ++ maskBytes f.mask ++ u8 f.subSamples ++ u8 f.rows ++ u16 p.generation))

/-- MARK_UNBIND (R180). -/
def decideMarkUnbind (s : State) : State × Answer :=
  match s.reader.bound with
  | none => refuse .state s
  | some slot =>
    if ¬ s.reader.records.isEmpty then refuse .state s
    else if s.marker.isMarking then refuse .busy s
    else (((s.setMarking slot .ready).modReader (fun r => { r with bound := none })).updateFeed, .ok (u8 slot))

/-! ### Frames on the reader link (R138, R139) -/

/-- The body length a kind from the transport needs is met; ROW is judged by R149, and JAM by its count (R138, R139). -/
def readerLengthOk (kind : Nat) (body : List Byte) : Bool :=
  match kind with
  | 1 | 4 | 7 | 8 => body.isEmpty
  | 2 => true
  | 3 | 5 => body.length == 1
  | 6 => !body.isEmpty && body.length == at8 body 0 + 1
  | _ => false

/-- Take a frame of a known kind and right length (R139). -/
def State.readerMessage (s : State) (kind tag : Nat) (body : List Byte) : State :=
  match kind with
  | 1 => s.sheetBegin tag
  | 2 => s.takeRow tag (at8 body 0) body.tail
  | 3 => s.sheetEnd tag (at8 body 0)
  | 4 => s.atGate tag
  | 5 => s.stacked tag (at8 body 0)
  | 6 => s.jam tag (body.tail.map BitVec.toNat)
  | 7 => s.readerReady
  | 8 => s.readerReset
  | _ => s

/-- Take a frame with a correct check (R139). The subject of a READER_ERROR is the tag byte received, whatever the kind
(log 54); the length is looked at before the count of a JAM or the stacker of a STACKED (log 58). -/
def State.readerFrame (s : State) (kind tag : Nat) (body : List Byte) : State :=
  if ¬ (1 ≤ kind ∧ kind ≤ 8) then s.readerError .kind (some kind) tag
  else if ¬ readerLengthOk kind body then s.readerError .length (some kind) tag
  else s.readerMessage kind tag body

/-- Set the receiver of the reader link. -/
def State.setReaderRx (s : State) (f : Option (List Byte)) : State := s.modReader (fun r => { r with frame := f })

/-- Discard the frame under receipt: READER_ERROR reason FRAME, with the kind and tag it has (R139). -/
def State.discardReaderFrame (s : State) (got : List Byte) : State :=
  (s.setReaderRx none).readerError .frame (got.head?.map BitVec.toNat) (at8 got 1)

/-- A frame whose last byte has come: its check decides (R139). -/
def State.completeReaderFrame (s : State) (got : List Byte) : State :=
  if got.sum = 0xFF#8 then (s.setReaderRx none).readerFrame (at8 got 0) (at8 got 1) ((got.drop 3).dropLast)
  else s.discardReaderFrame got

/-- One byte from the transport (R139). -/
def State.readerByte (s : State) (b : Byte) : State :=
  match s.reader.frame with
  | none => if b = 0xA5#8 then s.setReaderRx (some []) else s
  | some old =>
    let got := old ++ [b]
    if got.length = 3 ∧ 200 < b.toNat then s.discardReaderFrame got
    else if 3 ≤ got.length ∧ got.length = at8 got 2 + 4 then s.completeReaderFrame got
    else s.setReaderRx (some got)

/-- Bytes from the transport without a gap (R139). -/
def State.readerBytes (s : State) (bytes : List Byte) : State := bytes.foldl State.readerByte s

/-- A gap of more than 1 ms: a frame under receipt is discarded (R139). -/
def State.readerGap (s : State) : State :=
  match s.reader.frame with
  | none => s
  | some got => s.discardReaderFrame got

end Sys2Proof.Machine
end

