-- ==== Sys2Proof/Machine/HostLink.lean ====
section
/-! DEFINITION. The Link Controller (R185 to R196): the receiver, the taking and answering of requests, the transmitter,
IDENTIFY, STATUS and SESSION_CLEAR, and the RESET pin.
-/

namespace Sys2Proof.Machine

/-! ### IDENTIFY and STATUS (R193, R194) -/

/-- IDENTIFY (R194). R198 lists no type for a vendor code, a part code or a revision: their 2, 2 and 1 bytes are the model's
(DESIGN CHOICE, unsafe, log 62). -/
def decideIdentify (s : State) : State × Answer :=
  (s, .ok (u16 Config.vendorCode ++ u16 Config.partCode ++ u8 Config.revision ++ u8 s.link.rate))

/-- STATUS: one defined paper (R193), with the collection cursor after the collection state (R44, log 15). -/
def Paper.statusBytes (e : Nat × Paper) : List Byte :=
  let p := e.2
  u8 e.1 ++ p.defn.code ++ u8 p.state.code ++ u16 p.elapsed ++ u16 p.readingLeft ++ u16 p.coll.admitted ++
  u16 p.coll.collected ++ u16 p.coll.absent ++ u16 p.coll.missing ++ u8 p.coll.state.code ++ p.coll.cursor.bytes ++
  opt16 p.coll.target ++ u8 p.marking.code ++ flag p.keyComplete ++ u16 p.generation

/-- STATUS: what the job record holds while a job runs: paper, SPILL, walk, cursor, and the waiting list as its length (R48). -/
def Job.bytes (j : Job) : List Byte :=
  u8 j.paper ++ flag j.spill ++ j.walk.bytes ++ j.cursor.bytes ++ u16 j.waiting.length

/-- STATUS: the allocation group, with the job record's items in the order of R48's table (R48, R193, log 15). -/
def State.allocBytes (s : State) : List Byte :=
  u8 ((s.job.map (fun j => j.pass.code)).getD 0) ++ group Job.bytes s.job ++
  u16 ((s.job.map Job.generalCount).getD 0) ++ u16 ((s.job.map Job.placed).getD 0) ++
  u16 ((s.job.map Job.unplacedAccess).getD 0) ++ group LastOutcome.bytes s.lastOutcome

/-- The marker state code: IDLE 0, MARKING 1, RESCORING 2 (log 15). -/
def Marker.code : Marker → Nat
  | .idle => 0
  | .marking _ => 1
  | .rescoring _ _ _ => 2

/-- STATUS: the marker group (R193). -/
def Marker.bytes (m : Marker) : List Byte :=
  u8 m.code ++
  group (fun j => u8 j.tag) (match m with | .marking j => some j | .idle | .rescoring _ _ _ => none) ++
  group (fun x => u8 x.1 ++ u16 x.2)
    (match m with | .rescoring slot next _ => some (slot, next) | .idle | .marking _ => none)

/-- STATUS: an open Sheet Record (R157); the codes of its state and spoil reason are log 42's, 0xFF for no buffer is log 59's. -/
def SheetRec.bytes (x : SheetRec) : List Byte :=
  u8 x.tag ++ u8 x.state.code ++ opt8 x.buffer ++ u8 x.rows ++ opt8 (x.spoil.map Spoil.code) ++ decisionBytes x.decision

/-- STATUS: the reader group (R157). -/
def Reader.bytes (r : Reader) : List Byte :=
  opt8 r.bound ++ flag r.ready ++ flag r.feedSent ++ u16 r.fifo.length ++ group u8 r.owner ++
  u8 r.buf0.state.code ++ u8 r.buf1.state.code ++ listOf (fun x => SheetRec.bytes x.2) r.records

/-- The OK data of STATUS (R193, log 15). -/
def State.statusData (s : State) : List Byte :=
  u24 s.hallTime ++ u8 (holdCode s.hold) ++ u16 s.holdElapsed ++ flag s.holdLine ++
  listOf Paper.statusBytes s.papers ++ s.allocBytes ++ s.marker.bytes ++ s.reader.bytes ++ u8 s.link.notices.length

/-- STATUS (R193). -/
def decideStatus (s : State) : State × Answer := (s, .ok s.statusData)

/-! ### SESSION_CLEAR (R195) -/

/-- The detail code of the first condition that refuses a clear: PAPER_RUNNING 6, HELD 7, ALLOCATING 8, BOUND 9,
RESCORING 10 (R195, R197). -/
def State.clearRefusal (s : State) : Option Nat :=
  if s.papers.any (fun e => e.2.state.running) then some 6
  else if s.hold.isSome then some 7
  else if s.job.isSome then some 8
  else if s.reader.bound.isSome then some 9
  else if s.marker.isRescoring then some 10
  else none

/-- Everything that belongs to the sitting emptied, without the notice (R195). -/
def State.cleared (s : State) : State :=
  { s with
    cands := []
    papers := []
    seats := Table.mapAll s.seats (fun x => { x with occupant := none })
    loops := Table.mapAll s.loops (fun r => { r with call := none, answered := false })
    lastOutcome := none
    collection := []
    responses := []
    marker := .idle
    reader := { (s.reader.setBuffer 0 .free).setBuffer 1 .free with records := [] } }

/-- SESSION_CLEAR (R195); its notice is queued after the step (`State.afterStep`). -/
def decideSessionClear (s : State) : State × Answer :=
  match s.clearRefusal with
  | some detail => refuseWith .state detail 0 s
  | none => (s.cleared, .ok (u16 s.cands.length ++ u8 s.papers.length))

/-! ### Deciding a request (R189) -/

/-- The owner of a request decides it in one step (R189). -/
def decide : Request → State → State × Answer
  | .identify => decideIdentify
  | .status => decideStatus
  | .sessionClear => decideSessionClear
  | .timeSet time => decideTimeSet time
  | .hallConfig a => decideHallConfig a
  | .seatDefine seat action row col cls => decideSeatDefineAction seat action row col cls
  | .seatState seat action => decideSeatState seat action
  | .seatRead selector place mode => decideSeatRead selector place mode
  | .paperDefine slot a => decidePaperDefine slot a
  | .paperRead slot => decidePaperRead slot
  | .candAdd number slot allowance needs restBudget seat => decideCandAdd number slot allowance needs restBudget seat
  | .candRemove index => decideCandRemove index
  | .candRead selector value => decideCandRead selector value
  | .candWatch index watch => decideCandWatch index watch
  | .allocate slot walk spill => decideAllocate slot walk spill
  | .allocAbort => decideAllocAbort
  | .move index seat => decideMove index seat
  | .unseat index => decideUnseat index
  | .paperStart slot => decidePaperStart slot
  | .paperAbandon slot => decidePaperAbandon slot
  | .admitCand index => decideAdmit index
  | .finish index => decideFinish index
  | .hold => decideHold
  | .resume => decideResume
  | .collectMark index => decideCollectMark index
  | .collectClose slot => decideCollectClose slot
  | .collectionRead selector start => decideCollectionRead selector start
  | .formatLoad slot a => decideFormatLoad slot a
  | .formatRead slot => decideFormatRead slot
  | .keyLoad slot first entries => decideKeyLoad slot first entries
  | .keyRead slot first count => decideKeyRead slot first count
  | .markBind slot => decideMarkBind slot
  | .markUnbind => decideMarkUnbind
  | .rescore slot => decideRescore slot
  | .resultRead index => decideResultRead index
  | .responsesRead index => decideResponsesRead index

/-- What is queued after the step that took a request: SESSION_CLEARED, with the counts of the records as they were before
(R195). `before` is the state in which the request was decided. -/
def State.afterStep (s before : State) (r : Request) : State :=
  if r = .sessionClear ∧ before.clearRefusal = none then
    s.post 0 (.sessionCleared before.cands.length before.papers.length)
  else s

/-- Build the reply: the link flags enter its link-status byte as they stand, and are cleared (R189, R192). -/
def State.reply (s : State) (kind tag : Byte) (a : Answer) : State :=
  { s with link := { s.link.clearFlags with
    inHand := some { kind := kind + 0x80#8, tag := tag, status := BitVec.ofNat 8 s.link.statusCode, answer := a } } }

/-- Take a request: its owner decides it in one step, and its reply is built (R189); a notice that follows the step is queued
then, so that its loss shows in the next reply (R192, R195). -/
def State.takeRequest (s : State) (kind tag : Byte) (r : Request) : State :=
  ((decide r s).1.reply kind tag (decide r s).2).afterStep s r

/-- Take a frame: it becomes the request in hand (R188, R189); one that carries no request is refused (R199). -/
def State.takeFrame (s : State) (f : Frame) : State :=
  match readRequest f.kind.toNat f.body with
  | .unknownKind => s.reply f.kind f.tag (refuse .unknownKind s).2
  | .badLength => s.reply f.kind f.tag (refuse .length s).2
  | .request r => s.takeRequest f.kind f.tag r

/-- A complete frame (R188). -/
def State.receiveFrame (s : State) (f : Frame) : State :=
  if 0x40 ≤ f.kind.toNat then s.discardFrame
  else if s.link.inHand.isNone then s.takeFrame f
  else if s.link.waiting.isNone then { s with link := { s.link with waiting := some f } }
  else { s with link := { s.link with requestDropped := true } }

/-- A complete good frame that carries a request arrives (R188, R189, log 8). -/
def State.hostRequest (tag : Nat) (r : Request) (s : State) : State :=
  if s.link.inHand.isNone then s.takeRequest (requestFrame r tag).kind (requestFrame r tag).tag r
  else if s.link.waiting.isNone then { s with link := { s.link with waiting := some (requestFrame r tag) } }
  else { s with link := { s.link with requestDropped := true } }

/-! ### The receiver (R186, R187) -/

/-- Set the receiver. -/
def State.setRx (s : State) (rx : HostRx) : State := { s with link := { s.link with rx := rx } }

/-- Discard the frame under receipt: HUNT, and the frame-discarded flag (R186). -/
def State.discardRx (s : State) : State := (s.setRx HostRx.reset).discardFrame

/-- The frame whose bytes from the length on, without the check, are given (R197). -/
def frameOf (bytes : List Byte) (length : Nat) : Frame where
  kind := bytes.getD 2 0
  tag := bytes.getD 3 0
  body := (bytes.drop 4).take (length - 2)

/-- A byte in HEADER (R186). -/
def State.headerByte (s : State) (rx : HostRx) (b : Byte) : State :=
  let bytes := rx.bytes ++ [b]
  let crc := crcByte rx.crc b
  if bytes.length < 2 then s.setRx { rx with bytes := bytes, crc := crc }
  else if 2 ≤ at16 bytes 0 ∧ at16 bytes 0 ≤ 510 then
    s.setRx { state := .body, bytes := bytes, length := at16 bytes 0, crc := crc }
  else s.discardRx

/-- A byte in BODY: the check covers the bytes before the two check bytes (R186, R187). -/
def State.bodyByte (s : State) (rx : HostRx) (b : Byte) : State :=
  let bytes := rx.bytes ++ [b]
  if bytes.length ≤ rx.length + 2 then s.setRx { rx with bytes := bytes, crc := crcByte rx.crc b }
  else if bytes.length < rx.length + 4 then s.setRx { rx with bytes := bytes }
  else if at16 bytes (rx.length + 2) = rx.crc.toNat then
    (s.setRx HostRx.reset).receiveFrame (frameOf bytes rx.length)
  else s.discardRx

/-- One byte from the console (R186). -/
def State.hostByte (s : State) (b : Byte) : State :=
  match s.link.rx.state with
  | .hunt => if b = 0x7E#8 then s.setRx { HostRx.reset with state := .header } else s
  | .header => s.headerByte s.link.rx b
  | .body => s.bodyByte s.link.rx b

/-- Bytes from the console, without a gap (R186). -/
def State.hostBytes (s : State) (bytes : List Byte) : State := bytes.foldl State.hostByte s

/-- A gap of more than 20 ms, or a byte with a bad stop bit: a frame under receipt is discarded (R186). -/
def State.breakFrame (s : State) : State :=
  match s.link.rx.state with
  | .hunt => s
  | .header | .body => s.discardRx

/-! ### The transmitter (R191) -/

/-- The transmitter, if idle, chooses its next frame: the reply of the request in hand, which is ready from the step that
took the request (R189), else the oldest notice (R191). -/
def Link.pump (l : Link) : Link :=
  match l.tx with
  | .reply _ | .notice _ => l
  | .idle =>
    match l.inHand with
    | some r => { l with tx := .reply r.frame }
    | none =>
      match l.notices with
      | n :: rest => { l with tx := .notice n.frame, notices := rest }
      | [] => l

/-- The transmitter chooses its next frame (R191). -/
def State.pump (s : State) : State := { s with link := s.link.pump }

/-- The last byte of the reply has been sent: the waiting frame is taken (R188). -/
def State.replySent (s : State) : State :=
  match s.link.tx with
  | .reply _ =>
    let t := { s with link := { s.link with tx := .idle, inHand := none, waiting := none } }
    match s.link.waiting with
    | some f => t.takeFrame f
    | none => t
  | .idle | .notice _ => s

/-- A notice has been sent whole (R191). -/
def State.noticeSent (s : State) : State :=
  match s.link.tx with
  | .notice _ => { s with link := { s.link with tx := .idle } }
  | .idle | .reply _ => s

/-! ### The RESET pin (R185, R196) -/

/-- The link rate code of the strap levels (R196). -/
def rateOf (strap1 strap0 : Bool) : Nat := (if strap1 then 2 else 0) + (if strap0 then 1 else 0)

/-- RESET is released: every record takes its reset value, and the straps give the rate (R185, R196). The queue of commands
is not the part's and stays (log 2). -/
def State.release (s : State) (strap1 strap0 : Bool) : State :=
  { State.resetAt (rateOf strap1 strap0) with pending := s.pending }

/-- RESET is driven low: the host link and reader link outputs are idle and the seat loop driver is off (R196, log 7). -/
def State.assertReset (s : State) : State :=
  { s with
    resetLow := true
    window := none
    reader := { s.reader with tx := [] }
    link := { s.link with tx := .idle } }

/-- What a command other than RESET does: nothing while RESET is held low (log 7); else the transmitter, if idle, chooses its
next frame before the command (at reset a notice waits) and after it (R191). That all notices of a step are queued before the
choice, so that a 65th is lost even at an idle transmitter, is log 6's. -/
def running (f : State → State) (s : State) : Host.Outcome State Fault Refusal :=
  .next (if s.resetLow then s else (f s.pump).pump)

end Sys2Proof.Machine
end

