-- ==== Sys2Proof/Machine/Commands.lean ====
section
/-! DEFINITION. The meaning of every command: one definition for each constructor of `Instr`. A request row is the arrival of a
complete good frame that carries the request (log 8).
-/

namespace Sys2Proof.Machine

/-- RESET (R185, R196): the only command that ends a RESET held low. -/
def execReset (strap1 strap0 : Bool) (s : State) : Host.Outcome State Fault Refusal :=
  .next (s.release strap1 strap0)

/-- SECOND_EVENT (R67). -/
def execSecondEvent (s : State) : Host.Outcome State Fault Refusal :=
  running State.secondEvent s

/-- READING_END (R73): the second event that ends the slot's reading time (log 3). -/
def execReadingEnd (slot : Nat) (s : State) : Host.Outcome State Fault Refusal :=
  running (fun t => t.secondIf (t.readingEndDue slot)) s

/-- LATE_ENTRY_CLOSE (R74): the second event that closes the slot's late entry (log 3). -/
def execLateEntryClose (slot : Nat) (s : State) : Host.Outcome State Fault Refusal :=
  running (fun t => t.secondIf (t.lateCloseDue slot)) s

/-- BASE_END (R75): the second event that brings E_p to D (log 3). -/
def execBaseEnd (slot : Nat) (s : State) : Host.Outcome State Fault Refusal :=
  running (fun t => t.secondIf (t.baseEndDue slot)) s

/-- LIMIT_REACHED (R81): the second event that brings used to limit (log 3). -/
def execLimitReached (index : Nat) (s : State) : Host.Outcome State Fault Refusal :=
  running (fun t => t.secondIf (t.limitDue index)) s

/-- REST_BUDGET_EXHAUSTED (R89): the second event that exhausts the rest budget (log 3). -/
def execRestBudgetExhausted (index : Nat) (s : State) : Host.Outcome State Fault Refusal :=
  running (fun t => t.secondIf (t.restDue index)) s

/-- AWAY_LONG (R90): the second event that reports the absence (log 3). -/
def execAwayLong (index : Nat) (s : State) : Host.Outcome State Fault Refusal :=
  running (fun t => t.secondIf (t.awayDue index)) s

/-- HOLD_EXPIRED (R96): the second event that expires the hold (log 3). -/
def execHoldExpired (s : State) : Host.Outcome State Fault Refusal :=
  running (fun t => t.secondIf t.expiryDue) s

/-- COLLECT_TIMEOUT_EXPIRY (R124): the second event that expires the target timer (log 3). -/
def execCollectTimeoutExpiry (slot : Nat) (s : State) : Host.Outcome State Fault Refusal :=
  running (fun t => t.secondIf (t.targetDue slot)) s

/-- SCHEDULED_START (R72): the second event that takes the scheduled start (log 3). -/
def execScheduledStart (slot : Nat) (s : State) : Host.Outcome State Fault Refusal :=
  running (fun t => t.secondIf (t.scheduleDue slot)) s

/-- HOLD_LINE_ASSERTED (R93). -/
def execHoldLineAsserted (s : State) : Host.Outcome State Fault Refusal :=
  running State.holdAsserted s

/-- HOLD_LINE_RELEASED (R93). -/
def execHoldLineReleased (s : State) : Host.Outcome State Fault Refusal :=
  running State.holdReleased s

/-- HOST_FRAME_RECEIVED (R186 to R188). -/
def execHostFrameReceived (bytes : List Byte) (s : State) : Host.Outcome State Fault Refusal :=
  running (fun t => t.hostBytes bytes) s

/-- HOST_GAP_TIMEOUT (R186). -/
def execHostGapTimeout (bytes : List Byte) (s : State) : Host.Outcome State Fault Refusal :=
  running (fun t => (t.hostBytes bytes).breakFrame) s

/-- REPLY_SENT (R188). -/
def execReplySent (s : State) : Host.Outcome State Fault Refusal :=
  running State.replySent s

/-- NOTICE_SENT (R191). -/
def execNoticeSent (s : State) : Host.Outcome State Fault Refusal :=
  running State.noticeSent s

/-- IDENTIFY (R194). -/
def execIdentify (tag : Nat) (s : State) : Host.Outcome State Fault Refusal :=
  running (State.hostRequest tag .identify) s

/-- STATUS (R193). -/
def execStatus (tag : Nat) (s : State) : Host.Outcome State Fault Refusal :=
  running (State.hostRequest tag .status) s

/-- SESSION_CLEAR (R195). -/
def execSessionClear (tag : Nat) (s : State) : Host.Outcome State Fault Refusal :=
  running (State.hostRequest tag .sessionClear) s

/-- TIME_SET (R68). -/
def execTimeSet (tag time : Nat) (s : State) : Host.Outcome State Fault Refusal :=
  running (State.hostRequest tag (.timeSet time)) s

/-- HALL_CONFIG (R24, R25). -/
def execHallConfig (tag : Nat) (a : HallConfigArgs) (s : State) : Host.Outcome State Fault Refusal :=
  running (State.hostRequest tag (.hallConfig a)) s

/-- SEAT_DEFINE with action DEFINE (R31, R32). -/
def execSeatDefineDefine (tag seat row col cls : Nat) (s : State) : Host.Outcome State Fault Refusal :=
  running (State.hostRequest tag (.seatDefine seat 0 row col cls)) s

/-- SEAT_DEFINE with action REMOVE (R33); the last three bytes are not examined (R199). -/
def execSeatDefineRemove (tag seat : Nat) (s : State) : Host.Outcome State Fault Refusal :=
  running (State.hostRequest tag (.seatDefine seat 1 0 0 0)) s

/-- SEAT_STATE with action ENABLE (R34, R35). -/
def execSeatStateEnable (tag seat : Nat) (s : State) : Host.Outcome State Fault Refusal :=
  running (State.hostRequest tag (.seatState seat 0)) s

/-- SEAT_STATE with action DISABLE (R34). -/
def execSeatStateDisable (tag seat : Nat) (s : State) : Host.Outcome State Fault Refusal :=
  running (State.hostRequest tag (.seatState seat 1)) s

/-- SEAT_STATE with action CLEAR (R34, R35). -/
def execSeatStateClear (tag seat : Nat) (s : State) : Host.Outcome State Fault Refusal :=
  running (State.hostRequest tag (.seatState seat 2)) s

/-- SEAT_READ (R37, R38). -/
def execSeatRead (tag selector place mode : Nat) (s : State) : Host.Outcome State Fault Refusal :=
  running (State.hostRequest tag (.seatRead selector place mode)) s

/-- PAPER_DEFINE (R18 to R21). -/
def execPaperDefine (tag slot : Nat) (a : PaperArgs) (s : State) : Host.Outcome State Fault Refusal :=
  running (State.hostRequest tag (.paperDefine slot a)) s

/-- PAPER_READ (R22). -/
def execPaperRead (tag slot : Nat) (s : State) : Host.Outcome State Fault Refusal :=
  running (State.hostRequest tag (.paperRead slot)) s

/-- CAND_ADD (R8 to R10). -/
def execCandAdd (tag number slot allowance needs restBudget seat : Nat) (s : State) :
    Host.Outcome State Fault Refusal :=
  running (State.hostRequest tag (.candAdd number slot allowance needs restBudget seat)) s

/-- CAND_REMOVE (R11). -/
def execCandRemove (tag index : Nat) (s : State) : Host.Outcome State Fault Refusal :=
  running (State.hostRequest tag (.candRemove index)) s

/-- CAND_READ (R12). -/
def execCandRead (tag selector value : Nat) (s : State) : Host.Outcome State Fault Refusal :=
  running (State.hostRequest tag (.candRead selector value)) s

/-- CAND_WATCH (R13). -/
def execCandWatch (tag index watch : Nat) (s : State) : Host.Outcome State Fault Refusal :=
  running (State.hostRequest tag (.candWatch index watch)) s

/-- ALLOCATE (R49, R50). -/
def execAllocate (tag slot : Nat) (walk : SeatWalkArgs) (spill : Nat) (s : State) :
    Host.Outcome State Fault Refusal :=
  running (State.hostRequest tag (.allocate slot walk spill)) s

/-- ALLOC_ADVANCE (R51 to R56). -/
def execAllocAdvance (s : State) : Host.Outcome State Fault Refusal :=
  running State.allocAdvance s

/-- ALLOC_ABORT (R57). -/
def execAllocAbort (tag : Nat) (s : State) : Host.Outcome State Fault Refusal :=
  running (State.hostRequest tag .allocAbort) s

/-- MOVE (R61 to R64). -/
def execMove (tag index seat : Nat) (s : State) : Host.Outcome State Fault Refusal :=
  running (State.hostRequest tag (.move index seat)) s

/-- UNSEAT (R65). -/
def execUnseat (tag index : Nat) (s : State) : Host.Outcome State Fault Refusal :=
  running (State.hostRequest tag (.unseat index)) s

/-- PAPER_START (R70, R71). -/
def execPaperStart (tag slot : Nat) (s : State) : Host.Outcome State Fault Refusal :=
  running (State.hostRequest tag (.paperStart slot)) s

/-- PAPER_ABANDON (R86, R87). -/
def execPaperAbandon (tag slot : Nat) (s : State) : Host.Outcome State Fault Refusal :=
  running (State.hostRequest tag (.paperAbandon slot)) s

/-- ADMIT (R80). -/
def execAdmit (tag index : Nat) (s : State) : Host.Outcome State Fault Refusal :=
  running (State.hostRequest tag (.admitCand index)) s

/-- FINISH (R83). -/
def execFinish (tag index : Nat) (s : State) : Host.Outcome State Fault Refusal :=
  running (State.hostRequest tag (.finish index)) s

/-- HOLD (R92). -/
def execHold (tag : Nat) (s : State) : Host.Outcome State Fault Refusal :=
  running (State.hostRequest tag .hold) s

/-- RESUME (R95). -/
def execResume (tag : Nat) (s : State) : Host.Outcome State Fault Refusal :=
  running (State.hostRequest tag .resume) s

/-- COLLECT_MARK (R133). -/
def execCollectMark (tag index : Nat) (s : State) : Host.Outcome State Fault Refusal :=
  running (State.hostRequest tag (.collectMark index)) s

/-- COLLECT_CLOSE (R134). -/
def execCollectClose (tag slot : Nat) (s : State) : Host.Outcome State Fault Refusal :=
  running (State.hostRequest tag (.collectClose slot)) s

/-- COLLECTION_READ (R132). -/
def execCollectionRead (tag selector start : Nat) (s : State) : Host.Outcome State Fault Refusal :=
  running (State.hostRequest tag (.collectionRead selector start)) s

/-- FORMAT_LOAD (R160, R161). -/
def execFormatLoad (tag slot : Nat) (a : FormatArgs) (s : State) : Host.Outcome State Fault Refusal :=
  running (State.hostRequest tag (.formatLoad slot a)) s

/-- FORMAT_READ (R162). -/
def execFormatRead (tag slot : Nat) (s : State) : Host.Outcome State Fault Refusal :=
  running (State.hostRequest tag (.formatRead slot)) s

/-- KEY_LOAD (R164, R165). -/
def execKeyLoad (tag slot first : Nat) (entries : List KeyEntryArgs) (s : State) : Host.Outcome State Fault Refusal :=
  running (State.hostRequest tag (.keyLoad slot first entries)) s

/-- KEY_READ (R166). -/
def execKeyRead (tag slot first count : Nat) (s : State) : Host.Outcome State Fault Refusal :=
  running (State.hostRequest tag (.keyRead slot first count)) s

/-- MARK_BIND (R141, R179). -/
def execMarkBind (tag slot : Nat) (s : State) : Host.Outcome State Fault Refusal :=
  running (State.hostRequest tag (.markBind slot)) s

/-- MARK_UNBIND (R180). -/
def execMarkUnbind (tag : Nat) (s : State) : Host.Outcome State Fault Refusal :=
  running (State.hostRequest tag .markUnbind) s

/-- RESCORE (R181). -/
def execRescore (tag slot : Nat) (s : State) : Host.Outcome State Fault Refusal :=
  running (State.hostRequest tag (.rescore slot)) s

/-- RESCORE_STEP (R182). -/
def execRescoreStep (s : State) : Host.Outcome State Fault Refusal :=
  running State.rescoreStep s

/-- RESULT_READ (R183). -/
def execResultRead (tag index : Nat) (s : State) : Host.Outcome State Fault Refusal :=
  running (State.hostRequest tag (.resultRead index)) s

/-- RESPONSES_READ (R184). -/
def execResponsesRead (tag index : Nat) (s : State) : Host.Outcome State Fault Refusal :=
  running (State.hostRequest tag (.responsesRead index)) s

/-- SEAT_POLL (R99, R101). -/
def execSeatPoll (s : State) : Host.Outcome State Fault Refusal :=
  running State.seatPoll s

/-- CLOSING_POLL (R98). -/
def execClosingPoll (s : State) : Host.Outcome State Fault Refusal :=
  running State.closingPoll s

/-- GOOD_REPLY (R102 to R115). -/
def execGoodReply (b0 b1 b2 : Byte) (s : State) : Host.Outcome State Fault Refusal :=
  running (fun t => t.goodReply b0 b1 b2) s

/-- MISSED_REPLY (R103). -/
def execMissedReply (s : State) : Host.Outcome State Fault Refusal :=
  running State.missedReply s

/-- READER_FRAME_RECEIVED (R139). -/
def execReaderFrameReceived (bytes : List Byte) (s : State) : Host.Outcome State Fault Refusal :=
  running (fun t => t.readerBytes bytes) s

/-- READER_GAP_TIMEOUT (R139). -/
def execReaderGapTimeout (bytes : List Byte) (s : State) : Host.Outcome State Fault Refusal :=
  running (fun t => (t.readerBytes bytes).readerGap) s

/-- SHEET_BEGIN (R146). -/
def execSheetBegin (tag : Nat) (s : State) : Host.Outcome State Fault Refusal :=
  running (fun t => t.sheetBegin tag) s

/-- ROW (R147, R149). -/
def execRow (tag rowIndex : Nat) (samples : List Byte) (s : State) : Host.Outcome State Fault Refusal :=
  running (fun t => t.takeRow tag rowIndex samples) s

/-- SHEET_END (R150). -/
def execSheetEnd (tag rowCount : Nat) (s : State) : Host.Outcome State Fault Refusal :=
  running (fun t => t.sheetEnd tag rowCount) s

/-- SHEET_STORED (R150). -/
def execSheetStored (s : State) : Host.Outcome State Fault Refusal :=
  running State.sheetStored s

/-- AT_GATE (R153). -/
def execAtGate (tag : Nat) (s : State) : Host.Outcome State Fault Refusal :=
  running (fun t => t.atGate tag) s

/-- STACKED (R154, R177). -/
def execStacked (tag stacker : Nat) (s : State) : Host.Outcome State Fault Refusal :=
  running (fun t => t.stacked tag stacker) s

/-- JAM (R155); its frame's tag byte is sent as 0 (R138). -/
def execJam (tags : List Nat) (s : State) : Host.Outcome State Fault Refusal :=
  running (fun t => t.jam 0 tags) s

/-- READER_READY (R141). -/
def execReaderReady (s : State) : Host.Outcome State Fault Refusal :=
  running State.readerReady s

/-- READER_RESET (R156). -/
def execReaderReset (s : State) : Host.Outcome State Fault Refusal :=
  running State.readerReset s

/-- DIVERT_SENT (R152). -/
def execDivertSent (s : State) : Host.Outcome State Fault Refusal :=
  running State.divertSent s

/-- GEOMETRY_SENT (R141). -/
def execGeometrySent (s : State) : Host.Outcome State Fault Refusal :=
  running State.geometrySent s

/-- FEED_SENT (R142). -/
def execFeedSent (s : State) : Host.Outcome State Fault Refusal :=
  running State.feedSent s

/-- MARKER_TAKE (R151, R167). -/
def execMarkerTake (s : State) : Host.Outcome State Fault Refusal :=
  running State.markerTake s

/-- MARKING_END (R172). -/
def execMarkingEnd (s : State) : Host.Outcome State Fault Refusal :=
  running State.markingEnd s

/-- HOST_FRAME_DISCARDED (R186). -/
def execHostFrameDiscarded (bytes : List Byte) (badStop : Bool) (s : State) : Host.Outcome State Fault Refusal :=
  running (fun t => if badStop then (t.hostBytes bytes).breakFrame else t.hostBytes bytes) s

/-- READER_LENGTH_ABOVE_200 (R139). -/
def execReaderLengthAbove200 (kind tag length : Byte) (s : State) : Host.Outcome State Fault Refusal :=
  running (fun t => t.readerBytes [0xA5, kind, tag, length]) s

/-- RESET_ASSERTED (R196). -/
def execResetAsserted (s : State) : Host.Outcome State Fault Refusal :=
  .next s.assertReset

end Sys2Proof.Machine
end

