-- ==== Sys2Proof/Machine/Dispatch.lean ====
section
/-! DEFINITION. The dispatch: one arm for each row of spec/opcode_table.json, in the table's order. -/

namespace Sys2Proof.Machine

/-- The effect of a command on everything but the queue. -/
def exec (i : Instr) (s : State) : Host.Outcome State Fault Refusal :=
  match i with
  | .reset strap1 strap0 => Sys2Proof.Machine.execReset strap1 strap0 s
  | .secondEvent => Sys2Proof.Machine.execSecondEvent s
  | .readingEnd slot => Sys2Proof.Machine.execReadingEnd slot s
  | .lateEntryClose slot => Sys2Proof.Machine.execLateEntryClose slot s
  | .baseEnd slot => Sys2Proof.Machine.execBaseEnd slot s
  | .limitReached index => Sys2Proof.Machine.execLimitReached index s
  | .restBudgetExhausted index => Sys2Proof.Machine.execRestBudgetExhausted index s
  | .awayLong index => Sys2Proof.Machine.execAwayLong index s
  | .holdExpired => Sys2Proof.Machine.execHoldExpired s
  | .collectTimeoutExpiry slot => Sys2Proof.Machine.execCollectTimeoutExpiry slot s
  | .scheduledStart slot => Sys2Proof.Machine.execScheduledStart slot s
  | .holdLineAsserted => Sys2Proof.Machine.execHoldLineAsserted s
  | .holdLineReleased => Sys2Proof.Machine.execHoldLineReleased s
  | .hostFrameReceived bytes => Sys2Proof.Machine.execHostFrameReceived bytes s
  | .hostGapTimeout bytes => Sys2Proof.Machine.execHostGapTimeout bytes s
  | .replySent => Sys2Proof.Machine.execReplySent s
  | .noticeSent => Sys2Proof.Machine.execNoticeSent s
  | .identify tag => Sys2Proof.Machine.execIdentify tag s
  | .status tag => Sys2Proof.Machine.execStatus tag s
  | .sessionClear tag => Sys2Proof.Machine.execSessionClear tag s
  | .timeSet tag time => Sys2Proof.Machine.execTimeSet tag time s
  | .hallConfig tag a => Sys2Proof.Machine.execHallConfig tag a s
  | .seatDefineDefine tag seat row col cls => Sys2Proof.Machine.execSeatDefineDefine tag seat row col cls s
  | .seatDefineRemove tag seat => Sys2Proof.Machine.execSeatDefineRemove tag seat s
  | .seatStateEnable tag seat => Sys2Proof.Machine.execSeatStateEnable tag seat s
  | .seatStateDisable tag seat => Sys2Proof.Machine.execSeatStateDisable tag seat s
  | .seatStateClear tag seat => Sys2Proof.Machine.execSeatStateClear tag seat s
  | .seatRead tag selector place mode => Sys2Proof.Machine.execSeatRead tag selector place mode s
  | .paperDefine tag slot a => Sys2Proof.Machine.execPaperDefine tag slot a s
  | .paperRead tag slot => Sys2Proof.Machine.execPaperRead tag slot s
  | .candAdd tag number slot allowance needs restBudget seat => Sys2Proof.Machine.execCandAdd tag number slot allowance needs restBudget seat s
  | .candRemove tag index => Sys2Proof.Machine.execCandRemove tag index s
  | .candRead tag selector value => Sys2Proof.Machine.execCandRead tag selector value s
  | .candWatch tag index watch => Sys2Proof.Machine.execCandWatch tag index watch s
  | .allocate tag slot walk spill => Sys2Proof.Machine.execAllocate tag slot walk spill s
  | .allocAdvance => Sys2Proof.Machine.execAllocAdvance s
  | .allocAbort tag => Sys2Proof.Machine.execAllocAbort tag s
  | .move tag index seat => Sys2Proof.Machine.execMove tag index seat s
  | .unseat tag index => Sys2Proof.Machine.execUnseat tag index s
  | .paperStart tag slot => Sys2Proof.Machine.execPaperStart tag slot s
  | .paperAbandon tag slot => Sys2Proof.Machine.execPaperAbandon tag slot s
  | .admitCand tag index => Sys2Proof.Machine.execAdmit tag index s
  | .finish tag index => Sys2Proof.Machine.execFinish tag index s
  | .hold tag => Sys2Proof.Machine.execHold tag s
  | .resume tag => Sys2Proof.Machine.execResume tag s
  | .collectMark tag index => Sys2Proof.Machine.execCollectMark tag index s
  | .collectClose tag slot => Sys2Proof.Machine.execCollectClose tag slot s
  | .collectionRead tag selector start => Sys2Proof.Machine.execCollectionRead tag selector start s
  | .formatLoad tag slot a => Sys2Proof.Machine.execFormatLoad tag slot a s
  | .formatRead tag slot => Sys2Proof.Machine.execFormatRead tag slot s
  | .keyLoad tag slot first entries => Sys2Proof.Machine.execKeyLoad tag slot first entries s
  | .keyRead tag slot first count => Sys2Proof.Machine.execKeyRead tag slot first count s
  | .markBind tag slot => Sys2Proof.Machine.execMarkBind tag slot s
  | .markUnbind tag => Sys2Proof.Machine.execMarkUnbind tag s
  | .rescore tag slot => Sys2Proof.Machine.execRescore tag slot s
  | .rescoreStep => Sys2Proof.Machine.execRescoreStep s
  | .resultRead tag index => Sys2Proof.Machine.execResultRead tag index s
  | .responsesRead tag index => Sys2Proof.Machine.execResponsesRead tag index s
  | .seatPoll => Sys2Proof.Machine.execSeatPoll s
  | .closingPoll => Sys2Proof.Machine.execClosingPoll s
  | .goodReply b0 b1 b2 => Sys2Proof.Machine.execGoodReply b0 b1 b2 s
  | .missedReply => Sys2Proof.Machine.execMissedReply s
  | .readerFrameReceived bytes => Sys2Proof.Machine.execReaderFrameReceived bytes s
  | .readerGapTimeout bytes => Sys2Proof.Machine.execReaderGapTimeout bytes s
  | .sheetBegin tag => Sys2Proof.Machine.execSheetBegin tag s
  | .row tag rowIndex samples => Sys2Proof.Machine.execRow tag rowIndex samples s
  | .sheetEnd tag rowCount => Sys2Proof.Machine.execSheetEnd tag rowCount s
  | .sheetStored => Sys2Proof.Machine.execSheetStored s
  | .atGate tag => Sys2Proof.Machine.execAtGate tag s
  | .stacked tag stacker => Sys2Proof.Machine.execStacked tag stacker s
  | .jam tags => Sys2Proof.Machine.execJam tags s
  | .readerReady => Sys2Proof.Machine.execReaderReady s
  | .readerReset => Sys2Proof.Machine.execReaderReset s
  | .divertSent => Sys2Proof.Machine.execDivertSent s
  | .geometrySent => Sys2Proof.Machine.execGeometrySent s
  | .feedSent => Sys2Proof.Machine.execFeedSent s
  | .markerTake => Sys2Proof.Machine.execMarkerTake s
  | .markingEnd => Sys2Proof.Machine.execMarkingEnd s
  | .hostFrameDiscarded bytes badStop => Sys2Proof.Machine.execHostFrameDiscarded bytes badStop s
  | .readerLengthAbove200 kind tag length => Sys2Proof.Machine.execReaderLengthAbove200 kind tag length s
  | .resetAsserted => Sys2Proof.Machine.execResetAsserted s

end Sys2Proof.Machine
end

