-- ==== Sys2Proof/Safety.lean ====
section
/-! DEFINITION. What a safe state is, in the terms the statements use: the bounds every record keeps, the agreement of
seats and candidates, and the words for how a request is answered.
-/

namespace Sys2Proof.Machine

/-- Every table is in its canonical form with numbers in range, every buffer in its canonical form, and the FIFO, the Notice
Queue, hall time, hold elapsed, the away and miss counts, the target timers, the end order counter and the rate within their
sizes (R1, R15, R26, R67, R69, R97, R98, R120, R137, R143, R178, R191, R196). -/
structure State.Bounded (s : State) : Prop where
  cands : Table.wf Config.indexCount s.cands = true
  papers : Table.wf Config.slotCount s.papers = true
  seats : Table.wf Config.indexCount s.seats = true
  loops : Table.wf Config.indexCount s.loops = true
  sweep : ∀ n, s.sweep = some n → n ≤ Config.indexCount
  responses : Table.wf Config.indexCount s.responses = true
  records : Table.wf Config.sheetRecords s.reader.records = true
  buf0 : Mem.wf s.reader.buf0.mem = true
  buf1 : Mem.wf s.reader.buf1.mem = true
  fifo : s.reader.fifo.length ≤ Config.fifoCapacity
  endCounter : s.reader.endCounter < 256
  notices : s.link.notices.length ≤ Config.noticeCapacity
  hallTime : s.hallTime ≤ Config.maxTime
  holdElapsed : s.holdElapsed ≤ Config.maxHold
  rate : s.link.rate < 4
  away : ∀ e ∈ s.cands, e.2.awayCount ≤ Config.maxAway
  misses : ∀ e ∈ s.loops, e.2.misses ≤ Config.maxMisses
  timer : ∀ e ∈ s.papers, e.2.coll.timer ≤ Config.maxTimeout

/-- A seat names a candidate as occupant exactly when the candidate's seat is that seat; exactly the UNSEATED candidates
hold none; and no DISABLED seat holds one (R2, R28). -/
structure State.SeatsAgree (s : State) : Prop where
  occupied : ∀ n x i, s.seat n = some x → x.occupant = some i → ∃ c, s.cand i = some c ∧ c.seat = some n
  seated : ∀ i c n, s.cand i = some c → c.seat = some n → ∃ x, s.seat n = some x ∧ x.occupant = some i
  unseated : ∀ i c, s.cand i = some c → (c.state = .unseated ↔ c.seat = none)
  disabled : ∀ n x, s.seat n = some x → x.state = .disabled → x.occupant = none

/-- The entry whose DIVERT a message is; none for a FEED, a GEOMETRY and a DIVERT that belongs to no open record. -/
def TxMsg.entry? : TxMsg → Option Nat
  | .divert d => d.entry
  | .feed _ | .geometry _ _ _ => none

/-- A DIVERT that belongs to no open record (R146). -/
def TxMsg.isUnrecorded : TxMsg → Bool
  | .divert d => d.entry.isNone
  | .feed _ | .geometry _ _ _ => false

/-- What keeps the transmit queue within 16 messages and the Collection List within 512 entries (R131, R137, R140): behind the
message being sent at most one FEED, one GEOMETRY and nine DIVERTs without a record wait; each record has at most one DIVERT,
while it is DECIDED; a record is open only while a paper is bound; and a candidate is listed at most once, and is then COLLECTED,
MARK_PENDING or MARKED. -/
structure State.Filed (s : State) : Prop where
  feeds : s.reader.queued.countP TxMsg.isFeed ≤ 1
  geometries : s.reader.queued.countP TxMsg.isGeometry ≤ 1
  unrecorded : s.reader.queued.countP TxMsg.isUnrecorded ≤ 9
  diverts : (s.reader.tx.filterMap TxMsg.entry?).Nodup
  decided : ∀ m ∈ s.reader.tx, ∀ e, m.entry? = some e → ∃ x, s.sheet e = some x ∧ x.state = .decided
  bound : s.reader.bound = none → s.reader.records = []
  listed : (s.collection.map CollEntry.index).Nodup
  taken : ∀ e ∈ s.collection, ∃ c, s.cand e.index = some c ∧
    (c.state = .collected ∨ c.state = .markPending ∨ c.state = .marked)

/-- A request that arrives is taken at once: RESET is high and no request is in hand (R188). -/
abbrev State.LinkFree (s : State) : Prop := s.resetLow = false ∧ s.link.inHand = none

/-- A second event counts the clocks: RESET is high and the hall is not held. -/
abbrev State.Running (s : State) : Prop := s.resetLow = false ∧ s.hold = none

/-- The candidates of the slot whom a second event of a hall that is not held finds READING, RESTING, or WRITING with more than
one second left: of a WRITING or EXTENDED paper, those whom it leaves READING, WRITING or RESTING (R75, R76, R81). -/
def State.goingOn (s : State) (slot : Nat) : Nat :=
  s.countCands slot (fun c =>
    c.state == .reading || c.state == .resting || c.state == .writing && Decidable.decide (c.used + 1 < c.limit))

/-- The state `u` after the reply OK with `data` to the request of this kind and tag is built, and the transmitter, if
idle, has begun to send (R189, R191). -/
def State.replied (u : State) (kind tag : Nat) (data : List Byte) : State :=
  (u.reply (BitVec.ofNat 8 kind) (BitVec.ofNat 8 tag) (.ok data)).pump

/-- The state after a refusal of the request of this kind and tag: nothing but the link has changed (R190). -/
def State.turnedDown (s : State) (kind tag : Nat) (code : ResultCode) (detail value : Nat) : State :=
  (s.pump.reply (BitVec.ofNat 8 kind) (BitVec.ofNat 8 tag) (.refused code { code := detail, value := value })).pump

/-- A notice that was posted: it waits in the Notice Queue, is being sent, or was lost at a full queue (R191). -/
def State.Told (t : State) (n : Notice) : Prop :=
  n ∈ t.link.notices ∨ t.link.tx = .notice n.frame ∨ t.link.lostNotice = true

end Sys2Proof.Machine
end

