-- ==== Sys2Proof/Certificates/Slice0/Obligations.lean ====
section
/-! DEFINITION. The statements about the controller, each a formal reading of rules of spec/ or of the assumption log. A command
that is taken answers `.next` of a state written out whole: what the expression does not name is unchanged. The reply is
`State.replied`, a refusal `State.turnedDown` (Sys2Proof/Safety.lean).
-/

section

open Sys2Proof Sys2Proof.Machine

/-! ### The whole machine -/

/-- One step takes the command at the front of the queue and runs it with the queue's rest; with no command waiting the block
idles. The queue is the model's own (log 2). -/
def Obligations.StepTakesFrontCommand : Prop :=
  ∀ (c : Instr) (rest : List Instr) (s : State),
    step { s with pending := c :: rest } = exec c { s with pending := rest } ∧
    step { s with pending := [] } = .next { s with pending := [] }

/-- Every command answers a next state: one whose event cannot come about, and one that comes while RESET is held low, changes
nothing (the model's choices, logs 5 and 7). No command touches the queue of waiting commands (the model's own, log 2). -/
def Obligations.EveryCommandCompletes : Prop :=
  ∀ (c : Instr) (s : State), ∃ t, exec c s = .next t ∧ t.pending = s.pending

/-- RESET leaves every record at its reset value (R1, R15, R25, R26, R48, R69, R98, R120, R137, R158, R178, R185), with the
link rate of the straps (R196). That the buffers then read 0 is the model's choice (log 19); the queue stays (log 2). -/
def Obligations.ResetLeavesResetValues : Prop :=
  ∀ (strap1 strap0 : Bool) (s : State), exec (.reset strap1 strap0) s = .next
    { cands := [], papers := []
      hall :=
        { rows := 0, cols := 0, presentConf := ⟨.activeHigh, 2⟩, doneConf := ⟨.activeHigh, 2⟩,
          callConf := ⟨.activeHigh, 2⟩, keyConf := ⟨.activeHigh, 2⟩, callSense := .latch, awayLimit := 0,
          holdLimit := 0 }
      seats := [], loops := [], sweep := some 0, closing := [], passList := [], window := none, pollFrame := none
      job := none, lastOutcome := none, hallTime := 0, hold := none, holdElapsed := 0, holdLine := false
      collection := []
      reader :=
        { bound := none, ready := false, frame := none, tx := [.feed false], sent := none, feedSent := true, fifo := []
          owner := none, moved := 0, buf0 := ⟨.free, []⟩, buf1 := ⟨.free, []⟩, records := [], endCounter := 0 }
      marker := .idle, responses := []
      link :=
        { rx := { state := .hunt, bytes := [], length := 0, crc := 0xFFFF }
          inHand := none, waiting := none
          notices :=
            [{ time := 0, subject := 0,
               body := .controllerStart 3 ((if strap1 then 2 else 0) + (if strap0 then 1 else 0)) }]
          lostNotice := false, frameDiscarded := false, requestDropped := false, tx := .idle
          rate := (if strap1 then 2 else 0) + (if strap0 then 1 else 0) }
      resetLow := false, pending := s.pending }

/-- RESET driven low idles the outputs of the host link and of the reader link and turns the seat loop driver off (R196), and
while it is low every command but RESET changes nothing (the model's choice, log 7). -/
def Obligations.ResetHeldLowStopsCommands : Prop :=
  (∀ s : State, exec .resetAsserted s =
    .next { s with
      resetLow := true, window := none, reader := { s.reader with tx := [] }, link := { s.link with tx := .idle } }) ∧
  (∀ (c : Instr) (s : State), s.resetLow = true → c ≠ .resetAsserted → (∀ a b, c ≠ .reset a b) → exec c s = .next s)

/-! ### The host link -/

/-- Every request that its body can carry is read back from its kind and body as it was written, and its kind and the items of
its body are those of R199, each item written by its type, most significant byte first, a set bit k mod 8 of byte k div 8 of a
channel mask for channel k (R138, R198, R199, R201; u8 to s16 are written out in NoticesAndTraces). -/
def Obligations.RequestBodyRoundTrip : Prop :=
  (∀ r : Request, r.wellFormed = true → readRequest (requestKind r) (requestBody r) = .request r) ∧
  (∀ seatWalk : SeatWalkArgs → List Byte, seatWalk = (fun w => u8 w.startRow ++ u8 w.startCol ++ s8 w.eRow ++ s8 w.eCol ++
      s8 w.o1Row ++ s8 w.o1Col ++ s8 w.o2Row ++ s8 w.o2Col ++ u8 w.countL ++ u8 w.countM ++ u8 w.countH ++ u8 w.alternate) →
    ∀ blockWalk : BlockWalkArgs → List Byte, blockWalk = (fun w => u16 w.start ++ s16 w.o1 ++ s16 w.o2) →
    ∀ r : Request, (requestKind r, requestBody r) =
      match r with
      | .identify => (0x01, [])
      | .status => (0x02, [])
      | .sessionClear => (0x03, [])
      | .timeSet time => (0x04, u24 time)
      | .hallConfig a => (0x05, u8 a.rows ++ u8 a.cols ++ u8 a.presentPolarity ++ u8 a.presentDebounce ++
          u8 a.donePolarity ++ u8 a.doneDebounce ++ u8 a.callPolarity ++ u8 a.callDebounce ++ u8 a.keyPolarity ++
          u8 a.keyDebounce ++ u8 a.callSense ++ u16 a.awayLimit ++ u16 a.holdLimit)
      | .seatDefine seat action row col cls => (0x06, u16 seat ++ u8 action ++ u8 row ++ u8 col ++ u8 cls)
      | .seatState seat action => (0x07, u16 seat ++ u8 action)
      | .seatRead selector place mode => (0x08, u8 selector ++ u16 place ++ u8 mode)
      | .paperDefine slot a => (0x10, u8 slot ++ a.code ++ u16 a.reading ++ u16 a.writing ++ u16 a.lateCutoff ++
          u16 a.noLeaveFirst ++ u16 a.noLeaveLast ++ u16 a.warnA ++ u16 a.warnB ++ u8 a.separation ++
          u16 a.collectTimeout ++ u8 a.startPresent ++ u24 a.start ++ u8 a.walkPresent ++ seatWalk a.walk)
      | .paperRead slot => (0x11, u8 slot)
      | .candAdd number slot allowance needs restBudget seat =>
          (0x12, u24 number ++ u8 slot ++ u8 allowance ++ u8 needs ++ u16 restBudget ++ u16 seat)
      | .candRemove index => (0x13, u16 index)
      | .candRead selector value => (0x14, u8 selector ++ u24 value)
      | .candWatch index watch => (0x15, u16 index ++ u8 watch)
      | .allocate slot walk spill => (0x18, u8 slot ++ seatWalk walk ++ u8 spill)
      | .allocAbort => (0x19, [])
      | .move index seat => (0x1A, u16 index ++ u16 seat)
      | .unseat index => (0x1B, u16 index)
      | .paperStart slot => (0x20, u8 slot)
      | .paperAbandon slot => (0x21, u8 slot)
      | .admitCand index => (0x22, u16 index)
      | .finish index => (0x23, u16 index)
      | .hold => (0x24, [])
      | .resume => (0x25, [])
      | .collectMark index => (0x28, u16 index)
      | .collectClose slot => (0x29, u8 slot)
      | .collectionRead selector start => (0x2A, u8 selector ++ u16 start)
      | .formatLoad slot a => (0x30, u8 slot ++ [a.mask.extractLsb' 0 8, a.mask.extractLsb' 8 8, a.mask.extractLsb' 16 8,
            a.mask.extractLsb' 24 8, a.mask.extractLsb' 32 8, a.mask.extractLsb' 40 8] ++ u8 a.subSamples ++ u8 a.rows ++
          u8 a.refRow ++ u8 a.tBlank ++ u8 a.tMark ++ u8 a.margin ++ u8 a.faintPolicy ++ u8 a.multiPolicy ++
          u8 a.sectionFloor ++ s16 a.paperFloor ++ blockWalk a.idBlock ++ u8 a.blocks.length ++
          a.blocks.flatMap (fun b => u8 b.first ++ u8 b.count ++ u8 b.options ++ blockWalk b.walk))
      | .formatRead slot => (0x31, u8 slot)
      | .keyLoad slot first entries => (0x32, u8 slot ++ u8 first ++ u8 entries.length ++
          entries.flatMap (fun e => [e.keySet] ++ u8 e.weight ++ u8 e.penalty ++ u8 e.sect))
      | .keyRead slot first count => (0x33, u8 slot ++ u8 first ++ u8 count)
      | .markBind slot => (0x34, u8 slot)
      | .markUnbind => (0x35, [])
      | .rescore slot => (0x36, u8 slot)
      | .resultRead index => (0x37, u16 index)
      | .responsesRead index => (0x38, u16 index))

/-- A request row is the arrival of its frame: the frame's bytes, taken by a hunting receiver, do what the row does, with a
check the receiver accepts (R186, R187, R188, R197; log 8). -/
def Obligations.RequestFrameReceived : Prop :=
  ∀ (c : Instr) (tag : Nat) (r : Request) (s : State),
    c.request? = some (tag, r) → tag < 256 → r.wellFormed = true → s.link.rx = HostRx.reset →
    ∃ t, exec c s = .next t ∧
      exec (.hostFrameReceived
        (hostFrame (BitVec.ofNat 8 (requestKind r)) (BitVec.ofNat 8 tag) (requestBody r))) s = .next t

/-- A complete frame that carries no request: from kind 0x40 on it is discarded and sets the frame-discarded flag (R188); a
lower kind that names no request is answered UNKNOWN_KIND, and a body of the wrong length LENGTH. The kinds and lengths are
R199's, those of FORMAT_LOAD and KEY_LOAD worked out from the count as it stands in the body, 0 where the body does not reach
it: such a body is shorter than the fixed part and has the wrong length (R189, R199). -/
def Obligations.FrameWithoutRequest : Prop :=
  (∀ table : List (Nat × Nat), table = [(0x01, 0), (0x02, 0), (0x03, 0), (0x04, 3), (0x05, 15), (0x06, 6), (0x07, 3),
      (0x08, 4), (0x10, 43), (0x11, 1), (0x12, 10), (0x13, 2), (0x14, 4), (0x15, 3), (0x18, 14), (0x19, 0), (0x1A, 4),
      (0x1B, 2), (0x20, 1), (0x21, 1), (0x22, 2), (0x23, 2), (0x24, 0), (0x25, 0), (0x28, 2), (0x29, 1), (0x2A, 3),
      (0x31, 1), (0x33, 3), (0x34, 1), (0x35, 0), (0x36, 1), (0x37, 2), (0x38, 2)] →
    ∀ (kind : Nat) (body : List Byte),
      (∀ n, (kind, n) ∈ table → bodyLength kind body = some n) ∧
      (kind = 0x30 → bodyLength kind body = some (25 + 9 * (body.getD 24 0).toNat)) ∧
      (kind = 0x32 → bodyLength kind body = some (3 + 4 * (body.getD 2 0).toNat)) ∧
      (kind ≠ 0x30 → kind ≠ 0x32 → (∀ n, (kind, n) ∉ table) → bodyLength kind body = none)) ∧
  ∀ (k tag : Byte) (body : List Byte) (s : State),
    s.LinkFree → s.link.rx = HostRx.reset → body.length ≤ 508 →
    (0x40 ≤ k.toNat → exec (.hostFrameReceived (hostFrame k tag body)) s =
      .next ({ s.pump with link := { s.pump.link with frameDiscarded := true } }.pump)) ∧
    (k.toNat < 0x40 → bodyLength k.toNat body = none → exec (.hostFrameReceived (hostFrame k tag body)) s =
      .next (s.turnedDown k.toNat tag.toNat .unknownKind 0 0)) ∧
    (∀ n, k.toNat < 0x40 → bodyLength k.toNat body = some n → body.length ≠ n →
      exec (.hostFrameReceived (hostFrame k tag body)) s = .next (s.turnedDown k.toNat tag.toNat .length 0 0))

/-- A frame broken off by a gap or a bad stop bit, one whose length lies outside 2..510, and one whose check is wrong are
discarded: the receiver hunts again, the frame-discarded flag is set, and nothing else changes (R186, R187). A gap while the
receiver hunts has no effect. -/
def Obligations.BrokenFrameDiscarded : Prop :=
  ∀ (k tag : Byte) (body : List Byte) (s : State),
    s.resetLow = false → s.link.rx = HostRx.reset → body.length ≤ 508 →
    (∀ bytes, bytes <+: hostFrame k tag body → bytes ≠ [] → bytes ≠ hostFrame k tag body →
      exec (.hostGapTimeout bytes) s =
        .next ({ s.pump with link := { s.pump.link with frameDiscarded := true } }.pump) ∧
      exec (.hostFrameDiscarded bytes true) s =
        .next ({ s.pump with link := { s.pump.link with frameDiscarded := true } }.pump)) ∧
    (∀ n, n < 65536 → n < 2 ∨ 510 < n → exec (.hostFrameDiscarded ([0x7E] ++ u16 n) false) s =
      .next ({ s.pump with link := { s.pump.link with frameDiscarded := true } }.pump)) ∧
    (∀ x, x < 65536 → x ≠ (crc16 (u16 (body.length + 2) ++ [k, tag] ++ body)).toNat →
      exec (.hostFrameDiscarded ([0x7E] ++ u16 (body.length + 2) ++ [k, tag] ++ body ++ u16 x) false) s =
        .next ({ s.pump with link := { s.pump.link with frameDiscarded := true } }.pump)) ∧
    exec (.hostGapTimeout []) s = .next s.pump

/-- While a request is in hand, the next request waits and changes nothing else, and with one waiting already it is discarded
and sets the request-dropped flag. When the last byte of the reply has been sent, the request in hand is done with and the
waiting frame is taken, if there is one; when a notice has been sent, the reply of a request in hand goes next, else the
oldest notice, else nothing (R188, R191). The transmitter makes the same choice whenever it is idle, and none while it sends;
that it is made once before and once after a command is log 6's. A frame is the start byte 0x7E, the length of kind, tag and
body, the kind, the tag, the body, and the CRC-16 of R187 over all but the start byte. A reply's body is the link-status byte,
the result code, and the owner's data with OK, nothing with UNKNOWN_KIND and LENGTH, and a detail of three bytes with any
other code; a notice has tag 0, and its body is hall time, subject and items (R187, R197, R202). The kinds and items of the
notices are the statement NoticesAndTraces's. -/
def Obligations.OneRequestAtATime : Prop :=
  (∀ (s : State) (bytes : List Byte), s.resetLow = false →
      (s.link.tx = .reply bytes → exec .replySent s = .next
        (match s.link.waiting with
         | some f => ({ s with link := { s.link with tx := .idle, inHand := none, waiting := none } }.takeFrame f).pump
         | none => { s with link := { s.link with tx := .idle, inHand := none, waiting := none } }.pump)) ∧
      (s.link.tx = .notice bytes → exec .noticeSent s = .next
        (match s.link.inHand, s.link.notices with
         | some r, _ => { s with link := { s.link with tx := .reply r.frame } }
         | none, n :: rest => { s with link := { s.link with tx := .notice n.frame, notices := rest } }
         | none, [] => { s with link := { s.link with tx := .idle } }))) ∧
  (∀ (c : Instr) (tag : Nat) (r : Request) (h : InHand) (s : State),
      c.request? = some (tag, r) → s.resetLow = false → s.link.inHand = some h →
      exec c s = .next
        (match s.link.waiting with
         | none => { s.pump with link := { s.pump.link with waiting := some (requestFrame r tag) } }.pump
         | some _ => { s.pump with link := { s.pump.link with requestDropped := true } }.pump)) ∧
  (∀ s : State, s.pump =
    match s.link.tx, s.link.inHand, s.link.notices with
    | .idle, some r, _ => { s with link := { s.link with tx := .reply r.frame } }
    | .idle, none, n :: rest => { s with link := { s.link with tx := .notice n.frame, notices := rest } }
    | .idle, none, [] => s
    | .reply _, _, _ => s
    | .notice _, _, _ => s) ∧
  (∀ (crc : List Byte → BitVec 16) (frame : Byte → Byte → List Byte → List Byte),
    crc = (fun bytes => bytes.foldl (fun (x : BitVec 16) (b : Byte) => (List.range 8).foldl
      (fun (y : BitVec 16) _ => if y.msb then (y <<< (1 : Nat)) ^^^ 0x1021#16 else y <<< (1 : Nat))
      (x ^^^ (b.setWidth 16 <<< (8 : Nat)))) 0xFFFF#16) →
    frame = (fun kind tag body =>
      let checked := [BitVec.ofNat 8 ((body.length + 2) / 256), BitVec.ofNat 8 (body.length + 2), kind, tag] ++ body
      [0x7E] ++ checked ++ [BitVec.ofNat 8 ((crc checked).toNat / 256), BitVec.ofNat 8 (crc checked).toNat]) →
    crc [0x31, 0x32, 0x33, 0x34, 0x35, 0x36, 0x37, 0x38, 0x39] = 0x29B1 ∧
    (∀ kind tag body, hostFrame kind tag body = frame kind tag body) ∧
    (∀ (r : InHand) (data : List Byte), r.answer = .ok data →
      r.frame = frame r.kind r.tag ([r.status, 0] ++ data)) ∧
    (∀ (r : InHand) (code : ResultCode) (d : Detail) (n : Byte), r.answer = .refused code d →
      n = (match code with
        | .ok => 0 | .busy => 1 | .state => 2 | .range => 3 | .unknownKind => 4 | .notFound => 5 | .full => 6
        | .conflict => 7 | .format => 8 | .length => 9) →
      (code = .unknownKind ∨ code = .length → r.frame = frame r.kind r.tag [r.status, n]) ∧
      (code ≠ .unknownKind → code ≠ .length → r.frame = frame r.kind r.tag
        [r.status, n, BitVec.ofNat 8 d.code, BitVec.ofNat 8 (d.value / 256), BitVec.ofNat 8 d.value])) ∧
    (∀ n : Notice, n.frame = frame (BitVec.ofNat 8 n.body.kind) 0
      ([BitVec.ofNat 8 (n.time / 65536), BitVec.ofNat 8 (n.time / 256), BitVec.ofNat 8 n.time,
        BitVec.ofNat 8 (n.subject / 256), BitVec.ofNat 8 n.subject] ++ n.body.items)))

/-- A notice joins the back of the queue while that holds fewer than 64, and at a full queue is lost and sets the lost-notice
flag (R191). A reply that is built reports the three link flags and clears them (R192). A change of a watched candidate's
state, seat or a flag other than WATCH posts one WATCH_TRACE with the values after the change, and any other change none; the
notices of one event that changes several records stand in the order of the table, which is that of ascending index (R14).
PAPER_STATE carries the paper's new state, clock and counts and the number of its active candidates (R77). Each notice has
R202's kind, and its items in the order its rule lists them, each written by its type; the reasons, causes and states are
numbered as R198 and R202 list them (R198, R202). Of these bytes the following are the model's: the two bytes of a decision
log 15's, no second hall time log 16's, CALL_ENDED without a seat log 17's, the counts of SESSION_CLEARED log 32's, the place
of the returned item log 46's, a number without an index in SHEET_DIVERTED log 47's, 0xFF for no kind in READER_ERROR log
59's, an item that is also the subject and is written again (the slot of ALLOC_END and COLLECT_SKIPPED, the tag of
SHEET_SPOILED, SHEET_DIVERTED and SHEET_LOST) log 61's, the one byte of CONTROLLER_START's revision log 62's, the codes of an
allocation outcome and a sheet state log 42's. The reason codes are written out in ReaderMessagesAndTheFeed. -/
def Obligations.NoticesAndTraces : Prop :=
  (∀ (s : State) (n : Nat) (b : NoticeBody), s.post n b = { s with link :=
    if s.link.notices.length < 64 then
      { s.link with notices := s.link.notices ++ [{ time := s.hallTime, subject := n, body := b }] }
    else { s.link with lostNotice := true } }) ∧
  (∀ (s : State) (k g : Byte) (a : Answer), s.reply k g a = { s with link := { s.link with
    lostNotice := false, frameDiscarded := false, requestDropped := false
    inHand := some
      { kind := k + 0x80, tag := g, answer := a
        status := BitVec.ofNat 8 ((if s.link.lostNotice then 1 else 0) + (if s.link.frameDiscarded then 2 else 0) +
          (if s.link.requestDropped then 4 else 0)) } } }) ∧
  (∀ (s : State) (i : Nat) (f : Cand → Cand) (c : Cand) (cause : Cause), s.cand i = some c →
    s.changeCand i f cause =
      if (f c).flags.watch = true ∧ ((f c).state ≠ c.state ∨ (f c).seat ≠ c.seat ∨
          { (f c).flags with watch := false } ≠ { c.flags with watch := false }) then
        (s.modCand i f).post i (.watchTrace (f c).number (f c).paper c.state (f c).state (f c).seat (f c).used
          (f c).limit (f c).flags cause)
      else s.modCand i f) ∧
  (∀ (s : State) (before : Table Cand) (cause : Cause), s.traceAll before cause = s.cands.foldl (fun u e =>
    match Table.get before e.1 with
    | none => u
    | some c =>
      if e.2.flags.watch = true ∧ (e.2.state ≠ c.state ∨ e.2.seat ≠ c.seat ∨
          { e.2.flags with watch := false } ≠ { c.flags with watch := false }) then
        u.post e.1 (.watchTrace e.2.number e.2.paper c.state e.2.state e.2.seat e.2.used e.2.limit e.2.flags cause)
      else u) s) ∧
  (∀ (s : State) (i : Nat) (old new : Cand) (cause : Cause), s.cand i = some new →
    s.traceOne i old cause =
      if new.flags.watch = true ∧ (new.state ≠ old.state ∨ new.seat ≠ old.seat ∨
          { new.flags with watch := false } ≠ { old.flags with watch := false }) then
        s.post i (.watchTrace new.number new.paper old.state new.state new.seat new.used new.limit new.flags cause)
      else s) ∧
  (∀ (s : State) (slot : Nat) (p : Paper) (previous : PaperState) (cause : PaperCause), s.paper slot = some p →
    s.postPaperState slot previous cause = s.post slot (.paperState previous p.state cause p.elapsed p.readingLeft
      p.coll.admitted p.coll.absent (s.cands.countP (fun e : Nat × Cand => e.2.paper = slot ∧
        (e.2.state = CandState.reading ∨ e.2.state = CandState.writing ∨ e.2.state = CandState.resting))))) ∧
  (∀ (n : Nat) (z : Int) (b : Bool) (xs : List Nat),
    u8 n = [BitVec.ofNat 8 n] ∧ u16 n = [BitVec.ofNat 8 (n / 256), BitVec.ofNat 8 n] ∧
    u24 n = [BitVec.ofNat 8 (n / 65536), BitVec.ofNat 8 (n / 256), BitVec.ofNat 8 n] ∧ s8 z = [BitVec.ofInt 8 z] ∧
    s16 z = [BitVec.ofNat 8 ((BitVec.ofInt 16 z).toNat / 256), BitVec.ofNat 8 (BitVec.ofInt 16 z).toNat] ∧
    flag b = [if b then 1 else 0] ∧ listOf u8 xs = u8 xs.length ++ xs.map (BitVec.ofNat 8)) ∧
  (∀ n : NoticeBody, (n.kind, n.items) =
    match n with
    | .controllerStart revision rate => (0xC0, u8 revision ++ u8 rate)
    | .watchTrace number paper previous new seat used limit flags cause => (0xC1,
        u24 number ++ u8 paper ++ u8 previous.code ++ u8 new.code ++ u16 (seat.getD 0xFFFF) ++ u16 used ++ u16 limit ++
        u8 ((if flags.late then 1 else 0) + (if flags.away then 2 else 0) + (if flags.call then 4 else 0) +
          (if flags.seatFault then 8 else 0) + (if flags.deferred then 16 else 0) +
          (if flags.missing then 32 else 0) + (if flags.watch then 64 else 0)) ++
        (match cause with
         | .request kind => u8 0 ++ u8 kind
         | .present => u8 1 ++ u8 0 | .done => u8 2 ++ u8 0 | .call => u8 3 ++ u8 0 | .key => u8 4 ++ u8 0
         | .second => u8 5 ++ u8 0 | .holdExpiry => u8 6 ++ u8 0 | .paper => u8 7 ++ u8 0
         | .collection => u8 8 ++ u8 0 | .sheet => u8 9 ++ u8 0 | .seat => u8 10 ++ u8 0))
    | .seatFaulted seat row col occupant => (0xC2, u16 seat ++ u8 row ++ u8 col ++
        (match occupant with | none => u8 0 | some (index, paper) => u8 1 ++ u16 index ++ u8 paper))
    | .allocEnd paper outcome placed access general =>
        (0xC3, u8 paper ++ u8 (match outcome with
          | .done => 0 | .partly => 1 | .aborted => 2) ++ u16 placed ++ u16 access ++ u16 general)
    | .paperState previous new cause elapsed reading admitted absent active => (0xC4,
        u8 previous.code ++ u8 new.code ++
        u8 (match cause with | .request => 0 | .schedule => 1 | .second => 2 | .lastFinish => 3 | .holdExpiry => 4) ++
        u16 elapsed ++ u16 reading ++ u16 admitted ++ u16 absent ++ u16 active)
    | .lateRefused index number seat elapsed cutoff =>
        (0xC5, u16 index ++ u24 number ++ u16 (seat.getD 0xFFFF) ++ u16 elapsed ++ u16 cutoff)
    | .leaveDenied index seat reason used remaining => (0xC6, u16 index ++ u16 (seat.getD 0xFFFF) ++
        u8 (match reason with | .reading => 0 | .held => 1 | .tooEarly => 2 | .tooLate => 3) ++
        u16 used ++ u16 remaining)
    | .restEnd index seat restUsed used => (0xC7, u16 index ++ u16 (seat.getD 0xFFFF) ++ u16 restUsed ++ u16 used)
    | .awayLong index seat away used => (0xC8, u16 index ++ u16 (seat.getD 0xFFFF) ++ u16 away ++ u16 used)
    | .holdBegin cause => (0xC9, u8 (match cause with | .request => 1 | .line => 2))
    | .holdEnd cause elapsed => (0xCA, u8 (match cause with | .request => 1 | .line => 2) ++ u16 elapsed)
    | .holdExpired cause elapsed slots =>
        (0xCB, u8 (match cause with | .request => 1 | .line => 2) ++ u16 elapsed ++ listOf u8 slots)
    | .callRaised seat index number state => (0xCC, u16 seat ++ u16 index ++ u24 number ++ u8 state.code)
    | .callEnded how => (0xCD, u8 (match how with | .answered => 0 | .withdrawn => 1 | .dropped => 2))
    | .scriptCollected position index number paper seat flags next => (0xCE,
        u16 position ++ u16 index ++ u24 number ++ u8 paper ++ u16 (seat.getD 0xFFFF) ++
        u8 ((if flags.early then 1 else 0) + (if flags.walk then 2 else 0) + (if flags.deferred then 4 else 0) +
          (if flags.outOfOrder then 8 else 0) + (if flags.host then 16 else 0) + (if flags.found then 32 else 0)) ++
        u16 (next.getD 0xFFFF))
    | .collectSkipped paper seat index number reason next => (0xCF, u8 paper ++ u16 seat ++ u16 index ++ u24 number ++
        u8 (match reason with | .timeout => 0 | .seatFault => 1) ++ u16 (next.getD 0xFFFF))
    | .collectionState previous new cause target admitted collected absent missing => (0xD0,
        u8 previous.code ++ u8 new.code ++
        u8 (match cause with | .baseEnd => 0 | .abandon => 1 | .walkEnd => 2 | .lastScript => 3 | .request => 4) ++
        u16 (target.getD 0xFFFF) ++ u16 admitted ++ u16 collected ++ u16 absent ++ u16 missing)
    | .sheetSpoiled tag reason rows =>
        (0xD1, u8 tag ++ u8 (match reason with | .noBuffer => 0 | .overrun => 1 | .geometry => 2) ++ u8 rows)
    | .sheetDiverted tag decision bound cand => (0xD2, u8 tag ++
        (match decision with | .accept => u8 0 ++ u8 0 | .reject r => u8 1 ++ u8 r.code) ++ u8 (bound.getD 0xFF) ++
        (match cand with | none => u8 0 | some d => u8 1 ++ u16 (d.index.getD 0xFFFF) ++ u24 d.number))
    | .sheetLost tag cause state decision reported cand returned => (0xD3, u8 tag ++
        u8 (match cause with | .misrouted => 0 | .earlyStack => 1 | .tagReused => 2 | .jam => 3 | .reset => 4) ++
        u8 (match state with | .receiving => 0 | .stored => 1 | .marking => 2 | .decided => 3 | .diverted => 4) ++
        (match decision with
         | none => u8 0xFF ++ u8 0 | some .accept => u8 0 ++ u8 0 | some (.reject r) => u8 1 ++ u8 r.code) ++
        u8 (match reported with | none => 0xFF | some .accept => 0 | some .reject => 1) ++
        (match cand with | none => u8 0 | some (index, number) => u8 1 ++ u16 index ++ u24 number ++ flag returned))
    | .readerStop cause tags => (0xD4, u8 (match cause with | .jam => 0 | .reset => 1) ++ listOf u8 tags)
    | .readerError reason kind => (0xD5,
        u8 (match reason with
          | .frame => 0 | .kind => 1 | .length => 2 | .order => 3 | .txFull => 4 | .value => 5) ++
        u8 (kind.getD 0xFF))
    | .resultCommitted number paper tag final raw floored neg zero clamped generation => (0xD6,
        u24 number ++ u8 paper ++ u8 tag ++ s16 final ++ s16 raw ++ s16 floored ++
        u8 ((if neg then 1 else 0) + (if zero then 2 else 0) + (if clamped then 4 else 0)) ++ u16 generation)
    | .rescoreDone count generation => (0xD7, u16 count ++ u16 generation)
    | .sessionCleared freed slots => (0xD8, u16 freed ++ u8 slots)) ∧
  [CandState.unseated, .seated, .reading, .writing, .resting, .finished, .absent, .collected, .missing, .markPending,
    .marked].map CandState.code = [0, 1, 2, 3, 4, 5, 6, 7, 8, 9, 10] ∧
  [PaperState.planned, .reading, .writing, .extended, .closed, .abandoned].map PaperState.code = [1, 2, 3, 4, 5, 6] ∧
  [CollState.idle, .walking, .outstanding, .complete].map CollState.code = [0, 1, 2, 3]

/-! ### Invariants -/

/-- Every step keeps the tables and buffers canonical, and within their sizes the Sample FIFO, the Notice Queue, hall time, hold
elapsed, every away count, miss count and target timer, the place of the reset sweep, the end order counter and the link rate
(R1, R15, R26, R67, R69, R97, R98, R120, R137, R143, R147, R191). The transmit queue and the Collection List are the statement
QueueAndListKeptByStep's. -/
def Obligations.BoundedKeptByStep : Prop :=
  ∀ s t : State, s.Bounded → step s = .next t → t.Bounded

/-- Every step keeps seats and candidates in agreement: a seat names a candidate as occupant exactly when the candidate's seat
is that seat, exactly the UNSEATED candidates hold none, and no DISABLED seat holds one (R2, R28). -/
def Obligations.SeatsAgreeKeptByStep : Prop :=
  ∀ s t : State, s.SeatsAgree → step s = .next t → t.SeatsAgree

/-- The three invariants hold right after reset, whatever the straps. -/
def Obligations.InvariantsHoldAtReset : Prop :=
  State.reset.Bounded ∧ State.reset.SeatsAgree ∧ State.reset.Filed ∧
  ∀ rate, rate < 4 → (State.resetAt rate).Bounded ∧ (State.resetAt rate).SeatsAgree ∧ (State.resetAt rate).Filed

/-! ### The second event -/

/-- A second event of a held hall that does not expire the hold counts hall time and hold elapsed, and nothing else changes
(R67, R94). That hold elapsed stays at 7200 where the hold limit is 0 is log 23's. -/
def Obligations.HeldSecondEventCountsTheHold : Prop :=
  ∀ (s : State) (cause : HoldCause), s.resetLow = false → s.hold = some cause →
    s.hall.holdLimit = 0 ∨ min (s.holdElapsed + 1) 7200 < s.hall.holdLimit →
    exec .secondEvent s = .next ({ s.pump with
      hallTime := min (s.hallTime + 1) 16777215, holdElapsed := min (s.holdElapsed + 1) 7200 }.pump)

/-- A second event of a hall that is not held counts hall time (R67), the used of every WRITING candidate whose paper is
WRITING or EXTENDED, who finishes with TIME where that reaches the limit (R81, R82), and the rest used of every RESTING
candidate, who writes again where that reaches the budget (R89). A READING candidate becomes WRITING with used 0 where the
reading time of its paper ends, and otherwise reads on with used as it was (R73, R81). Used and rest used of a FINISHED,
ABSENT or later candidate stand. The away count of every AWAY candidate that does not finish goes up by 1, up to 1800, and
that of any other that does not finish stands; a finish sets it to 0 (R82, R90). The hold state stays. Where no boundary is
reached, reading remaining of a READING paper goes down by 1 and E_p of a WRITING one up by 1 (R73, R74), a paper in any other
state but PLANNED keeps both, and the target timer of a paper with a target and a collect timeout goes up by 1; without either
it stands (R124). An EXTENDED paper of which a candidate finishes at the event and none stays READING, WRITING or RESTING is
CLOSED by it: its SEATED candidates become ABSENT and are counted, and PAPER_STATE is posted with cause LAST_FINISH and the
values after the change; any other EXTENDED paper stays EXTENDED and its SEATED candidates SEATED (R76, R77, R82). -/
def Obligations.SecondEventCountsCandidates : Prop :=
  ∀ s : State, s.Running → s.Bounded → ∃ t, exec .secondEvent s = .next t ∧
    t.hallTime = min (s.hallTime + 1) 16777215 ∧ t.hold = none ∧ t.holdElapsed = s.holdElapsed ∧
    (∀ slot p, s.paper slot = some p → ∃ p', t.paper slot = some p' ∧ p'.defn = p.defn ∧
      (p.state = .reading → 1 < p.readingLeft →
        p'.state = .reading ∧ p'.readingLeft = p.readingLeft - 1 ∧ p'.elapsed = p.elapsed) ∧
      (p.state = .writing → p.elapsed + 1 < p.defn.writing →
        p'.state = .writing ∧ p'.elapsed = p.elapsed + 1 ∧ p'.readingLeft = p.readingLeft) ∧
      (p.state = .extended ∨ p.state = .closed ∨ p.state = .abandoned →
        p'.elapsed = p.elapsed ∧ p'.readingLeft = p.readingLeft) ∧
      (p.state = .extended →
        if s.goingOn slot = 0 ∧ s.countCands slot (fun c => c.state == .writing && c.limit ≤ c.used + 1) ≠ 0 then
          p'.state = .closed ∧
          p'.coll.absent = p.coll.absent + s.countCands slot (fun c => c.state == .seated) ∧
          t.Told ⟨t.hallTime, slot, .paperState .extended .closed .lastFinish p.elapsed p.readingLeft p.coll.admitted
            p'.coll.absent 0⟩ ∧
          ∀ i c, s.cand i = some c → c.paper = slot → c.state = .seated →
            ∃ c', t.cand i = some c' ∧ c'.state = .absent ∧ c'.finish = c.finish
        else
          p'.state = .extended ∧ p'.coll.absent = p.coll.absent ∧
          ∀ i c, s.cand i = some c → c.paper = slot → c.state = .seated →
            ∃ c', t.cand i = some c' ∧ c'.state = .seated) ∧
      (¬ (p.state = .writing ∧ p.defn.writing ≤ p.elapsed + 1) →
        (p.coll.target = none ∨ p.defn.collectTimeout = 0 →
          p'.coll.timer = p.coll.timer ∧ p'.coll.target = p.coll.target) ∧
        (p.coll.target ≠ none → p.coll.timer + 1 < p.defn.collectTimeout →
          p'.coll.timer = min (p.coll.timer + 1) 600 ∧ p'.coll.target = p.coll.target))) ∧
    ∀ i c, s.cand i = some c → ∃ c', t.cand i = some c' ∧
      c'.number = c.number ∧ c'.paper = c.paper ∧ c'.limit = c.limit ∧ c'.seat = c.seat ∧
      (c.state = .writing →
        (∃ p, s.paper c.paper = some p ∧ (p.state = .writing ∨ p.state = .extended)) →
        c'.used = c.used + 1 ∧ c'.restUsed = c.restUsed ∧
        (if c.limit ≤ c.used + 1 then
          c'.state = .finished ∧ c'.finish = some ⟨.time, min (s.hallTime + 1) 16777215⟩ ∧ c'.flags.away = false ∧
          c'.awayCount = 0
        else c'.state = .writing ∧ c'.finish = c.finish)) ∧
      (¬ (c.state = .writing ∧ c.limit ≤ c.used + 1) →
        c'.awayCount = if c.flags.away = true then min (c.awayCount + 1) 1800 else c.awayCount) ∧
      (c.state = .reading → c'.restUsed = c.restUsed ∧ c'.finish = c.finish ∧
        ∀ p, s.paper c.paper = some p →
          if p.state = .reading ∧ p.readingLeft ≤ 1 then c'.state = .writing ∧ c'.used = 0
          else c'.state = .reading ∧ c'.used = c.used) ∧
      (c.state = .resting → c'.used = c.used ∧ c'.restUsed = c.restUsed + 1 ∧ c'.finish = c.finish ∧
        c'.state = if c.restBudget ≤ c.restUsed + 1 then .writing else .resting) ∧
      (c.state = .finished ∨ c.state = .absent ∨ c.state = .collected ∨ c.state = .missing ∨ c.state = .markPending ∨
          c.state = .marked →
        c'.used = c.used ∧ c'.restUsed = c.restUsed ∧ c'.state = c.state ∧ c'.finish = c.finish)

/-- READING_END: at the second event that ends the reading time, every READING candidate of the paper becomes WRITING with used
0, the SEATED ones stay, and the paper becomes WRITING with E_p 0 (R73). SCHEDULED_START: at a second event at which its
conditions hold, the paper starts: every SEATED candidate whose present level is active is admitted with used 0, and the paper
becomes READING or, without reading time, WRITING (R71, R72). Each posts PAPER_STATE, with cause SECOND and SCHEDULE, and the
clock and counts after the change (R77). -/
def Obligations.ReadingEndsAndScheduledStarts : Prop :=
  ∀ (s : State) (slot : Nat) (p : Paper), s.Running → s.Bounded → s.paper slot = some p →
    (p.state = .reading → p.readingLeft ≤ 1 → ∃ t p', exec (.readingEnd slot) s = .next t ∧ t.paper slot = some p' ∧
      p'.state = .writing ∧ p'.readingLeft = 0 ∧ p'.elapsed = 0 ∧ p'.defn = p.defn ∧
      t.Told ⟨t.hallTime, slot, .paperState .reading .writing .second 0 0 p.coll.admitted p.coll.absent
        (s.activeCount slot)⟩ ∧
      ∀ i c, s.cand i = some c → c.paper = slot → ∃ c', t.cand i = some c' ∧
        (c.state = .reading → c'.state = .writing ∧ c'.used = 0) ∧ (c.state = .seated → c'.state = .seated)) ∧
    (∀ at_, p.state = .planned → p.defn.start = some at_ → at_ ≤ min (s.hallTime + 1) 16777215 →
      (∀ j, s.job = some j → j.paper ≠ slot) → ∃ t p', exec (.scheduledStart slot) s = .next t ∧
      t.paper slot = some p' ∧ p'.state = (if 0 < p.defn.reading then .reading else .writing) ∧
      p'.readingLeft = p.defn.reading ∧ p'.elapsed = 0 ∧
      p'.coll.admitted = p.coll.admitted +
        s.countCands slot (fun c => c.state == .seated && c.present) ∧
      t.Told ⟨t.hallTime, slot, .paperState .planned p'.state .schedule 0 p.defn.reading p'.coll.admitted p.coll.absent
        (s.activeCount slot + s.countCands slot (fun c => c.state == .seated && c.present))⟩ ∧
      ∀ i c, s.cand i = some c → c.paper = slot → c.state = .seated → ∃ c', t.cand i = some c' ∧
        if c.present = true then
          c'.state = (if 0 < p.defn.reading then .reading else .writing) ∧ c'.used = 0 ∧ c'.flags.late = c.flags.late
        else c'.state = .seated)

/-- LATE_ENTRY_CLOSE: the second event that brings E_p to one more than the late cutoff makes every SEATED candidate of the paper
ABSENT and counts them; before D the paper goes on WRITING, and with a late cutoff one below D the same event is base end (R74,
log 4). BASE_END: the second event that brings E_p to D does so too, makes the
paper EXTENDED if a candidate of it is still READING, WRITING or RESTING and CLOSED otherwise, posts PAPER_STATE with cause
SECOND, E_p = D and the counts after the change, the active candidates among them, and an IDLE collection leaves IDLE (R75, R77,
R121). -/
def Obligations.LateEntryClosesAndBaseEnds : Prop :=
  ∀ (s : State) (slot : Nat) (p : Paper), s.Running → s.Bounded → s.paper slot = some p → p.state = .writing →
    (p.elapsed = p.defn.lateCutoff → p.defn.lateCutoff < p.defn.writing →
      ∃ t p', exec (.lateEntryClose slot) s = .next t ∧ t.paper slot = some p' ∧
        (p.elapsed + 1 < p.defn.writing → p'.state = .writing) ∧
        (p.elapsed + 1 = p.defn.writing → exec (.lateEntryClose slot) s = exec (.baseEnd slot) s) ∧
        p'.elapsed = p.elapsed + 1 ∧
        p'.coll.absent = p.coll.absent + s.countCands slot (fun c => c.state == .seated) ∧
        ∀ i c, s.cand i = some c → c.paper = slot → c.state = .seated →
          ∃ c', t.cand i = some c' ∧ c'.state = .absent ∧ c'.seat = c.seat ∧ c'.finish = c.finish) ∧
    (p.defn.writing ≤ p.elapsed + 1 →
      ∃ t p', exec (.baseEnd slot) s = .next t ∧ t.paper slot = some p' ∧
        p'.elapsed = p.elapsed + 1 ∧
        p'.coll.absent = p.coll.absent + s.countCands slot (fun c => c.state == .seated) ∧
        ((∃ i c, s.cand i = some c ∧ c.paper = slot ∧
            (c.state = .reading ∨ c.state = .resting ∨ c.state = .writing ∧ c.used + 1 < c.limit)) →
          p'.state = .extended) ∧
        ((∀ i c, s.cand i = some c → c.paper = slot →
            ¬ (c.state = .reading ∨ c.state = .resting ∨ c.state = .writing ∧ c.used + 1 < c.limit)) →
          p'.state = .closed) ∧
        (p.elapsed < p.defn.writing → p'.elapsed = p.defn.writing) ∧
        t.Told ⟨t.hallTime, slot, .paperState .writing p'.state .second p'.elapsed p.readingLeft p.coll.admitted
          p'.coll.absent (s.goingOn slot)⟩ ∧
        p'.coll.state ≠ .idle ∧
        ∀ i c, s.cand i = some c → c.paper = slot → c.state = .seated →
          ∃ c', t.cand i = some c' ∧ c'.state = .absent ∧ c'.seat = c.seat ∧ c'.finish = c.finish)

/-- LIMIT_REACHED: at the second event that brings used to the limit the candidate finishes with reason TIME (R81, R82). Where its
paper is EXTENDED and no candidate of it stays READING, WRITING or RESTING, the paper closes in that same step: its SEATED
candidates become ABSENT and are counted, and PAPER_STATE is posted with cause LAST_FINISH and the values after the change; where
one stays, the paper stays EXTENDED (R76, R77, R82).
REST_BUDGET_EXHAUSTED: at the one that brings rest used to the budget it writes again and REST_END is posted (R89). AWAY_LONG: at
the one at which the away count reaches the away limit the absence is reported, once (R90), with used as the clock has left it at
that event (the model's order within the event, log 4). -/
def Obligations.LimitRestAndAwayReached : Prop :=
  ∀ (s : State) (i : Nat) (c : Cand), s.Running → s.Bounded → s.cand i = some c →
    (∀ p, c.state = .writing → s.paper c.paper = some p → p.state = .writing ∨ p.state = .extended →
      c.limit ≤ c.used + 1 → ∃ t c' p', exec (.limitReached i) s = .next t ∧ t.cand i = some c' ∧
        c'.state = .finished ∧ c'.used = c.used + 1 ∧ c'.finish = some ⟨.time, t.hallTime⟩ ∧
        c'.flags.away = false ∧ c'.awayCount = 0 ∧ c'.awayReported = false ∧ t.paper c.paper = some p' ∧
        (p.state = .extended →
          if s.goingOn c.paper = 0 then
            p'.state = .closed ∧ p'.elapsed = p.elapsed ∧ p'.readingLeft = p.readingLeft ∧
            p'.coll.absent = p.coll.absent + s.countCands c.paper (fun d => d.state == .seated) ∧
            t.Told ⟨t.hallTime, c.paper, .paperState .extended .closed .lastFinish p.elapsed p.readingLeft p.coll.admitted
              p'.coll.absent 0⟩ ∧
            ∀ j d, s.cand j = some d → d.paper = c.paper → d.state = .seated →
              ∃ d', t.cand j = some d' ∧ d'.state = .absent ∧ d'.seat = d.seat ∧ d'.finish = d.finish
          else p'.state = .extended ∧ p'.coll.absent = p.coll.absent)) ∧
    (c.state = .resting → c.restBudget ≤ c.restUsed + 1 →
      ∃ t c', exec (.restBudgetExhausted i) s = .next t ∧ t.cand i = some c' ∧
        c'.state = .writing ∧ c'.restUsed = c.restUsed + 1 ∧ c'.used = c.used ∧
        t.Told ⟨t.hallTime, 0, .restEnd i c.seat (c.restUsed + 1) c.used⟩) ∧
    (∀ p, c.flags.away = true → c.awayReported = false → 0 < s.hall.awayLimit →
      s.hall.awayLimit ≤ min (c.awayCount + 1) 1800 → s.paper c.paper = some p →
      c.state ≠ .writing ∨ p.state = .extended ∧ c.used + 1 < c.limit ∨
        p.state = .writing ∧ c.used + 1 < c.limit →
      ∃ t c', exec (.awayLong i) s = .next t ∧ t.cand i = some c' ∧
        c'.flags.away = true ∧ c'.awayCount = min (c.awayCount + 1) 1800 ∧ c'.awayReported = true ∧
        t.Told ⟨t.hallTime, 0, .awayLong i c.seat (min (c.awayCount + 1) 1800)
          (if c.state = .writing then c.used + 1 else c.used)⟩)

/-- HOLD_EXPIRED: the second event at which hold elapsed reaches the hold limit ends the hold and abandons every running paper:
E_p and reading remaining stay, its READING, WRITING and RESTING candidates finish ABANDONED, its SEATED ones become ABSENT and
are counted, HOLD_EXPIRED names the slots, and each paper's PAPER_STATE is posted with cause HOLD_EXPIRY (R77, R86, R96). -/
def Obligations.HoldExpiryAbandonsRunningPapers : Prop :=
  ∀ (s : State) (cause : HoldCause), s.resetLow = false → s.Bounded → s.hold = some cause → 0 < s.hall.holdLimit →
    s.hall.holdLimit ≤ min (s.holdElapsed + 1) 7200 →
    ∃ t, exec .holdExpired s = .next t ∧ t.hold = none ∧ t.holdElapsed = min (s.holdElapsed + 1) 7200 ∧
      t.hallTime = min (s.hallTime + 1) 16777215 ∧
      t.Told ⟨t.hallTime, 0, .holdExpired cause t.holdElapsed
        ((List.range 8).filter (fun q => (s.paper q).any (fun p => p.state.running)))⟩ ∧
      ∀ slot p, s.paper slot = some p → p.state = .reading ∨ p.state = .writing ∨ p.state = .extended →
        (∃ p', t.paper slot = some p' ∧ p'.state = .abandoned ∧ p'.elapsed = p.elapsed ∧
          p'.readingLeft = p.readingLeft ∧ (p.coll.state = .idle → p'.coll.state ≠ .idle) ∧
          p'.coll.absent = p.coll.absent + s.countCands slot (fun c => c.state == .seated) ∧
          t.Told ⟨t.hallTime, slot, .paperState p.state .abandoned .holdExpiry p.elapsed p.readingLeft p.coll.admitted
            p'.coll.absent 0⟩) ∧
        ∀ i c, s.cand i = some c → c.paper = slot → ∃ c', t.cand i = some c' ∧ c'.used = c.used ∧
          (c.state = .reading ∨ c.state = .writing ∨ c.state = .resting →
            c'.state = .finished ∧ c'.finish = some ⟨.abandoned, t.hallTime⟩) ∧
          (c.state = .seated → c'.state = .absent)

/-- COLLECT_TIMEOUT_EXPIRY: the second event that brings the target timer to the collect timeout defers the target's
candidate, posts COLLECT_SKIPPED with reason TIMEOUT and the next target, and the walk moves on: the seat is not the target
again, and the timer is 0 (R122, R124). The notices of a target passed, here or at a seat fault, are its COLLECT_SKIPPED,
those of the candidates passed over at a FAULTY seat, the WATCH_TRACE notices of all of them in ascending index, and
COLLECTION_STATE (R14, R136; log 45). -/
def Obligations.CollectTimeoutPassesTheTarget : Prop :=
  (∀ (s : State) (slot n i : Nat) (p : Paper) (x : Seat) (c : Cand) (reason : SkipReason), s.paper slot = some p →
    p.coll.target = some n → s.seat n = some x → x.occupant = some i → s.cand i = some c →
    ∀ r next, r = ((s.modCand i (fun d => { d with flags := { d.flags with deferred := true } })).modPaper slot (fun q =>
        { q with coll := { q.coll with target := none, timer := 0 } })).findTarget slot →
      next = (r.1.paper slot).bind (fun q => q.coll.target) →
      s.skipTarget slot reason = ((r.2.foldl (fun u q =>
          if q.fault then u.post slot (.collectSkipped slot q.seat q.index q.old.number .seatFault next) else u)
        (r.1.post slot (.collectSkipped slot n i c.number reason next))).traceAll s.cands .collection).settle slot .walkEnd) ∧
  ∀ (s : State) (slot n i : Nat) (p : Paper) (x : Seat) (c : Cand), s.Running → s.Bounded →
    s.paper slot = some p → p.state ≠ .writing → p.coll.target = some n → p.defn.collectTimeout ≠ 0 →
    p.defn.collectTimeout ≤ p.coll.timer + 1 → s.seat n = some x → x.occupant = some i → s.cand i = some c →
    ∃ t p' c', exec (.collectTimeoutExpiry slot) s = .next t ∧ t.paper slot = some p' ∧ t.cand i = some c' ∧
      c'.flags.deferred = true ∧ (c.state = .finished → c'.state = .finished) ∧ p'.coll.target ≠ some n ∧
      p'.coll.timer = 0 ∧ p'.coll.collected = p.coll.collected ∧
      t.Told ⟨t.hallTime, slot, .collectSkipped slot n i c.number .timeout p'.coll.target⟩

/-! ### Holds and time -/

/-- HOLD_LINE_ASSERTED raises a hold with cause LINE at a hall that is not held, and at a held one only the line is asserted
(R93). A line that is already asserted is no new assertion: HOLD_LINE_ASSERTED then changes nothing, also at a hall that is
not held, which is the model's choice, log 30. HOLD_LINE_RELEASED releases the line and the hold stays (R93). RESUME at a hall
that is not held is refused with STATE, and with the line asserted with STATE and detail LINE_ASSERTED; otherwise the hall is
no longer held, HOLD_END is posted, every count stands as it was, scheduled starts are taken, also right after a TIME_SET by
log 52, and where no paper is PLANNED with a scheduled start nothing else changes (R94, R95). A scheduled start is taken for a
paper that is PLANNED, has no job running for it and whose start is at or before hall time, and for no other, and is the start
of PaperStartAdmitsThosePresent with cause SCHEDULE (R71, R72). -/
def Obligations.HoldLineAndResume : Prop :=
  (∀ s : State, s.resetLow = false →
      (s.holdLine = false → s.hold = none → exec .holdLineAsserted s =
        .next (({ s.pump with holdLine := true, hold := some .line, holdElapsed := 0 }.post 0 (.holdBegin .line)).pump)) ∧
      (s.holdLine = true ∨ s.hold ≠ none → exec .holdLineAsserted s = .next { s.pump with holdLine := true }) ∧
      exec .holdLineReleased s = .next { s.pump with holdLine := false }) ∧
  (∀ (tag : Nat) (s : State), s.LinkFree →
      (s.hold = none → exec (.resume tag) s = .next (s.turnedDown 0x25 tag .state 0 0)) ∧
      (∀ cause, s.hold = some cause → s.holdLine = true →
        exec (.resume tag) s = .next (s.turnedDown 0x25 tag .state 5 0)) ∧
      (∀ cause, s.hold = some cause → s.holdLine = false →
        exec (.resume tag) s = .next (State.replied
          (({ s.pump with hold := none }.post 0 (.holdEnd cause s.holdElapsed)).runScheduled) 0x25 tag
          (u16 s.holdElapsed)) ∧
        (s.Bounded → (∀ slot p, s.paper slot = some p → p.state = .planned → p.defn.start = none) →
          exec (.resume tag) s = .next (State.replied
            ({ s.pump with hold := none }.post 0 (.holdEnd cause s.holdElapsed)) 0x25 tag (u16 s.holdElapsed))))) ∧
  (∀ (s : State) (slot : Nat), s.Bounded →
    ∀ due : Nat → Prop, due = (fun k => ∃ p at_, s.paper k = some p ∧ p.state = .planned ∧ p.defn.start = some at_ ∧
      at_ ≤ s.hallTime ∧ s.hold = none ∧ ∀ j, s.job = some j → j.paper ≠ k) →
    ((∀ k, ¬ due k) → s.runScheduled = s) ∧
    (due slot → (∀ k, due k → k = slot) → s.runScheduled = s.startPaper slot .schedule))

/-- HOLD makes a hall that is not held HELD with cause REQUEST and hold elapsed 0, posts HOLD_BEGIN, and is answered OK with hold
state and elapsed; at a held hall it is answered OK the same way and changes nothing (R92). -/
def Obligations.HoldRaisedByRequest : Prop :=
  ∀ (tag : Nat) (s : State), s.LinkFree →
    (s.hold = none → exec (.hold tag) s = .next
      (State.replied ({ s.pump with hold := some .request, holdElapsed := 0 }.post 0 (.holdBegin .request)) 0x24 tag
        ([1] ++ u16 0))) ∧
    (∀ cause, s.hold = some cause → exec (.hold tag) s = .next
      (State.replied s.pump 0x24 tag (u8 (match cause with | .request => 1 | .line => 2) ++ u16 s.holdElapsed)))

/-! ### The link's own requests -/

/-- IDENTIFY is always answered OK with vendor 0x564B, part 0x0512, revision 3 and the link rate code, and changes nothing
(R194). That the two codes take two bytes each and the revision one is the model's choice (log 62). -/
def Obligations.IdentifyNamesThePart : Prop :=
  ∀ (tag : Nat) (s : State), s.LinkFree → exec (.identify tag) s =
    .next (State.replied s.pump 0x01 tag ([0x56, 0x4B, 0x05, 0x12, 0x03] ++ [BitVec.ofNat 8 s.link.rate]))

/-- STATUS is always answered OK and changes nothing: its data are hall time, hold, hold elapsed and the HOLD line, then the
defined papers, each with its collection cursor (R44), the job record, its waiting list as a length, with the last outcome
(R48), the marker, the reader with its open Sheet Records, and the Notice Queue level (R157, R193; the byte layout of the
groups is log 15's, the codes of sheet and buffer states, spoil reason and allocation outcome log 42's, 0xFF for no buffer log
59's). TIME_SET above 16,777,215 is refused with RANGE; otherwise hall time takes the value, the reply carries the time before
and after, and nothing else changes (R68). -/
def Obligations.StatusAndTimeSet : Prop :=
  (∀ (tag : Nat) (s : State), s.LinkFree → exec (.status tag) s =
      .next (State.replied s.pump 0x02 tag (u24 s.hallTime ++
        u8 (match s.hold with | none => 0 | some .request => 1 | some .line => 2) ++ u16 s.holdElapsed ++
        u8 (if s.holdLine then 1 else 0) ++
        (u8 s.papers.length ++ s.papers.flatMap (fun e : Nat × Paper =>
          u8 e.1 ++ e.2.defn.code ++ u8 e.2.state.code ++ u16 e.2.elapsed ++ u16 e.2.readingLeft ++
            u16 e.2.coll.admitted ++ u16 e.2.coll.collected ++ u16 e.2.coll.absent ++ u16 e.2.coll.missing ++
            u8 e.2.coll.state.code ++ (u8 e.2.coll.cursor.h ++ u8 e.2.coll.cursor.m ++ u8 e.2.coll.cursor.l ++
              flag e.2.coll.cursor.exhausted) ++ u16 (e.2.coll.target.getD 0xFFFF) ++ u8 (match e.2.marking with
              | .notReady => 0 | .ready => 1 | .bound => 2 | .rescoring => 3) ++
            flag (e.2.format.isSome && e.2.key.all Option.isSome) ++ u16 e.2.generation)) ++
        (match s.job with
         | none => u8 0 ++ u8 0 ++ u16 0 ++ u16 0 ++ u16 0
         | some j => u8 (match j.pass with | .access => 1 | .general => 2) ++ (u8 1 ++ u8 j.paper ++ flag j.spill ++
            (u8 j.walk.startRow ++ u8 j.walk.startCol ++ s8 j.walk.e.row ++ s8 j.walk.e.col ++ s8 j.walk.o1.row ++
              s8 j.walk.o1.col ++ s8 j.walk.o2.row ++ s8 j.walk.o2.col ++ u8 j.walk.countL ++ u8 j.walk.countM ++
              u8 j.walk.countH ++ flag j.walk.alternate) ++
            (u8 j.cursor.h ++ u8 j.cursor.m ++ u8 j.cursor.l ++ flag j.cursor.exhausted) ++ u16 j.waiting.length) ++
            u16 j.generalCount ++ u16 j.placed ++ u16 j.unplacedAccess) ++
        (match s.lastOutcome with
         | none => u8 0
         | some o => u8 1 ++ (u8 o.paper ++ u8 (match o.outcome with | .done => 0 | .partly => 1 | .aborted => 2) ++
            u16 o.placed ++ u16 o.unplacedAccess ++ u16 o.unplacedGeneral ++ u24 o.time)) ++
        (match s.marker with
         | .idle => u8 0 ++ u8 0 ++ u8 0
         | .marking j => u8 1 ++ (u8 1 ++ u8 j.tag) ++ u8 0
         | .rescoring slot next _ => u8 2 ++ u8 0 ++ (u8 1 ++ u8 slot ++ u16 next)) ++
        (u8 (s.reader.bound.getD 0xFF) ++ flag s.reader.ready ++ flag s.reader.feedSent ++ u16 s.reader.fifo.length ++
          (match s.reader.owner with | none => u8 0 | some g => u8 1 ++ u8 g) ++
          [s.reader.buf0.state, s.reader.buf1.state].flatMap (fun b => u8 (match b with
            | .free => 0 | .filling => 1 | .full => 2 | .marking => 3)) ++
          (u8 s.reader.records.length ++ s.reader.records.flatMap (fun e : Nat × SheetRec =>
            u8 e.2.tag ++ u8 (match e.2.state with
              | .receiving => 0 | .stored => 1 | .marking => 2 | .decided => 3 | .diverted => 4) ++
            u8 (e.2.buffer.getD 0xFF) ++ u8 e.2.rows ++ u8 (match e.2.spoil with
              | none => 0xFF | some .noBuffer => 0 | some .overrun => 1 | some .geometry => 2) ++
            (match e.2.decision with
             | none => u8 0xFF ++ u8 0 | some .accept => u8 0 ++ u8 0 | some (.reject r) => u8 1 ++ u8 r.code)))) ++
        u8 s.pump.link.notices.length))) ∧
  (∀ (tag time : Nat) (s : State), s.LinkFree → exec (.timeSet tag time) s = .next
      (if time ≤ 16777215 then
        State.replied { s.pump with hallTime := time } 0x04 tag (u24 s.hallTime ++ u24 time)
      else s.turnedDown 0x04 tag .range 0 0))

/-- SESSION_CLEAR is refused with STATE and the first detail that holds of PAPER_RUNNING, HELD, ALLOCATING, BOUND, RESCORING.
Otherwise it frees every candidate, undefines every paper, empties the Collection List, the Response Store and the Sheet
Records, frees both buffers and makes every occupant, pending call and level-answered mark and the last outcome absent; all else is
kept. SESSION_CLEARED is queued after the step, so a loss of it shows in the next reply (R195). That notice and reply carry the
numbers of records and of slots, in 2 bytes and 1, is the model's choice (logs 15 and 32). -/
def Obligations.SessionClearEmptiesTheSitting : Prop :=
  ∀ (tag : Nat) (s : State), s.LinkFree → exec (.sessionClear tag) s = .next
    (if s.papers.any (fun e => e.2.state.running) then s.turnedDown 0x03 tag .state 6 0
     else if s.hold ≠ none then s.turnedDown 0x03 tag .state 7 0
     else if s.job ≠ none then s.turnedDown 0x03 tag .state 8 0
     else if s.reader.bound ≠ none then s.turnedDown 0x03 tag .state 9 0
     else if s.marker.isRescoring then s.turnedDown 0x03 tag .state 10 0
     else ((({ s.pump with
        cands := [], papers := [], collection := [], responses := [], lastOutcome := none, marker := .idle
        seats := s.seats.map (fun e : Nat × Seat => (e.1, { e.2 with occupant := none }))
        loops := s.loops.map (fun e : Nat × LoopRec => (e.1, { e.2 with call := none, answered := false }))
        reader := { s.reader with
          records := [], buf0 := { s.reader.buf0 with state := .free }
          buf1 := { s.reader.buf1 with state := .free } } }.reply 0x03 (BitVec.ofNat 8 tag)
        (.ok (u16 s.cands.length ++ u8 s.papers.length))).post 0
        (.sessionCleared s.cands.length s.papers.length)).pump))

/-! ### Reading records -/

/-- PAPER_READ of a slot 0..7 is answered OK, with hall time, slot and state 0 for an UNDEFINED slot and with the 73 bytes of
the record otherwise, its definition group written out as PAPER_DEFINE's reply carries it too, and changes nothing; a slot
above 7 is refused with RANGE (R22, R163, R198, R201). CAND_READ by index or by number is answered OK with the 29 bytes of the
record and changes nothing; an index above 511, a number outside 1..999999 or an unknown selector is refused with RANGE, and a
free record or a number not in use with NOT_FOUND (R12, R198, R200). -/
def Obligations.PapersAndCandidatesAreReported : Prop :=
  (∀ d : PaperDef, d.bytes = d.code ++ u16 d.reading ++ u16 d.writing ++ u16 d.lateCutoff ++ u16 d.noLeaveFirst ++
    u16 d.noLeaveLast ++ u16 d.warnA ++ u16 d.warnB ++
    u8 (match d.separation with | .none => 0 | .row => 1 | .grid => 2 | .diag => 3) ++ u16 d.collectTimeout ++
    (match d.start with | none => [0, 0, 0, 0] | some t => [1] ++ u24 t) ++
    (match d.walk with
     | none => [0, 0, 0, 0, 0, 0, 0, 0, 0, 0, 0, 0, 0]
     | some w => [1] ++ u8 w.startRow ++ u8 w.startCol ++ s8 w.e.row ++ s8 w.e.col ++ s8 w.o1.row ++ s8 w.o1.col ++
        s8 w.o2.row ++ s8 w.o2.col ++ u8 w.countL ++ u8 w.countM ++ u8 w.countH ++ flag w.alternate)) ∧
  (∀ (tag slot : Nat) (s : State), s.LinkFree →
      (8 ≤ slot → exec (.paperRead tag slot) s = .next (s.turnedDown 0x11 tag .range 0 0)) ∧
      (slot < 8 → s.paper slot = none →
        exec (.paperRead tag slot) s = .next (State.replied s.pump 0x11 tag (u24 s.hallTime ++ u8 slot ++ [0]))) ∧
      (∀ p, slot < 8 → s.paper slot = some p →
        exec (.paperRead tag slot) s = .next (State.replied s.pump 0x11 tag
          (u24 s.hallTime ++ u8 slot ++ u8 p.state.code ++ p.defn.bytes ++
            u16 p.readingLeft ++ u16 p.elapsed ++
            u8 p.coll.state.code ++ (u8 p.coll.cursor.h ++ u8 p.coll.cursor.m ++ u8 p.coll.cursor.l ++
              flag p.coll.cursor.exhausted) ++ u16 (p.coll.target.getD 0xFFFF) ++ u16 p.coll.timer ++
            u16 p.coll.admitted ++ u16 p.coll.collected ++ u16 p.coll.absent ++ u16 p.coll.missing ++
            flag p.format.isSome ++ flag (p.format.isSome && p.key.all Option.isSome) ++ u16 p.generation ++
            u8 (match p.marking with | .notReady => 0 | .ready => 1 | .bound => 2 | .rescoring => 3))) ∧
        (p.defn.code.length = 8 → (p.bytes slot s.hallTime).length = 73))) ∧
  (∀ (tag i : Nat) (s : State), s.LinkFree → s.Bounded →
      (i < 65536 → 512 ≤ i → exec (.candRead tag 0 i) s = .next (s.turnedDown 0x14 tag .range 0 0)) ∧
      (i = 0 ∨ 999999 < i → exec (.candRead tag 1 i) s = .next (s.turnedDown 0x14 tag .range 0 0)) ∧
      (∀ sel, 1 < sel → exec (.candRead tag sel i) s = .next (s.turnedDown 0x14 tag .range 0 0)) ∧
      (i < 512 → s.cand i = none → exec (.candRead tag 0 i) s = .next (s.turnedDown 0x14 tag .notFound 0 0)) ∧
      (1 ≤ i → i ≤ 999999 → (∀ j c, s.cand j = some c → c.number ≠ i) →
        exec (.candRead tag 1 i) s = .next (s.turnedDown 0x14 tag .notFound 0 0)) ∧
      (∀ c sel value, s.cand i = some c → (sel = 0 ∧ value = i ∨ sel = 1 ∧ value = c.number ∧ 1 ≤ value ∧
          value ≤ 999999 ∧ ∀ j d, s.cand j = some d → d.number = c.number → j = i) →
        exec (.candRead tag sel value) s = .next (State.replied s.pump 0x14 tag
          (u24 s.hallTime ++ u16 i ++ u24 c.number ++ u8 c.paper ++ u8 c.allowance ++ flag c.needsAccess ++
            u16 c.restBudget ++ u16 c.restUsed ++ u16 (c.seat.getD 0xFFFF) ++ u8 c.state.code ++
            u8 (match c.finish.map Finish.reason with
              | none => 0xFF | some .early => 0 | some .time => 1 | some .forced => 2 | some .abandoned => 3) ++
            u24 ((c.finish.map (fun f => f.time)).getD 0) ++
            u16 c.limit ++ u16 c.used ++
            u8 ((if c.flags.late then 1 else 0) + (if c.flags.away then 2 else 0) + (if c.flags.call then 4 else 0) +
              (if c.flags.seatFault then 8 else 0) + (if c.flags.deferred then 16 else 0) +
              (if c.flags.missing then 32 else 0) + (if c.flags.watch then 64 else 0)) ++
            flag c.present ++ flag c.result.isSome))))

/-- RESULT_READ: an index above 511 is refused with RANGE, a free record with NOT_FOUND, a candidate that is not MARKED with
STATE and its state; a MARKED candidate's result is reported, with hall time and the paper's current generation. Nothing changes
(R183, R200). RESPONSES_READ is checked as RESULT_READ is, and a MARKED candidate's reply carries Q and the Response Store entries in
question order, the class in bits 7..4 and the option in bits 3..0; nothing changes (R184, R200). -/
def Obligations.ResultsAndResponsesAreReported : Prop :=
  (∀ (tag i : Nat) (s : State), s.LinkFree →
      (512 ≤ i → exec (.resultRead tag i) s = .next (s.turnedDown 0x37 tag .range 0 0)) ∧
      (i < 512 → s.cand i = none → exec (.resultRead tag i) s = .next (s.turnedDown 0x37 tag .notFound 0 0)) ∧
      (∀ c, i < 512 → s.cand i = some c → c.state ≠ .marked →
        exec (.resultRead tag i) s = .next (s.turnedDown 0x37 tag .state 11 c.state.code)) ∧
      (∀ c r p, i < 512 → s.cand i = some c → c.state = .marked → c.result = some r → s.paper c.paper = some p →
        exec (.resultRead tag i) s = .next (State.replied s.pump 0x37 tag
          (u24 s.hallTime ++ u16 i ++ u24 c.number ++ u8 c.paper ++ s16 r.final ++ s16 r.raw ++ s16 r.floored ++
            u8 ((if r.neg then 1 else 0) + (if r.zero then 2 else 0) + (if r.clamped then 4 else 0)) ++
            u8 r.counts.correct ++ u8 r.counts.wrong ++ u8 r.counts.blank ++ u8 r.counts.faint ++ u8 r.counts.multi ++
            u8 r.counts.void ++ u8 r.counts.erasure ++ u16 r.generation ++ u16 p.generation ++ u8 r.tag)))) ∧
  (∀ (tag i : Nat) (s : State), s.LinkFree →
      (512 ≤ i → exec (.responsesRead tag i) s = .next (s.turnedDown 0x38 tag .range 0 0)) ∧
      (i < 512 → s.cand i = none → exec (.responsesRead tag i) s = .next (s.turnedDown 0x38 tag .notFound 0 0)) ∧
      (∀ c, i < 512 → s.cand i = some c → c.state ≠ .marked →
        exec (.responsesRead tag i) s = .next (s.turnedDown 0x38 tag .state 11 c.state.code)) ∧
      (∀ c rs, i < 512 → s.cand i = some c → c.state = .marked → Table.get s.responses i = some rs →
        exec (.responsesRead tag i) s = .next (State.replied s.pump 0x38 tag
          (u24 s.hallTime ++ u16 i ++ u8 rs.length ++ rs.flatMap (fun q => u8 (match q with
            | .blank => 0x00 | .faint => 0x10 | .resp o => 0x20 + o | .respE o => 0x30 + o | .multi => 0x40))))))

/-- SEAT_READ is answered for every seat number 0..511, UNDEFINED or not, and by position for a defined seat, with grid, seat,
occupant, target, loop record and, where a mode is given, the neighbours under it in ascending seat number; COLLECTION_READ is
answered with up to 20 matching entries from the start position, the total length and the next position or 0xFFFF. A seat
number, position, selector or mode out of range is refused with RANGE, a position with no seat with NOT_FOUND, a selector or
start position of COLLECTION_READ out of range with RANGE, and an UNDEFINED slot with NOT_FOUND. Neither changes anything
(R30, R37, R38, R131, R132; byte layout log 15, the fault code log 42, the lamp without blink log 43). -/
def Obligations.SeatAndCollectionReads : Prop :=
  (∀ (tag sel place mode : Nat) (s : State), s.LinkFree →
    3 < mode ∧ mode ≠ 0xFF ∨ 1 < sel ∨ sel = 0 ∧ 512 ≤ place ∨ sel = 1 ∧ (31 < place / 256 ∨ 31 < place % 256) →
    exec (.seatRead tag sel place mode) s = .next (s.turnedDown 0x08 tag .range 0 0)) ∧
  (∀ (tag sel start : Nat) (s : State), s.LinkFree →
    (8 ≤ sel ∧ sel ≠ 0xFF ∨ 512 ≤ start →
      exec (.collectionRead tag sel start) s = .next (s.turnedDown 0x2A tag .range 0 0)) ∧
    (sel < 8 → start < 512 → s.paper sel = none →
      exec (.collectionRead tag sel start) s = .next (s.turnedDown 0x2A tag .notFound 0 0))) ∧
  (∀ (tag n mode : Nat) (s : State), s.LinkFree → s.Bounded → n < 512 → mode ≤ 3 ∨ mode = 0xFF →
    ∃ ns : List (Nat × Seat), ns.Pairwise (fun a b => a.1 < b.1) ∧
      (∀ k y, (k, y) ∈ ns ↔ s.seat k = some y ∧ k ≠ n ∧ ∃ x, s.seat n = some x ∧
        ((1 ≤ mode ∧ mode ≤ 3 ∧ x.row = y.row ∧ (x.col = y.col + 1 ∨ y.col = x.col + 1)) ∨
          ((mode = 2 ∨ mode = 3) ∧ x.col = y.col ∧ (x.row = y.row + 1 ∨ y.row = x.row + 1)) ∨
          (mode = 3 ∧ (x.row = y.row + 1 ∨ y.row = x.row + 1) ∧ (x.col = y.col + 1 ∨ y.col = x.col + 1)))) ∧
      exec (.seatRead tag 0 n mode) s = .next (State.replied s.pump 0x08 tag
        (u24 s.hallTime ++ u8 s.hall.rows ++ u8 s.hall.cols ++ u16 n ++
          (match s.seat n with
           | none => u8 0 ++ u8 0
           | some x => u8 (match x.state with | .enabled => 1 | .disabled => 2 | .faulty => 3) ++ (u8 1 ++ u8 x.row ++
              u8 x.col ++ u8 (match x.cls with | .standard => 0 | .access => 1) ++
              u8 (match x.fault with | none => 0xFF | some _ => 0))) ++
          (match (s.seat n).bind Seat.occupant with
           | none => u8 0
           | some i => u8 1 ++ (match s.cand i with
             | none => [] | some c => u16 i ++ u24 c.number ++ u8 c.paper ++ u8 c.state.code)) ++
          u8 (((s.papers.find? (fun e => e.2.coll.target == some n)).map Prod.fst).getD 0xFF) ++
          (match s.loop n with
           | none => u8 0
           | some r => u8 1 ++ (u8 r.misses ++
              [r.presentIn, r.doneIn, r.callIn, r.keyIn].flatMap (fun i => u8 (match i.cond with
                | .inactive => 0 | .active => 1 | .unknown => 2)) ++
              flag r.call.isSome ++ u8 (match r.lamp with | none => 0xFF | some l => l.lamp.code))) ++
          (if mode = 0xFF then [] else u8 ns.length ++ ns.flatMap (fun e => u16 e.1 ++
            u8 (match e.2.state with | .enabled => 1 | .disabled => 2 | .faulty => 3) ++
            u8 (match e.2.occupant.bind s.cand with | none => 0xFF | some c => c.paper)))))) ∧
  (∀ (tag n mode : Nat) (x : Seat) (s : State), s.LinkFree → s.Bounded → mode ≤ 3 ∨ mode = 0xFF →
    s.seat n = some x → x.row < s.hall.rows → x.col < s.hall.cols → x.row ≤ 31 → x.col ≤ 31 →
    (∀ k y, s.seat k = some y → y.row = x.row → y.col = x.col → k = n) →
    exec (.seatRead tag 1 (x.row * 256 + x.col) mode) s = exec (.seatRead tag 0 n mode) s) ∧
  (∀ (tag row col mode : Nat) (s : State), s.LinkFree → mode ≤ 3 ∨ mode = 0xFF → row ≤ 31 → col ≤ 31 →
    (∀ k y, (k, y) ∈ s.seats → y.row ≠ row ∨ y.col ≠ col) ∨ s.hall.rows ≤ row ∨ s.hall.cols ≤ col →
    exec (.seatRead tag 1 (row * 256 + col) mode) s = .next (s.turnedDown 0x08 tag .notFound 0 0)) ∧
  (∀ (tag sel start : Nat) (s : State), s.LinkFree → start < 512 → sel = 0xFF ∨ sel < 8 ∧ s.paper sel ≠ none →
    exec (.collectionRead tag sel start) s = .next (State.replied s.pump 0x2A tag
      (u24 s.hallTime ++ listOf (fun e => u16 e.2 ++ u16 e.1.index ++ u24 e.1.number ++ u8 e.1.paper ++
          u16 (e.1.seat.getD 0xFFFF) ++ u24 e.1.time ++ u8 ((if e.1.flags.early then 1 else 0) +
            (if e.1.flags.walk then 2 else 0) + (if e.1.flags.deferred then 4 else 0) +
            (if e.1.flags.outOfOrder then 8 else 0) + (if e.1.flags.host then 16 else 0) +
            (if e.1.flags.found then 32 else 0)))
        ((s.collection.zipIdx.filter (fun e => start ≤ e.2 ∧ (sel = 0xFF ∨ e.1.paper = sel))).take 20) ++
        u16 s.collection.length ++
        u16 (let es := s.collection.zipIdx.filter (fun e => start ≤ e.2 ∧ (sel = 0xFF ∨ e.1.paper = sel))
          if es.length ≤ 20 then 0xFFFF else ((es.take 20).getLast?.map (fun e => e.2 + 1)).getD 0xFFFF))))

/-- FORMAT_READ and KEY_READ report, with hall time (R189), a paper's format as taken, with C, Q, the sheet size and each
block walk's smallest and largest address, and its key entries with generation and unwritten count; a slot, question number or
count out of range is refused with RANGE, an UNDEFINED slot with NOT_FOUND, a KEY_READ without a format with STATE and one
that reaches beyond Q with RANGE; neither changes anything (R162, R166; that the reply lays a format out as FORMAT_LOAD does
is log 15's). The bytes of a format are written out, in the order of FORMAT_LOAD's body, the channel mask as in GEOMETRY
(R138, R198, R199), and so are C, Q, the walks with their counts, the ID block's first, and their smallest and largest
addresses, a list with its count (R45, R46, R160, R198); that the ID block's pair is an entry of it is log 15's. -/
def Obligations.FormatAndKeyReads : Prop :=
  (∀ f : Format, f.bytes = [f.mask.extractLsb' 0 8, f.mask.extractLsb' 8 8, f.mask.extractLsb' 16 8,
      f.mask.extractLsb' 24 8, f.mask.extractLsb' 32 8, f.mask.extractLsb' 40 8] ++ u8 f.subSamples ++ u8 f.rows ++
    u8 f.refRow ++ u8 f.tBlank ++ u8 f.tMark ++ u8 f.margin ++
    u8 (match f.faint with | .asBlank => 0 | .asWrong => 1) ++ u8 (match f.multi with | .asBlank => 0 | .asWrong => 1) ++
    flag f.sectionFloor ++ s16 f.paperFloor ++ u16 f.idBlock.start ++ s16 f.idBlock.o1 ++ s16 f.idBlock.o2 ++
    u8 f.blocks.length ++ f.blocks.flatMap (fun b => u8 b.first ++ u8 b.count ++ u8 b.options ++ u16 b.walk.start ++
      s16 b.walk.o1 ++ s16 b.walk.o2)) ∧
  (∀ f : Format, f.channels = (List.range 48).countP (fun k => f.mask.getLsbD k) ∧
    f.questions = (f.blocks.map (fun b => b.count)).sum ∧
    f.walks = (f.idBlock, f.subSamples, 10, 6) :: f.blocks.map (fun b => (b.walk, f.subSamples, b.options, b.count))) ∧
  (∀ (w : BlockWalk) (L M H : Nat) (el em eh : Int), el = ((L : Int) - 1) * 1 → em = ((M : Int) - 1) * w.o1 →
    eh = ((H : Int) - 1) * w.o2 →
    w.lowest L M H = (w.start : Int) + (if el < 0 then el else 0) + (if em < 0 then em else 0) +
      (if eh < 0 then eh else 0) ∧
    w.highest L M H = (w.start : Int) + (if 0 < el then el else 0) + (if 0 < em then em else 0) +
      (if 0 < eh then eh else 0)) ∧
  (∀ (tag slot first count : Nat) (s : State), s.LinkFree →
    (8 ≤ slot → exec (.formatRead tag slot) s = .next (s.turnedDown 0x31 tag .range 0 0)) ∧
    (slot < 8 → s.paper slot = none → exec (.formatRead tag slot) s = .next (s.turnedDown 0x31 tag .notFound 0 0)) ∧
    (8 ≤ slot ∨ first = 0 ∨ 200 < first ∨ count = 0 ∨ 50 < count →
      exec (.keyRead tag slot first count) s = .next (s.turnedDown 0x33 tag .range 0 0)) ∧
    (slot < 8 → 1 ≤ first → first ≤ 200 → 1 ≤ count → count ≤ 50 →
      (s.paper slot = none → exec (.keyRead tag slot first count) s = .next (s.turnedDown 0x33 tag .notFound 0 0)) ∧
      (∀ p, s.paper slot = some p → p.format = none →
        exec (.keyRead tag slot first count) s = .next (s.turnedDown 0x33 tag .state 0 0)))) ∧
  ∀ (tag slot : Nat) (p : Paper) (s : State), s.LinkFree → slot < 8 → s.paper slot = some p →
    (p.format = none → exec (.formatRead tag slot) s = .next (State.replied s.pump 0x31 tag (u24 s.hallTime ++ [0]))) ∧
    (∀ f, p.format = some f → exec (.formatRead tag slot) s = .next (State.replied s.pump 0x31 tag
      (u24 s.hallTime ++ [1] ++ f.bytes ++ u8 f.channels ++ u8 f.questions ++ u16 (f.rows * f.channels * f.subSamples) ++
        u8 f.walks.length ++ f.walks.flatMap (fun w => u16 (w.1.lowest w.2.1 w.2.2.1 w.2.2.2).toNat ++
          u16 (w.1.highest w.2.1 w.2.2.1 w.2.2.2).toNat)))) ∧
    (∀ f first count, p.format = some f → 1 ≤ first → first ≤ 200 → 1 ≤ count → count ≤ 50 →
      exec (.keyRead tag slot first count) s = .next
        (if first + count - 1 ≤ f.questions then
          State.replied s.pump 0x33 tag (u24 s.hallTime ++ u16 p.generation ++ u8 (p.key.countP Option.isNone) ++
            listOf (fun e => match e with
              | none => [0]
              | some e => [1, e.keySet] ++ u8 e.weight ++ u8 e.penalty ++ u8 e.sect)
              ((p.key.drop (first - 1)).take count))
        else s.turnedDown 0x33 tag .range 0 0))

/-! ### The hall -/

/-- A HALL_CONFIG whose values are in range, with no job and no running paper, that cuts off no seat and no stored walk's
start, replaces every setting, clamping debounce to 4, the away limit to 1800 and the hold limit to 7200; every ENABLED seat
takes its inputs afresh, and nothing else changes; the reply carries the settings as taken. A value out of range is refused
with RANGE, a running paper, a seat outside the new grid and a stored walk that starts outside it with STATE; the BUSY of
check 2 is AllocateAndAbort's (R24, R25; the unknown states are log 36's, and that an occupant's present level stands is log
40's). -/
def Obligations.HallConfigReplacesTheSettings : Prop :=
  (∀ (tag : Nat) (a : HallConfigArgs) (s : State), s.LinkFree → ∀ inRange : Prop,
    inRange = (1 ≤ a.rows ∧ a.rows ≤ 32 ∧ 1 ≤ a.cols ∧ a.cols ≤ 32 ∧ a.presentPolarity ≤ 1 ∧ a.donePolarity ≤ 1 ∧
      a.callPolarity ≤ 1 ∧ a.keyPolarity ≤ 1 ∧ 1 ≤ a.presentDebounce ∧ 1 ≤ a.doneDebounce ∧ 1 ≤ a.callDebounce ∧
      1 ≤ a.keyDebounce ∧ a.callSense ≤ 1) →
    (¬ inRange → exec (.hallConfig tag a) s = .next (s.turnedDown 0x05 tag .range 0 0)) ∧
    (inRange → s.job = none →
      (∃ e ∈ s.papers, e.2.state = .reading ∨ e.2.state = .writing ∨ e.2.state = .extended) ∨
        (∃ e ∈ s.seats, a.rows ≤ e.2.row ∨ a.cols ≤ e.2.col) ∨
        (∃ e ∈ s.papers, ∃ w, e.2.defn.walk = some w ∧ (a.rows ≤ w.startRow ∨ a.cols ≤ w.startCol)) →
      exec (.hallConfig tag a) s = .next (s.turnedDown 0x05 tag .state 0 0))) ∧
  ∀ (tag : Nat) (a : HallConfigArgs) (s : State), s.LinkFree →
    (1 ≤ a.rows ∧ a.rows ≤ 32 ∧ 1 ≤ a.cols ∧ a.cols ≤ 32 ∧ a.presentPolarity ≤ 1 ∧ a.donePolarity ≤ 1 ∧
      a.callPolarity ≤ 1 ∧ a.keyPolarity ≤ 1 ∧ 1 ≤ a.presentDebounce ∧ 1 ≤ a.doneDebounce ∧ 1 ≤ a.callDebounce ∧
      1 ≤ a.keyDebounce ∧ a.callSense ≤ 1) →
    s.job = none → (∀ e ∈ s.papers, ¬ (e.2.state = .reading ∨ e.2.state = .writing ∨ e.2.state = .extended)) →
    (∀ e ∈ s.seats, e.2.row < a.rows ∧ e.2.col < a.cols) →
    (∀ e ∈ s.papers, ∀ w, e.2.defn.walk = some w → w.startRow < a.rows ∧ w.startCol < a.cols) →
    ∃ h : Hall,
      h.rows = a.rows ∧ h.cols = a.cols ∧
      h.presentConf = ⟨if a.presentPolarity = 0 then .activeHigh else .activeLow, min a.presentDebounce 4⟩ ∧
      h.doneConf = ⟨if a.donePolarity = 0 then .activeHigh else .activeLow, min a.doneDebounce 4⟩ ∧
      h.callConf = ⟨if a.callPolarity = 0 then .activeHigh else .activeLow, min a.callDebounce 4⟩ ∧
      h.keyConf = ⟨if a.keyPolarity = 0 then .activeHigh else .activeLow, min a.keyDebounce 4⟩ ∧
      h.callSense = (if a.callSense = 0 then .latch else .level) ∧
      h.awayLimit = min a.awayLimit 1800 ∧ h.holdLimit = min a.holdLimit 7200 ∧
      exec (.hallConfig tag a) s = .next (State.replied { s.pump with
        hall := h
        loops := s.loops.map (fun e => match s.seat e.1 with
          | some x => if x.state = .enabled then
              (e.1, { e.2 with
                presentIn := { e.2.presentIn with cond := .unknown }, doneIn := { e.2.doneIn with cond := .unknown }
                callIn := { e.2.callIn with cond := .unknown }, keyIn := { e.2.keyIn with cond := .unknown }
                fresh := true })
            else e
          | none => e) } 0x05 tag
        (u8 a.rows ++ u8 a.cols ++ u8 a.presentPolarity ++ u8 (min a.presentDebounce 4) ++ u8 a.donePolarity ++
          u8 (min a.doneDebounce 4) ++ u8 a.callPolarity ++ u8 (min a.callDebounce 4) ++ u8 a.keyPolarity ++
          u8 (min a.keyDebounce 4) ++ u8 a.callSense ++ u16 (min a.awayLimit 1800) ++ u16 (min a.holdLimit 7200) ++
          u16 s.seats.length))

/-- SEAT_DEFINE DEFINE of an UNDEFINED seat at a free position of the grid makes it ENABLED with no occupant, no fault and a
new loop record; of a defined, unoccupied seat it replaces position and class and keeps the rest; of an occupied seat it
changes nothing at the seat's own position and class and is refused with STATE at any other; the reply is the seat record as
taken, its fault cause coded by log 42 (R31, R32). REMOVE of an unoccupied seat drops it with its loop record and owes it a
closing poll, also during the reset sweep by log 44, and an occupied seat is refused with STATE, an UNDEFINED one with
NOT_FOUND (R33, R98). A seat number, class or position out of range is refused with RANGE, a position that another seat has
with CONFLICT; the BUSY is AllocateAndAbort's (R31, R33). Where no pass is in progress, or the removed seat ends it, the next
pass takes its list (R99, log 39). -/
def Obligations.SeatsAreDefinedAndRemoved : Prop :=
  (∀ (tag n row col cls : Nat) (s : State), s.LinkFree →
    (512 ≤ n ∨ 1 < cls ∨ s.hall.rows ≤ row ∨ s.hall.cols ≤ col →
      exec (.seatDefineDefine tag n row col cls) s = .next (s.turnedDown 0x06 tag .range 0 0)) ∧
    (512 ≤ n → exec (.seatDefineRemove tag n) s = .next (s.turnedDown 0x06 tag .range 0 0)) ∧
    (n < 512 → cls ≤ 1 → row < s.hall.rows → col < s.hall.cols → s.job = none →
      (∃ e ∈ s.seats, e.1 ≠ n ∧ e.2.row = row ∧ e.2.col = col) →
      exec (.seatDefineDefine tag n row col cls) s = .next (s.turnedDown 0x06 tag .conflict 0 0))) ∧
  ∀ (tag n row col cls : Nat) (s : State), s.LinkFree → n < 512 → s.job = none →
    (row < s.hall.rows → col < s.hall.cols → cls ≤ 1 →
      (∀ e ∈ s.seats, e.1 = n ∨ e.2.row ≠ row ∨ e.2.col ≠ col) →
      (s.seat n = none → ∀ seats, seats = Table.insert s.seats n
          ⟨row, col, if cls = 0 then .standard else .access, .enabled, none, none⟩ →
        exec (.seatDefineDefine tag n row col cls) s = .next (State.replied { s.pump with
        seats := seats
        passList := if s.passList = [] ∧ s.sweep = none ∧ s.window.all (fun w => w.closing) = true then
            (seats.filter (fun e => e.2.state ≠ .disabled)).map Prod.fst
          else s.passList
        loops := Table.insert s.loops n
          { misses := 0, presentIn := ⟨[], .unknown⟩, doneIn := ⟨[], .unknown⟩, callIn := ⟨[], .unknown⟩
            keyIn := ⟨[], .unknown⟩, fresh := true, call := none, answered := false, lamp := none }
        closing := s.closing.filter (fun k => k ≠ n) } 0x06 tag
        (u8 row ++ u8 col ++ u8 cls ++ [1] ++ u16 0xFFFF ++ [0xFF]))) ∧
      (∀ x, s.seat n = some x → ∀ record : SeatState → Option Nat → Option FaultCause → List Byte,
        record = (fun state occupant fault => u8 row ++ u8 col ++ u8 cls ++
          u8 (match state with | .enabled => 1 | .disabled => 2 | .faulty => 3) ++ u16 (occupant.getD 0xFFFF) ++
          u8 (match fault with | none => 0xFF | some _ => 0)) →
        (x.occupant = none → exec (.seatDefineDefine tag n row col cls) s = .next (State.replied
          (s.pump.modSeat n (fun _ => { x with row := row, col := col, cls := if cls = 0 then .standard else .access }))
          0x06 tag (record x.state none x.fault))) ∧
        (∀ i, s.Bounded → x.occupant = some i → exec (.seatDefineDefine tag n row col cls) s =
          .next (if x.row = row ∧ x.col = col ∧ x.cls = (if cls = 0 then .standard else .access) then
            State.replied s.pump 0x06 tag (record x.state (some i) x.fault)
          else s.turnedDown 0x06 tag .state 0 0)))) ∧
    (s.seat n = none → exec (.seatDefineRemove tag n) s = .next (s.turnedDown 0x06 tag .notFound 0 0)) ∧
    (∀ x i, s.seat n = some x → x.occupant = some i →
      exec (.seatDefineRemove tag n) s = .next (s.turnedDown 0x06 tag .state 0 0)) ∧
    (∀ x, s.seat n = some x → x.occupant = none → ∀ seats, seats = s.seats.filter (fun e => e.1 ≠ n) →
      exec (.seatDefineRemove tag n) s = .next (State.replied
        (if x.state = .disabled then { s.pump with seats := seats }
         else { s.pump with
          seats := seats, loops := Table.erase s.loops n
          closing := s.closing.filter (fun k => k ≠ n) ++ [n]
          passList := if s.passList.filter (fun k => k ≠ n) = [] ∧ s.sweep = none ∧
              s.window.all (fun w => w.closing || w.seat == n) = true then
              (seats.filter (fun e => e.2.state ≠ .disabled)).map Prod.fst
            else s.passList.filter (fun k => k ≠ n)
          window := s.window.map (fun w => if w.seat = n then { w with closing := true } else w) })
        0x06 tag (u8 x.row ++ u8 x.col)))

/-- SEAT_STATE by R34's table: ENABLE, DISABLE and CLEAR in each seat state, with and without an occupant, RANGE for a seat
number above 511, and NOT_FOUND for an UNDEFINED seat; a request that the table answers with STATE changes nothing (R34, R35,
R97, R98). What joining and leaving the polling order and an input taken afresh change is written out (R97 to R99, R102). A
pass that begins by it takes its list by log 39, a seat disabled during the reset sweep is owed a closing poll by log 44, and
the present level of the occupant of a seat that is cleared stands by log 40. -/
def Obligations.SeatStateFollowsItsTable : Prop :=
  (∀ (tag n : Nat) (s : State), s.LinkFree → 512 ≤ n →
    exec (.seatStateEnable tag n) s = .next (s.turnedDown 0x07 tag .range 0 0) ∧
    exec (.seatStateDisable tag n) s = .next (s.turnedDown 0x07 tag .range 0 0) ∧
    exec (.seatStateClear tag n) s = .next (s.turnedDown 0x07 tag .range 0 0)) ∧
  (∀ (s : State) (n : Nat) (order : List Nat), order = (s.seats.filter (fun e => e.2.state ≠ .disabled)).map Prod.fst →
    s.joinLoop n = { s with
      loops := Table.insert s.loops n
        { misses := 0, presentIn := ⟨[], .unknown⟩, doneIn := ⟨[], .unknown⟩, callIn := ⟨[], .unknown⟩
          keyIn := ⟨[], .unknown⟩, fresh := true, call := none, answered := false, lamp := none }
      closing := s.closing.filter (fun k => k ≠ n)
      passList := if s.passList = [] ∧ s.sweep = none ∧ s.window.all (fun w => w.closing) = true then order
        else s.passList } ∧
    s.leaveLoop n = { s with
      loops := Table.erase s.loops n
      closing := s.closing.filter (fun k => k ≠ n) ++ [n]
      passList := if s.passList.filter (fun k => k ≠ n) = [] ∧ s.sweep = none ∧
          s.window.all (fun w => w.closing || w.seat == n) = true then order else s.passList.filter (fun k => k ≠ n)
      window := s.window.map (fun w => if w.seat = n then { w with closing := true } else w) }) ∧
  (∀ r : LoopRec, r.toFresh = { r with
    presentIn := { r.presentIn with cond := .unknown }, doneIn := { r.doneIn with cond := .unknown }
    callIn := { r.callIn with cond := .unknown }, keyIn := { r.keyIn with cond := .unknown }, fresh := true }) ∧
  (∀ (tag n : Nat) (s : State), s.LinkFree → n < 512 → s.job = none → s.seat n = none →
    exec (.seatStateEnable tag n) s = .next (s.turnedDown 0x07 tag .notFound 0 0) ∧
    exec (.seatStateDisable tag n) s = .next (s.turnedDown 0x07 tag .notFound 0 0) ∧
    exec (.seatStateClear tag n) s = .next (s.turnedDown 0x07 tag .notFound 0 0)) ∧
  ∀ (tag n : Nat) (x : Seat) (s : State), s.LinkFree → n < 512 → s.job = none → s.seat n = some x →
    exec (.seatStateEnable tag n) s = .next
      (match x.state with
       | .enabled => State.replied s.pump 0x07 tag (u8 1 ++ u16 (x.occupant.getD 0xFFFF))
       | .disabled => State.replied ((s.pump.modSeat n (fun y => { y with state := .enabled })).joinLoop n) 0x07 tag
          (u8 1 ++ u16 (x.occupant.getD 0xFFFF))
       | .faulty => s.turnedDown 0x07 tag .state 0 0) ∧
    exec (.seatStateDisable tag n) s = .next
      (if x.state = .disabled then State.replied s.pump 0x07 tag (u8 2 ++ u16 (x.occupant.getD 0xFFFF))
       else if x.occupant ≠ none then s.turnedDown 0x07 tag .state 0 0
       else State.replied ((s.pump.modSeat n (fun y => { y with state := .disabled, fault := none })).leaveLoop n)
          0x07 tag (u8 2 ++ u16 0xFFFF)) ∧
    exec (.seatStateClear tag n) s = .next
      (match x.state with
       | .enabled => State.replied (s.pump.modLoop n (fun r => { r with misses := 0 })) 0x07 tag
          (u8 1 ++ u16 (x.occupant.getD 0xFFFF))
       | .disabled => s.turnedDown 0x07 tag .state 0 0
       | .faulty => State.replied
          (match x.occupant with
           | none => (s.pump.modSeat n (fun y => { y with state := .enabled, fault := none })).modLoop n
              (fun r => { r.toFresh with misses := 0 })
           | some i => ((s.pump.modSeat n (fun y => { y with state := .enabled, fault := none })).modLoop n
              (fun r => { r.toFresh with misses := 0 })).changeCand i
                (fun c => { c with flags := { c.flags with seatFault := false } }) .seat)
          0x07 tag (u8 1 ++ u16 (x.occupant.getD 0xFFFF)))

/-- The target test: a seat passes as the new seat of a candidate when it is ENABLED, unoccupied, ACCESS where the candidate needs
it, and has no neighbour under the paper's mode that a candidate of the paper holds, the candidate's own seat left out; the first
check that fails gives the code and detail, the last of them the lowest such neighbour's seat number (R30, R53, R62). -/
def Obligations.TargetTestFollowsItsTable : Prop :=
  ∀ (s : State) (n paper : Nat) (mode : Separation) (access : Bool) (own : Option Nat) (x : Seat) (blocks : Nat → Prop),
    s.Bounded → s.seat n = some x →
    blocks = (fun k => k ≠ n ∧ own ≠ some k ∧ ∃ y i c, s.seat k = some y ∧ y.occupant = some i ∧ s.cand i = some c ∧
      c.paper = paper ∧
      match mode with
      | .none => False
      | .row => x.row = y.row ∧ (x.col = y.col + 1 ∨ y.col = x.col + 1)
      | .grid => x.row = y.row ∧ (x.col = y.col + 1 ∨ y.col = x.col + 1) ∨
          x.col = y.col ∧ (x.row = y.row + 1 ∨ y.row = x.row + 1)
      | .diag => x.row = y.row ∧ (x.col = y.col + 1 ∨ y.col = x.col + 1) ∨
          (x.row = y.row + 1 ∨ y.row = x.row + 1) ∧ (x.col = y.col ∨ x.col = y.col + 1 ∨ y.col = x.col + 1)) →
    (s.targetFailure n paper mode access own = none ↔
      x.state = .enabled ∧ x.occupant = none ∧ (access = true → x.cls = .access) ∧ ∀ k, ¬ blocks k) ∧
    (∀ k, x.state = .enabled → x.occupant = none → (access = true → x.cls = .access) → blocks k →
      (∀ j, j < k → ¬ blocks j) → s.targetFailure n paper mode access own = some (.conflict, ⟨4, k⟩)) ∧
    (x.state ≠ .enabled → s.targetFailure n paper mode access own = some (.state, ⟨1, match x.state with
      | .enabled => 1 | .disabled => 2 | .faulty => 3⟩)) ∧
    (∀ i, x.state = .enabled → x.occupant = some i →
      s.targetFailure n paper mode access own = some (.conflict, ⟨2, i⟩)) ∧
    (x.state = .enabled → x.occupant = none → access = true → x.cls = .standard →
      s.targetFailure n paper mode access own = some (.conflict, ⟨3, 0⟩))

/-! ### Papers and candidates -/

/-- A PAPER_DEFINE in range, with a valid walk or none, no job for the slot and no other paper of its code, is taken with
R19's clamps: an UNDEFINED slot becomes a PLANNED paper with R20's fields, and a PLANNED paper without a seated candidate
takes the new definition, keeps its marking group, and every limit of its candidates is worked out again (R18 to R21, R6). The
first failing check of R18 refuses it: a value out of range with RANGE, where a presence byte above 1 counts as one by log 18;
a walk that is not valid with FORMAT; a code in use with CONFLICT; a paper that has started or has a seated candidate with
STATE; the BUSY of check 3 is AllocateAndAbort's. The 42 bytes `d.bytes` of the reply are written out in
PapersAndCandidatesAreReported. A seat walk is valid when each count lies in 1..64 and their product is at most 4096, the
start lies in the grid, each row and column component of E, O1 and O2 lies in -31..+31 (R39, R42), and the alternate byte is 0
or 1, which is log 41's. -/
def Obligations.PaperDefineTakesTheDefinition : Prop :=
  ∀ valid : SeatWalkArgs → Hall → Prop,
    valid = (fun w hall =>
      (1 ≤ w.countL ∧ w.countL ≤ 64 ∧ 1 ≤ w.countM ∧ w.countM ≤ 64 ∧ 1 ≤ w.countH ∧ w.countH ≤ 64) ∧
      w.countL * w.countM * w.countH ≤ 4096 ∧
      (w.startRow ≤ 31 ∧ w.startCol ≤ 31 ∧ w.startRow < hall.rows ∧ w.startCol < hall.cols) ∧
      (∀ z ∈ [w.eRow, w.eCol, w.o1Row, w.o1Col, w.o2Row, w.o2Col], -31 ≤ z ∧ z ≤ 31) ∧
      (w.alternate = 0 ∨ w.alternate = 1)) →
  (∀ (w : SeatWalkArgs) (hall : Hall), seatWalkValid w hall = true ↔ valid w hall) ∧
  (∀ (tag slot : Nat) (a : PaperArgs) (s : State), s.LinkFree →
    8 ≤ slot ∨ a.writing < 60 ∨ 28800 < a.writing ∨ 3 < a.separation ∨
      (∃ b ∈ a.code, b.toNat < 0x20 ∨ 0x7E < b.toNat) ∨ 1 < a.startPresent ∨ 16777215 < a.start ∨ 1 < a.walkPresent →
    exec (.paperDefine tag slot a) s = .next (s.turnedDown 0x10 tag .range 0 0)) ∧
  ∀ (tag slot : Nat) (a : PaperArgs) (s : State), s.LinkFree → slot < 8 → 60 ≤ a.writing → a.writing ≤ 28800 →
    a.separation ≤ 3 → (∀ b ∈ a.code, 0x20 ≤ b.toNat ∧ b.toNat ≤ 0x7E) → a.startPresent ≤ 1 → a.start ≤ 16777215 →
    (a.walkPresent = 1 → ¬ valid a.walk s.hall →
      exec (.paperDefine tag slot a) s = .next (s.turnedDown 0x10 tag .format 0 0)) ∧
    (a.walkPresent = 0 ∨ a.walkPresent = 1 ∧ valid a.walk s.hall → (∀ j, s.job = some j → j.paper ≠ slot) →
      ((∃ e ∈ s.papers, e.1 ≠ slot ∧ e.2.defn.code = a.code) →
        exec (.paperDefine tag slot a) s = .next (s.turnedDown 0x10 tag .conflict 0 0)) ∧
      (∀ p, (∀ e ∈ s.papers, e.1 = slot ∨ e.2.defn.code ≠ a.code) → s.paper slot = some p →
        p.state ≠ .planned ∨ (∃ e ∈ s.cands, e.2.paper = slot ∧ e.2.seat ≠ none) →
        exec (.paperDefine tag slot a) s = .next (s.turnedDown 0x10 tag .state 0 0))) ∧
    (a.walkPresent = 0 ∨ a.walkPresent = 1 ∧ valid a.walk s.hall →
    (∀ j, s.job = some j → j.paper ≠ slot) → (∀ e ∈ s.papers, e.1 = slot ∨ e.2.defn.code ≠ a.code) →
    ∃ d : PaperDef,
      d.code = a.code ∧ d.reading = min a.reading 1800 ∧ d.writing = a.writing ∧
      d.lateCutoff = min a.lateCutoff a.writing ∧ d.noLeaveFirst = min a.noLeaveFirst a.writing ∧
      d.noLeaveLast = min a.noLeaveLast a.writing ∧ d.warnA = min a.warnA 3600 ∧
      d.warnB = min a.warnB (min a.warnA 3600) ∧
      (match d.separation with | .none => 0 | .row => 1 | .grid => 2 | .diag => 3) = a.separation ∧
      d.collectTimeout = min a.collectTimeout 600 ∧
      d.start = (if a.startPresent = 1 then some a.start else none) ∧
      d.walk = (if a.walkPresent = 1 then some
        { startRow := a.walk.startRow, startCol := a.walk.startCol, e := ⟨a.walk.eRow, a.walk.eCol⟩
          o1 := ⟨a.walk.o1Row, a.walk.o1Col⟩, o2 := ⟨a.walk.o2Row, a.walk.o2Col⟩, countL := a.walk.countL
          countM := a.walk.countM, countH := a.walk.countH, alternate := a.walk.alternate == 1 } else none) ∧
      (s.paper slot = none →
        exec (.paperDefine tag slot a) s = .next (State.replied { s.pump with
          papers := Table.insert s.papers slot
            { defn := d, state := .planned, readingLeft := d.reading, elapsed := 0
              coll :=
                { state := .idle, cursor := ⟨0, 0, 0, d.walk.isNone⟩, target := none, timer := 0, admitted := 0
                  collected := 0, absent := 0, missing := 0 }
              format := none, key := [], generation := 0, marking := .notReady } } 0x10 tag (d.bytes ++ u16 0))) ∧
      (∀ p, s.paper slot = some p → p.state = .planned → (∀ e ∈ s.cands, e.2.paper = slot → e.2.seat = none) →
        exec (.paperDefine tag slot a) s = .next (State.replied
          { (s.pump.modPaper slot (fun q => { q with
              defn := d, state := .planned, readingLeft := d.reading, elapsed := 0,
              coll := ⟨.idle, ⟨0, 0, 0, d.walk.isNone⟩, none, 0, 0, 0, 0, 0⟩ })) with
            cands := s.cands.map (fun e : Nat × Cand => if e.2.paper = slot then
              (e.1, { e.2 with limit := (d.writing * (100 + e.2.allowance) + 99) / 100 }) else e) } 0x10 tag
          (d.bytes ++ u16 (s.cands.countP (fun e : Nat × Cand => e.2.paper = slot))))))

/-- A CAND_ADD that passes every check of R8 takes the lowest free index with R9's fields, the limit of R6 and a rest budget
of at most 3600; with a seat the candidate is SEATED there, with the seat's present level, and is the seat's occupant. Nothing
else changes. The first failing check refuses it: a value out of range with RANGE, an UNDEFINED slot with NOT_FOUND, a number
in use with CONFLICT, no free record with FULL, a paper that takes no candidate, none without a seat, or none so late with
STATE, and a seat that fails MOVE's target checks with their code and detail, an UNDEFINED one with NOT_FOUND
(TargetTestFollowsItsTable); the BUSY of check 1 is AllocateAndAbort's (R5, R6, R8 to R10, R61, R62). -/
def Obligations.CandAddTakesTheLowestIndex : Prop :=
  (∀ (tag number slot allowance needs restBudget seat : Nat) (s : State), s.LinkFree → s.job = none →
    ∀ (inRange : Prop) (refused : ResultCode → Nat → Nat → Prop),
    inRange = (1 ≤ number ∧ number ≤ 999999 ∧ slot < 8 ∧ allowance ≤ 100 ∧ needs ≤ 1 ∧ (seat < 512 ∨ seat = 0xFFFF)) →
    refused = (fun code detail value => exec (.candAdd tag number slot allowance needs restBudget seat) s =
      .next (s.turnedDown 0x12 tag code detail value)) →
    (¬ inRange → refused .range 0 0) ∧
    (inRange → s.paper slot = none → refused .notFound 0 0) ∧
    (∀ p, inRange → s.paper slot = some p →
      ((∃ e ∈ s.cands, e.2.number = number) → refused .conflict 0 0) ∧
      ((∀ e ∈ s.cands, e.2.number ≠ number) →
        ((∀ i, i < 512 → s.cand i ≠ none) → refused .full 0 0) ∧
        (∀ (i : Nat) (allowed : Prop), i < 512 → s.cand i = none →
          allowed = (p.state = .planned ∨ seat < 512 ∧ (p.state = .reading ∨
            (p.state = .writing ∨ p.state = .extended) ∧ p.elapsed ≤ p.defn.lateCutoff)) →
          (¬ allowed → refused .state 0 0) ∧
          (∀ code d, allowed → seat < 512 →
            s.targetFailure seat slot p.defn.separation (needs == 1) none = some (code, d) →
            refused code d.code d.value) ∧
          (allowed → seat < 512 → s.seat seat = none → refused .notFound 0 0))))) ∧
  ∀ (tag number slot allowance needs restBudget seat i : Nat) (p : Paper) (s : State), s.LinkFree →
    s.job = none → 1 ≤ number → number ≤ 999999 → slot < 8 → allowance ≤ 100 → needs ≤ 1 →
    s.paper slot = some p → (∀ e ∈ s.cands, e.2.number ≠ number) →
    i < 512 → s.cand i = none → (∀ j, j < i → s.cand j ≠ none) →
    (∀ u c, c = newCand number slot allowance (needs == 1) restBudget p.defn.writing (seatField seat)
        (((seatField seat).map s.seatPresent).getD false) → u = { s.pump with cands := Table.insert s.cands i c } →
      (seat = 0xFFFF → p.state = .planned → exec (.candAdd tag number slot allowance needs restBudget seat) s =
        .next (State.replied u 0x12 tag (u16 i ++ c.bytes i s.hallTime))) ∧
      (seat < 512 → p.state = .planned ∨ p.state = .reading ∨
          (p.state = .writing ∨ p.state = .extended) ∧ p.elapsed ≤ p.defn.lateCutoff →
        s.targetFailure seat slot p.defn.separation (needs == 1) none = none →
        exec (.candAdd tag number slot allowance needs restBudget seat) s =
          .next (State.replied (u.modSeat seat (fun x => { x with occupant := some i })) 0x12 tag
            (u16 i ++ c.bytes i s.hallTime)))) ∧
    (newCand number slot allowance (needs == 1) restBudget p.defn.writing (seatField seat)
        (((seatField seat).map s.seatPresent).getD false) =
      { number := number, paper := slot, allowance := allowance, needsAccess := needs == 1
        restBudget := min restBudget 3600, restUsed := 0, seat := if seat = 0xFFFF then none else some seat
        state := if seat = 0xFFFF then .unseated else .seated, finish := none
        limit := (p.defn.writing * (100 + allowance) + 99) / 100, used := 0
        flags := ⟨false, false, false, false, false, false, false⟩
        present := if seat = 0xFFFF then false else (s.loop seat).any (fun r => r.presentIn.cond == Level.active)
        result := none, awayCount := 0, awayReported := false })

/-- CAND_REMOVE frees the record of an UNSEATED candidate, without a WATCH_TRACE, and is refused with STATE for any other
(R11). CAND_WATCH sets or clears WATCH and reports how many records have it, with FULL for a seventeenth (R13). An index above
511 or a watch value other than on or off is refused with RANGE, a free record with NOT_FOUND. Nothing else changes. -/
def Obligations.CandRemoveAndWatch : Prop :=
  (∀ (tag i watch : Nat) (s : State), s.LinkFree →
    (s.job = none → 512 ≤ i → exec (.candRemove tag i) s = .next (s.turnedDown 0x13 tag .range 0 0)) ∧
    (s.job = none → i < 512 → s.cand i = none →
      exec (.candRemove tag i) s = .next (s.turnedDown 0x13 tag .notFound 0 0)) ∧
    (512 ≤ i ∨ 1 < watch → exec (.candWatch tag i watch) s = .next (s.turnedDown 0x15 tag .range 0 0)) ∧
    (i < 512 → watch ≤ 1 → s.cand i = none →
      exec (.candWatch tag i watch) s = .next (s.turnedDown 0x15 tag .notFound 0 0))) ∧
  ∀ (tag i : Nat) (c : Cand) (s : State), s.LinkFree → i < 512 → s.cand i = some c →
    (s.job = none → exec (.candRemove tag i) s = .next
      (if c.state = .unseated then
        State.replied { s.pump with cands := s.cands.filter (fun e => e.1 ≠ i) } 0x13 tag (u24 c.number)
      else s.turnedDown 0x13 tag .state 0 0)) ∧
    (∀ watch, watch ≤ 1 → exec (.candWatch tag i watch) s = .next
      (if watch = 1 ∧ c.flags.watch = false ∧ 16 ≤ s.cands.countP (fun e : Nat × Cand => e.2.flags.watch) then
        s.turnedDown 0x15 tag .full 0 0
      else State.replied (s.pump.modCand i (fun d => { d with flags := { d.flags with watch := watch == 1 } })) 0x15 tag
        (u8 ((s.cands.map (fun e =>
          if e.1 = i then watch == 1 else e.2.flags.watch)).countP (fun b => b)))))

/-! ### Allocation -/

/-- A taken ALLOCATE sets up the job with both lists in mind, and its first pass ends at once where its list is empty (R49,
R50, R55), an ALLOC_END of it posted before the reply is built by log 56. The first failing check of R49 refuses it: RANGE,
NOT_FOUND, FORMAT for a walk that is not a valid seat walk against the present grid (R39, R42; the alternate byte by log 41,
and see PaperDefineTakesTheDefinition), BUSY, STATE. An ALLOC_ABORT ends a running job as ABORTED with the counts of its pass,
and the job record is IDLE; with no job it is refused with STATE (R57). At the end of a job the scheduled start of its paper
is taken where it is due: the paper PLANNED, its start at or before hall time, the hall not held (R59, R72); that this holds
also right after a TIME_SET is log 52's. While a job runs, an ALLOCATE, MOVE, UNSEAT, CAND_ADD, CAND_REMOVE, SEAT_DEFINE,
SEAT_STATE and HALL_CONFIG, and a PAPER_DEFINE for its slot, are refused with BUSY at the check their rules give (R58). -/
def Obligations.AllocateAndAbort : Prop :=
  ∀ ended : State → Nat → JobOutcome → Nat → Nat → Nat → State,
    ended = (fun t slot outcome placed ua ug =>
      let e := { t with job := none, lastOutcome := some ⟨slot, outcome, placed, ua, ug, t.hallTime⟩ }.post slot
        (.allocEnd slot outcome placed ua ug)
      if (t.paper slot).any (fun p => p.state == .planned && p.defn.start.any (fun x => x ≤ t.hallTime)) = true ∧
        t.hold = none then e.startPaper slot .schedule else e) →
  (∀ (tag : Nat) (s : State), s.LinkFree → s.job = none →
    exec (.allocAbort tag) s = .next (s.turnedDown 0x19 tag .state 0 0)) ∧
  (∀ w : SeatWalkArgs, seatWalkTaken w =
    { startRow := w.startRow, startCol := w.startCol, e := ⟨w.eRow, w.eCol⟩, o1 := ⟨w.o1Row, w.o1Col⟩
      o2 := ⟨w.o2Row, w.o2Col⟩, countL := w.countL, countM := w.countM, countH := w.countH
      alternate := w.alternate == 1 }) ∧
  (∀ (tag slot spill : Nat) (w : SeatWalkArgs) (s : State), s.LinkFree →
    (8 ≤ slot ∨ 1 < spill → exec (.allocate tag slot w spill) s = .next (s.turnedDown 0x18 tag .range 0 0)) ∧
    (slot < 8 → spill ≤ 1 →
      (s.paper slot = none → exec (.allocate tag slot w spill) s = .next (s.turnedDown 0x18 tag .notFound 0 0)) ∧
      (∀ p, s.paper slot = some p →
        (¬ ((1 ≤ w.countL ∧ w.countL ≤ 64 ∧ 1 ≤ w.countM ∧ w.countM ≤ 64 ∧ 1 ≤ w.countH ∧ w.countH ≤ 64) ∧
            w.countL * w.countM * w.countH ≤ 4096 ∧
            (w.startRow ≤ 31 ∧ w.startCol ≤ 31 ∧ w.startRow < s.hall.rows ∧ w.startCol < s.hall.cols) ∧
            (∀ z ∈ [w.eRow, w.eCol, w.o1Row, w.o1Col, w.o2Row, w.o2Col], -31 ≤ z ∧ z ≤ 31) ∧
            (w.alternate = 0 ∨ w.alternate = 1)) →
          exec (.allocate tag slot w spill) s = .next (s.turnedDown 0x18 tag .format 0 0)) ∧
        (seatWalkValid w s.hall = true → s.job = none → p.state ≠ .planned →
          exec (.allocate tag slot w spill) s = .next (s.turnedDown 0x18 tag .state 0 0))))) ∧
  (∀ (tag slot spill : Nat) (w : SeatWalkArgs) (p : Paper) (s : State), s.LinkFree → slot < 8 → spill ≤ 1 →
    s.paper slot = some p → seatWalkValid w s.hall = true → s.job = none → p.state = .planned →
    ∃ u, exec (.allocate tag slot w spill) s = .next (State.replied u 0x18 tag
        (u16 (s.waitingList slot true).length ++ u16 (s.waitingList slot false).length)) ∧
      (s.waitingList slot true ≠ [] → u = { s.pump with job := (some
        { paper := slot, spill := spill == 1, walk := seatWalkTaken w, cursor := ⟨0, 0, 0, false⟩, pass := .access
          waiting := s.waitingList slot true, generalCount := (s.waitingList slot false).length, placed := 0
          unplacedAccess := 0 }) }) ∧
      (s.waitingList slot true = [] → s.waitingList slot false ≠ [] → u = { s.pump with job := (some
        { paper := slot, spill := spill == 1, walk := seatWalkTaken w, cursor := ⟨0, 0, 0, false⟩, pass := .general
          waiting := s.waitingList slot false, generalCount := 0, placed := 0, unplacedAccess := 0 }) }) ∧
      (s.waitingList slot true = [] → s.waitingList slot false = [] → u = ended s.pump slot .done 0 0 0)) ∧
  (∀ (s : State) (slot i : Nat) (access : Bool), s.Bounded →
    (i ∈ s.waitingList slot access ↔
      ∃ c, s.cand i = some c ∧ c.paper = slot ∧ c.state = .unseated ∧ c.needsAccess = access) ∧
    (s.waitingList slot access).Pairwise (fun i j => ∀ c d, s.cand i = some c → s.cand j = some d →
      c.number ≤ d.number)) ∧
  (∀ (tag : Nat) (j : Job) (s : State), s.LinkFree → s.job = some j →
    ∃ ua ug, (j.pass = .access → ua = j.waiting.length ∧ ug = j.generalCount) ∧
      (j.pass = .general → ua = j.unplacedAccess ∧ ug = j.waiting.length) ∧
      exec (.allocAbort tag) s = .next (State.replied (ended s.pump j.paper .aborted j.placed ua ug) 0x19 tag
        (u16 j.placed ++ u16 ua ++ u16 ug))) ∧
  (∀ (tag : Nat) (j : Job) (s : State), s.LinkFree → s.job = some j →
    (∀ slot spill w, slot < 8 → spill ≤ 1 → s.paper slot ≠ none → seatWalkValid w s.hall = true →
      exec (.allocate tag slot w spill) s = .next (s.turnedDown 0x18 tag .busy 0 0)) ∧
    (∀ i n, exec (.move tag i n) s = .next (s.turnedDown 0x1A tag .busy 0 0)) ∧
    (∀ i, exec (.unseat tag i) s = .next (s.turnedDown 0x1B tag .busy 0 0) ∧
      exec (.candRemove tag i) s = .next (s.turnedDown 0x13 tag .busy 0 0)) ∧
    (∀ number slot allowance needs restBudget seat, exec (.candAdd tag number slot allowance needs restBudget seat) s =
      .next (s.turnedDown 0x12 tag .busy 0 0)) ∧
    (∀ n, n < 512 →
      (∀ row col cls, row < s.hall.rows → col < s.hall.cols → cls ≤ 1 →
        exec (.seatDefineDefine tag n row col cls) s = .next (s.turnedDown 0x06 tag .busy 0 0)) ∧
      exec (.seatDefineRemove tag n) s = .next (s.turnedDown 0x06 tag .busy 0 0) ∧
      exec (.seatStateEnable tag n) s = .next (s.turnedDown 0x07 tag .busy 0 0) ∧
      exec (.seatStateDisable tag n) s = .next (s.turnedDown 0x07 tag .busy 0 0) ∧
      exec (.seatStateClear tag n) s = .next (s.turnedDown 0x07 tag .busy 0 0)) ∧
    (∀ a : HallConfigArgs, 1 ≤ a.rows → a.rows ≤ 32 → 1 ≤ a.cols → a.cols ≤ 32 → a.presentPolarity ≤ 1 →
      a.donePolarity ≤ 1 → a.callPolarity ≤ 1 → a.keyPolarity ≤ 1 → 1 ≤ a.presentDebounce → 1 ≤ a.doneDebounce →
      1 ≤ a.callDebounce → 1 ≤ a.keyDebounce → a.callSense ≤ 1 →
      exec (.hallConfig tag a) s = .next (s.turnedDown 0x05 tag .busy 0 0)) ∧
    (∀ a : PaperArgs, j.paper < 8 → 60 ≤ a.writing → a.writing ≤ 28800 → a.separation ≤ 3 →
      (∀ b ∈ a.code, 0x20 ≤ b.toNat ∧ b.toNat ≤ 0x7E) → a.startPresent ≤ 1 → a.start ≤ 16777215 →
      a.walkPresent = 0 ∨ a.walkPresent = 1 ∧ seatWalkValid a.walk s.hall = true →
      exec (.paperDefine tag j.paper a) s = .next (s.turnedDown 0x10 tag .busy 0 0)))

/-- One ALLOC_ADVANCE: an offered seat that is ENABLED, unoccupied, of the pass's class and separated takes the first waiting
candidate, who becomes SEATED there with the seat's present level; any other offered seat, and none at the end of the walk,
leaves all but the cursor (R43, R51 to R54). Where that places the last waiting candidate or exhausts the cursor the pass
ends: PASS_ACCESS becomes PASS_GENERAL with the list worked out anew and the cursor at the beginning, which ends at once with
an empty list; PASS_GENERAL ends the job, DONE with no one unplaced and PARTIAL otherwise, and a scheduled start that is due
is taken (R55, R56, R59, R72), also right after a TIME_SET by log 52. That the WATCH_TRACE of a placement comes before the
ALLOC_END of the job it ends is log 63's. -/
def Obligations.AllocAdvancePlacesOrDeclines : Prop :=
  ∀ (s t : State) (j : Job) (i placed : Nat) (rest waiting : List Nat) (cur : Cursor) (offered : Option Nat) (c : Cand)
    (p : Paper), s.resetLow = false → s.job = some j → j.waiting = i :: rest →
    s.advanceSeatWalk j.walk 4096 j.cursor = (cur, offered) → s.cand i = some c → c.state = .unseated →
    s.paper j.paper = some p →
    ∀ fits : Nat → Seat → Prop, fits = (fun n x => x.state = .enabled ∧ x.occupant = none ∧
        (j.pass = .access → x.cls = .access) ∧ (j.pass = .general → x.cls = .standard ∨ j.spill = true) ∧
        s.firstBlocking p.defn.separation j.paper n x none = none) →
    (((∀ n, offered = some n → ∃ x, s.seat n = some x ∧ ¬ fits n x) ∧ t = s.pump ∧ waiting = j.waiting ∧
        placed = j.placed) ∨
      (∃ n x, offered = some n ∧ s.seat n = some x ∧ fits n x ∧ waiting = rest ∧ placed = j.placed + 1 ∧
        t = (s.pump.modSeat n (fun y => { y with occupant := some i })).changeCand i (fun d => { d with
          seat := some n, state := .seated,
          present := (s.loop n).any (fun r : LoopRec => r.presentIn.cond == Level.active) }) (.request 0x18))) →
    ∀ (passEnds : Prop) (general : List Nat), passEnds = (waiting = [] ∨ cur.exhausted = true) →
      general = t.waitingList j.paper false →
    ∀ ended : Nat → Nat → State, ended = (fun ua ug =>
        let outcome := if ua = 0 ∧ ug = 0 then JobOutcome.done else .partly
        let e := { t with job := none, lastOutcome := some ⟨j.paper, outcome, placed, ua, ug, s.hallTime⟩ }.post j.paper
          (.allocEnd j.paper outcome placed ua ug)
        if p.state = .planned ∧ p.defn.start.any (fun a => a ≤ s.hallTime) = true ∧ s.hold = none then
          e.startPaper j.paper .schedule else e) →
      (¬ passEnds → exec .allocAdvance s =
        .next { t with job := some { j with cursor := cur, waiting := waiting, placed := placed } }.pump) ∧
      (passEnds → j.pass = .access → general ≠ [] → exec .allocAdvance s = .next { t with job := some { j with
        pass := .general, cursor := ⟨0, 0, 0, false⟩, waiting := general, generalCount := 0, placed := placed
        unplacedAccess := waiting.length } }.pump) ∧
      (passEnds → j.pass = .access → general = [] → exec .allocAdvance s = .next (ended waiting.length 0).pump) ∧
      (passEnds → j.pass = .general → exec .allocAdvance s = .next (ended j.unplacedAccess waiting.length).pump)

/-- The positions of a walk come in nested order, each once: after `n` advances of fewer than L x M x H the cursor names the `n`-th
position, the inner index running back in runs of odd middle index where the alternate flag is set, and the advance that takes
the last position marks the cursor exhausted and keeps its indices (R40, R41). An advance of a seat walk takes the position start plus
h times O2, m times O1 and l times E: the defined seat there, inside the grid, is offered with the cursor moved on, a position outside
the grid or an aisle is passed over in the same act, and an exhausted cursor offers nothing; an advance that offers nothing has
exhausted the walk (R40, R43). -/
def Obligations.WalkTakesPositionsInOrder : Prop :=
  ∀ (L M H : Nat) (alt : Bool) (n : Nat), 1 ≤ L → 1 ≤ M → 1 ≤ H →
    (n < L * M * H → (Cursor.next L M H alt)^[n] Cursor.start =
      { h := n / (L * M), m := n / L % M
        l := if alt = true ∧ n / L % M % 2 = 1 then L - 1 - n % L else n % L, exhausted := false }) ∧
    (L * M * H ≤ n → (Cursor.next L M H alt)^[n] Cursor.start =
      { h := H - 1, m := M - 1, l := if alt = true ∧ (M - 1) % 2 = 1 then 0 else L - 1, exhausted := true }) ∧
    (∀ (s : State) (w : SeatWalk) (c : Cursor) (fuel : Nat) (row col : Int),
      w.countL = L → w.countM = M → w.countH = H → w.alternate = alt →
      row = w.startRow + c.h * w.o2.row + c.m * w.o1.row + c.l * w.e.row →
      col = w.startCol + c.h * w.o2.col + c.m * w.o1.col + c.l * w.e.col →
      (c.exhausted = true → s.advanceSeatWalk w fuel c = (c, none)) ∧
      (c.exhausted = false →
        (∀ k x, s.Bounded → s.seat k = some x → x.row < s.hall.rows → x.col < s.hall.cols → (x.row : Int) = row →
          (x.col : Int) = col → (∀ j y, s.seat j = some y → y.row = x.row → y.col = x.col → j = k) →
          s.advanceSeatWalk w (fuel + 1) c = (Cursor.next L M H alt c, some k)) ∧
        (row < 0 ∨ (s.hall.rows : Int) ≤ row ∨ col < 0 ∨ (s.hall.cols : Int) ≤ col ∨
            (∀ e ∈ s.seats, (e.2.row : Int) ≠ row ∨ (e.2.col : Int) ≠ col) →
          s.advanceSeatWalk w (fuel + 1) c = s.advanceSeatWalk w fuel (Cursor.next L M H alt c))) ∧
      (L * M * H ≤ 4096 → c = (Cursor.next L M H alt)^[n] Cursor.start → ∀ c',
        s.advanceSeatWalk w 4096 c = (c', none) → c'.exhausted = true))

/-- A MOVE to a seat that passes the target test changes both seats' occupants and the candidate's seat, present level and
SEAT_FAULT flag, drops a call pending at the old seat and that seat's level-answered mark, and posts the WATCH_TRACE; a MOVE
to the seat held changes nothing; a target that fails is refused with the test's code and detail; the checks before refuse an
index or seat number above 511 with RANGE, a free record or an UNDEFINED seat with NOT_FOUND, and a candidate in any other
state, or of a paper whose walk runs, with STATE (R61 to R64, R113). An UNSEAT of a SEATED candidate makes the seat's occupant
and the candidate's seat absent, the candidate UNSEATED with present level inactive and SEAT_FAULT and CALL clear, drops a
pending call, and posts the WATCH_TRACE; a free record is refused with NOT_FOUND and any other candidate with STATE (R65,
R113). The level-answered mark at UNSEAT is log 20's, and that CALL_ENDED of the dropped call comes before the WATCH_TRACE is
log 50's. -/
def Obligations.MoveAndUnseatChangeSeats : Prop :=
  (∀ (tag i n : Nat) (s : State), s.LinkFree → s.job = none →
    (512 ≤ i ∨ 512 ≤ n → exec (.move tag i n) s = .next (s.turnedDown 0x1A tag .range 0 0)) ∧
    (i < 512 → n < 512 → s.cand i = none ∨ s.seat n = none →
      exec (.move tag i n) s = .next (s.turnedDown 0x1A tag .notFound 0 0)) ∧
    (∀ c x, i < 512 → n < 512 → s.cand i = some c → s.seat n = some x →
      (c.state = .unseated ∨ c.state = .absent ∨ c.state = .collected ∨ c.state = .missing ∨ c.state = .markPending ∨
        c.state = .marked) ∨ (∃ p, s.paper c.paper = some p ∧ p.coll.state = .walking) →
      exec (.move tag i n) s = .next (s.turnedDown 0x1A tag .state 0 0)) ∧
    (512 ≤ i → exec (.unseat tag i) s = .next (s.turnedDown 0x1B tag .range 0 0)) ∧
    (i < 512 → s.cand i = none → exec (.unseat tag i) s = .next (s.turnedDown 0x1B tag .notFound 0 0)) ∧
    (∀ c, i < 512 → s.cand i = some c → c.seat = none →
      exec (.unseat tag i) s = .next (s.turnedDown 0x1B tag .state 0 0))) ∧
  (∀ (tag i n old : Nat) (c : Cand) (x : Seat) (p : Paper) (s : State), s.LinkFree → s.job = none → i < 512 → n < 512 →
      s.cand i = some c → s.seat n = some x → s.paper c.paper = some p → c.seat = some old →
      c.state = .seated ∨ c.state = .reading ∨ c.state = .writing ∨ c.state = .resting ∨ c.state = .finished →
      p.coll.state ≠ .walking →
      (n = old → exec (.move tag i n) s = .next (State.replied s.pump 0x1A tag (u16 old ++ u16 n))) ∧
      (n ≠ old → ∀ u, u = (((s.pump.modSeat old (fun y => { y with occupant := none })).modSeat n
            (fun y => { y with occupant := some i })).modCand i (fun d => { d with
              seat := some n, present := s.seatPresent n, flags := { d.flags with seatFault := false } })).modLoop old
            (fun r => { r with call := none, answered := false }) →
        exec (.move tag i n) s = .next
          (match s.targetFailure n c.paper p.defn.separation c.needsAccess (some old) with
           | some (code, d) => s.turnedDown 0x1A tag code d.code d.value
           | none => State.replied ((if (s.loop old).any (fun r : LoopRec => r.call.isSome) then
              u.post 0 (.callEnded .dropped) else u).traceOne i c (.request 0x1A)) 0x1A tag (u16 old ++ u16 n)))) ∧
  (∀ (tag i old : Nat) (c : Cand) (s : State), s.LinkFree → s.job = none → i < 512 → s.cand i = some c →
      c.seat = some old → ∀ u, u = ((s.pump.modSeat old (fun y => { y with occupant := none })).modCand i (fun d => { d with
          seat := none, state := .unseated, present := false
          flags := { d.flags with seatFault := false, call := false } })).modLoop old
          (fun r => { r with call := none, answered := false }) →
      exec (.unseat tag i) s = .next
        (if c.state = .seated then State.replied ((if (s.loop old).any (fun r : LoopRec => r.call.isSome) then
            u.post 0 (.callEnded .dropped) else u).traceOne i c (.request 0x1B)) 0x1B tag (u16 old)
        else s.turnedDown 0x1B tag .state 0 0))

/-! ### Starting, admitting, finishing -/

/-- PAPER_START of a PLANNED paper, with no job for it and the hall not held, admits every SEATED candidate at its desk with
used 0 and LATE clear, makes the paper READING with its reading time, or WRITING where there is none, posts PAPER_STATE and
then the WATCH_TRACE notices; a slot above 7 is refused with RANGE, an UNDEFINED one with NOT_FOUND, with BUSY while a job
runs for it and with STATE otherwise. A scheduled start, `State.startPaper` with cause SCHEDULE, makes the same changes (R70,
R71, R77). -/
def Obligations.PaperStartAdmitsThosePresent : Prop :=
  ∀ started : State → Nat → Paper → PaperCause → State,
    started = (fun s slot p cause =>
      (({ s with
          cands := s.cands.map (fun e : Nat × Cand =>
            if e.2.paper = slot ∧ e.2.state = CandState.seated ∧ e.2.present = true then
              (e.1, { e.2 with state := (if 0 < p.defn.reading then .reading else .writing), used := 0 })
            else e) }.modPaper slot (fun q => { q with
            state := (if 0 < q.defn.reading then .reading else .writing), readingLeft := q.defn.reading, elapsed := 0,
            coll := { q.coll with admitted := (q.coll.admitted +
              s.cands.countP (fun e : Nat × Cand => e.2.paper = slot ∧ e.2.state = CandState.seated ∧
                e.2.present = true)) } })).postPaperState slot .planned cause).traceAll s.cands .paper) →
  (∀ (tag slot : Nat) (s : State), s.LinkFree →
    (8 ≤ slot → exec (.paperStart tag slot) s = .next (s.turnedDown 0x20 tag .range 0 0)) ∧
    (slot < 8 → s.paper slot = none → exec (.paperStart tag slot) s = .next (s.turnedDown 0x20 tag .notFound 0 0))) ∧
  (∀ (s : State) (slot : Nat) (p : Paper) (cause : PaperCause), s.paper slot = some p → p.state = .planned →
    s.startPaper slot cause = started s slot p cause) ∧
  ∀ (tag slot : Nat) (p : Paper) (s : State), s.LinkFree → slot < 8 → s.paper slot = some p →
    exec (.paperStart tag slot) s = .next
      (if (∃ j, s.job = some j ∧ j.paper = slot) then s.turnedDown 0x20 tag .busy 0 0
       else if p.state ≠ .planned ∨ s.hold ≠ none then s.turnedDown 0x20 tag .state 0 0
       else State.replied
        (started s.pump slot p .request) 0x20 tag
        (u8 (if 0 < p.defn.reading then 2 else 3) ++
          u16 (s.cands.countP (fun e : Nat × Cand => e.2.paper = slot ∧ e.2.state = CandState.seated ∧ e.2.present = true))))

/-- PAPER_ABANDON of a running paper finishes its READING, WRITING and RESTING candidates with ABANDONED, makes the SEATED
ones ABSENT and counts them, makes the paper ABANDONED with E_p and reading remaining kept, posts PAPER_STATE and the traces,
and starts an IDLE collection; a slot above 7 is refused with RANGE, an UNDEFINED one with NOT_FOUND, a paper that does not
run with STATE (R86, R87, R121). -/
def Obligations.PaperAbandonFinishesEveryone : Prop :=
  (∀ (tag slot : Nat) (s : State), s.LinkFree →
    (8 ≤ slot → exec (.paperAbandon tag slot) s = .next (s.turnedDown 0x21 tag .range 0 0)) ∧
    (slot < 8 → s.paper slot = none → exec (.paperAbandon tag slot) s = .next (s.turnedDown 0x21 tag .notFound 0 0))) ∧
  ∀ (tag slot : Nat) (p : Paper) (s : State), s.LinkFree → slot < 8 → s.paper slot = some p →
    exec (.paperAbandon tag slot) s = .next
      (if p.state = .reading ∨ p.state = .writing ∨ p.state = .extended then State.replied
        (((({ s.pump with
            cands := s.cands.map (fun e : Nat × Cand => if e.2.paper = slot then
              (e.1, if e.2.state = CandState.reading ∨ e.2.state = CandState.writing ∨ e.2.state = CandState.resting then
                { e.2 with
                  state := .finished, finish := some ⟨.abandoned, s.hallTime⟩,
                  flags := { e.2.flags with away := false }, awayCount := 0, awayReported := false }
              else if e.2.state = CandState.seated then { e.2 with state := .absent } else e.2) else e) }.modPaper slot
            (fun q => { q with
              state := .abandoned,
              coll := { q.coll with absent := (q.coll.absent +
                s.cands.countP (fun e : Nat × Cand => e.2.paper = slot ∧ e.2.state = CandState.seated)) } })).postPaperState slot p.state
            .request).traceAll s.cands .paper).startCollection slot .abandon) 0x21 tag
        (u16 (s.cands.countP (fun e : Nat × Cand => e.2.paper = slot ∧
          (e.2.state = CandState.reading ∨ e.2.state = CandState.writing ∨ e.2.state = CandState.resting))))
      else s.turnedDown 0x21 tag .state 0 0)

/-- ADMIT of a SEATED candidate: of a READING paper it becomes READING with used 0, of a WRITING or EXTENDED one WRITING with
used equal to E_p and LATE set, and the admitted count goes up by 1, held hall or not; where the credited used is the limit
the candidate finishes at once with TIME (log 21). An index above 511 is refused with RANGE, a free record with NOT_FOUND, any
other candidate with STATE (R78 to R80). -/
def Obligations.AdmitCreditsTheLateCandidate : Prop :=
  (∀ (tag i : Nat) (s : State), s.LinkFree →
    (512 ≤ i → exec (.admitCand tag i) s = .next (s.turnedDown 0x22 tag .range 0 0)) ∧
    (i < 512 → s.cand i = none → exec (.admitCand tag i) s = .next (s.turnedDown 0x22 tag .notFound 0 0))) ∧
  ∀ (tag i : Nat) (c : Cand) (p : Paper) (s : State), s.LinkFree → i < 512 → s.cand i = some c →
    s.paper c.paper = some p →
    (c.state = .seated → p.state = .reading → exec (.admitCand tag i) s = .next (State.replied
      ((s.pump.modPaper c.paper (fun q => { q with coll := { q.coll with admitted := q.coll.admitted + 1 } })).changeCand
        i (fun d => { d with state := .reading, used := 0 }) (.request 0x22)) 0x22 tag
      (u8 2 ++ u16 0 ++ flag c.flags.late))) ∧
    (c.state = .seated → p.state = .writing ∨ p.state = .extended → p.elapsed < c.limit →
      exec (.admitCand tag i) s = .next (State.replied
        ((s.pump.modPaper c.paper (fun q => { q with coll := { q.coll with admitted := q.coll.admitted + 1 } })).changeCand
          i (fun d => { d with state := .writing, used := p.elapsed, flags := { d.flags with late := true } })
          (.request 0x22)) 0x22 tag (u8 3 ++ u16 p.elapsed ++ [1]))) ∧
    (c.state = .seated → p.state = .writing ∨ p.state = .extended → c.limit ≤ p.elapsed →
      ∃ u c', exec (.admitCand tag i) s = .next (State.replied u 0x22 tag (u8 5 ++ u16 p.elapsed ++ [1])) ∧
        u.cand i = some c' ∧ c'.state = .finished ∧ c'.used = p.elapsed ∧ c'.flags.late = true ∧
        c'.finish = some ⟨.time, s.hallTime⟩) ∧
    (c.state ≠ .seated ∨ ¬ (p.state = .reading ∨ p.state = .writing ∨ p.state = .extended) →
      exec (.admitCand tag i) s = .next (s.turnedDown 0x22 tag .state 0 0))

/-- FINISH of a READING, WRITING or RESTING candidate writes reason FORCED and the hall time, clears AWAY with its count and
mark, and, where the paper is EXTENDED and no other candidate of it is active, the paper closes; an index above 511 is refused
with RANGE, a free record with NOT_FOUND, any other candidate with STATE (R76, R82, R83). -/
def Obligations.FinishEndsTheCandidate : Prop :=
  (∀ (tag i : Nat) (s : State), s.LinkFree →
    (512 ≤ i → exec (.finish tag i) s = .next (s.turnedDown 0x23 tag .range 0 0)) ∧
    (i < 512 → s.cand i = none → exec (.finish tag i) s = .next (s.turnedDown 0x23 tag .notFound 0 0))) ∧
  ∀ (tag i : Nat) (c : Cand) (s : State), s.LinkFree → i < 512 → s.cand i = some c → s.Bounded →
    (c.state = .reading ∨ c.state = .writing ∨ c.state = .resting →
      ∀ u, u = s.pump.changeCand i (fun d => { d with
          state := .finished, finish := some ⟨.forced, s.hallTime⟩, flags := { d.flags with away := false }
          awayCount := 0, awayReported := false }) (.request 0x23) →
      (∀ p, s.paper c.paper = some p → p.state ≠ .extended ∨ (∃ j d, j ≠ i ∧ s.cand j = some d ∧
          d.paper = c.paper ∧ (d.state = .reading ∨ d.state = .writing ∨ d.state = .resting)) →
        exec (.finish tag i) s = .next (State.replied u 0x23 tag (u16 c.used ++ u24 s.hallTime))) ∧
      (∀ p, s.paper c.paper = some p → p.state = .extended → (∀ j d, j ≠ i → s.cand j = some d →
          d.paper = c.paper → ¬ (d.state = .reading ∨ d.state = .writing ∨ d.state = .resting)) →
        exec (.finish tag i) s = .next (State.replied
          ((({ u with
              cands := u.cands.map (fun e : Nat × Cand => if e.2.paper = c.paper ∧ e.2.state = CandState.seated then
                (e.1, { e.2 with state := .absent }) else e) }.modPaper c.paper (fun q => { q with
                state := .closed,
                coll := { q.coll with absent := (q.coll.absent +
                  s.cands.countP (fun e : Nat × Cand => e.2.paper = c.paper ∧ e.2.state = CandState.seated)) } })).postPaperState c.paper
            .extended .lastFinish).traceAll u.cands (.request 0x23)) 0x23 tag (u16 c.used ++ u24 s.hallTime)))) ∧
    (¬ (c.state = .reading ∨ c.state = .writing ∨ c.state = .resting) →
      exec (.finish tag i) s = .next (s.turnedDown 0x23 tag .state 0 0))

/-! ### Script collection -/

/-- COLLECT_MARK of a FINISHED or MISSING candidate makes it COLLECTED, appends its entry with the HOST flag, and with EARLY,
DEFERRED and FOUND as R128 gives them, and counts it; an index above 511 is refused with RANGE, a free record with NOT_FOUND,
any other candidate with STATE. Away from the paper's target, in OUTSTANDING, the completeness test is applied; at the target,
the target is resolved and the walk advances. After an advance the collection is WALKING with a target; without one, and after
a collection in OUTSTANDING, it is COMPLETE where collected plus missing equals admitted, else OUTSTANDING, and a change posts
COLLECTION_STATE to the slot with both states, cause, target and counts (R126, R136). The notices stand in R127's order (R126
to R128, R131, R133). A KEY at the target does the same with the WALK flag (R129), and a KEY of a FINISHED candidate away from
it with EARLY, DEFERRED and OUT_OF_ORDER as R128 gives them, the walk left where it is (R130). One advance of the walk judges
the offered seat by R122's table: passed over, deferred, the target with timer 0, or deferred with COLLECT_SKIPPED at a FAULTY
seat (R122, R123). -/
def Obligations.CollectMarkTakesTheScript : Prop :=
  (∀ (tag i : Nat) (s : State), s.LinkFree →
    (512 ≤ i → exec (.collectMark tag i) s = .next (s.turnedDown 0x28 tag .range 0 0)) ∧
    (i < 512 → s.cand i = none → exec (.collectMark tag i) s = .next (s.turnedDown 0x28 tag .notFound 0 0))) ∧
  (∀ (s : State) (slot : Nat) (p : Paper) (cause : CollCause) (new : CollState), s.paper slot = some p →
    new = (if p.coll.target ≠ none then .walking
      else if p.coll.collected + p.coll.missing = p.coll.admitted then .complete else .outstanding) →
    s.settle slot cause = if p.coll.state = new then s else
      (s.modPaper slot (fun q => { q with coll := { q.coll with state := new } })).post slot
        (.collectionState p.coll.state new cause p.coll.target p.coll.admitted p.coll.collected p.coll.absent
          p.coll.missing)) ∧
  (∀ (s : State) (slot : Nat) (passed : List Passed), s.postPassed slot passed =
    passed.foldl (fun u x => (if x.fault then
      u.post slot (.collectSkipped slot x.seat x.index x.old.number .seatFault
        ((u.paper slot).bind (fun q => q.coll.target))) else u).traceOne x.index x.old .collection) s) ∧
  ∀ (tag i : Nat) (c : Cand) (p : Paper) (s : State), s.LinkFree → i < 512 → s.cand i = some c →
    s.paper c.paper = some p →
    (c.state = .finished ∨ c.state = .missing → p.coll.target = none ∨ p.coll.target ≠ c.seat →
      ∀ fl u, fl = (⟨p.coll.state == .idle, false, c.flags.deferred, false, true, c.state == .missing⟩ : EntryFlags) →
      u = { (s.pump.modCand i (fun d => { d with state := .collected })).modPaper c.paper (fun q => { q with coll :=
          { q.coll with
            collected := q.coll.collected + 1
            missing := if c.state = .missing then q.coll.missing - 1 else q.coll.missing } }) with
        collection := s.collection ++ [(⟨i, c.number, c.paper, c.seat, s.hallTime, fl⟩ : CollEntry)] } →
      exec (.collectMark tag i) s = .next (State.replied
        (let v := (u.post 0 (.scriptCollected s.collection.length i c.number c.paper c.seat fl p.coll.target)).traceOne
            i c (.request 0x28)
          if p.coll.state = .outstanding then v.settle c.paper .lastScript else v) 0x28 tag
        (u16 s.collection.length ++ u8 fl.code))) ∧
    (∀ n x fl u, c.state = .finished → c.seat = some n → p.coll.target ≠ some n → s.seat n = some x →
      x.occupant = some i → s.loop n ≠ none →
      fl = (⟨p.coll.state == .idle, false, c.flags.deferred, p.coll.state == .walking, false, false⟩ : EntryFlags) →
      u = { (s.modCand i (fun d => { d with state := .collected })).modPaper c.paper (fun q => { q with coll :=
          { q.coll with collected := q.coll.collected + 1 } }) with
        collection := s.collection ++ [(⟨i, c.number, c.paper, c.seat, s.hallTime, fl⟩ : CollEntry)] } →
      s.keyPress n =
        (let v := (u.post 0 (.scriptCollected s.collection.length i c.number c.paper c.seat fl p.coll.target)).traceOne
            i c .key
          if p.coll.state = .outstanding then v.settle c.paper .lastScript else v)) ∧
    (c.state ≠ .finished → c.state ≠ .missing →
      exec (.collectMark tag i) s = .next (s.turnedDown 0x28 tag .state 0 0)) ∧
    (∀ n, c.state = .finished ∨ c.state = .missing → p.coll.target = some n → c.seat = some n →
      ∀ taken : State → EntryFlags → Cause → State, taken = (fun s' fl cause =>
        let u : State := { (s'.modCand i (fun d => { d with state := .collected })).modPaper c.paper (fun q =>
          { q with coll := { q.coll with
            collected := q.coll.collected + 1
            missing := if c.state = .missing then q.coll.missing - 1 else q.coll.missing
            target := none, timer := 0 } }) with
          collection := s.collection ++ [(⟨i, c.number, c.paper, c.seat, s.hallTime, fl⟩ : CollEntry)] }
        let r := u.findTarget c.paper
        (((r.1.post 0 (.scriptCollected s.collection.length i c.number c.paper c.seat fl
          ((r.1.paper c.paper).bind (fun q => q.coll.target)))).traceOne i c cause).postPassed c.paper r.2).settle
            c.paper .walkEnd) →
      (∀ fl, fl = (⟨p.coll.state == .idle, false, c.flags.deferred, false, true, c.state == .missing⟩ : EntryFlags) →
        exec (.collectMark tag i) s = .next (State.replied (taken s.pump fl (.request 0x28)) 0x28 tag
          (u16 s.collection.length ++ u8 fl.code))) ∧
      (∀ x, s.seat n = some x → x.occupant = some i → s.keyPress n = if (s.loop n).isNone then s else
        taken s ⟨p.coll.state == .idle, true, c.flags.deferred, false, false, false⟩ .key)) ∧
    (∀ (slot fuel : Nat) (q : Paper) (w : SeatWalk) (cur : Cursor) (offered : Option Nat) (t : State)
        (passed : List Passed), s.paper slot = some q → q.defn.walk = some w →
      s.advanceSeatWalk w 4096 q.coll.cursor = (cur, offered) →
      t = s.modPaper slot (fun r => { r with coll := { r.coll with cursor := cur } }) →
      s.findTarget slot = State.walkOn slot 4097 (s, []) ∧
      (offered = none → State.walkOn slot (fuel + 1) (s, passed) = (t, passed)) ∧
      (∀ n x, offered = some n → s.seat n = some x →
        (x.occupant = none → State.walkOn slot (fuel + 1) (s, passed) = State.walkOn slot fuel (t, passed)) ∧
        (∀ k d, x.occupant = some k → s.cand k = some d →
          (d.paper = slot → d.state = .reading ∨ d.state = .writing ∨ d.state = .resting →
            State.walkOn slot (fuel + 1) (s, passed) = State.walkOn slot fuel
              (t.modCand k (fun e => { e with flags := { e.flags with deferred := true } }),
                passed ++ [⟨k, d, n, false⟩])) ∧
          (d.paper = slot → d.state = .finished → d.flags.deferred = false → x.state = .enabled →
            State.walkOn slot (fuel + 1) (s, passed) =
              (t.modPaper slot (fun r => { r with coll := { r.coll with target := some n, timer := 0 } }), passed)) ∧
          (d.paper = slot → d.state = .finished → d.flags.deferred = false → x.state = .faulty →
            State.walkOn slot (fuel + 1) (s, passed) = State.walkOn slot fuel
              (t.modCand k (fun e => { e with flags := { e.flags with deferred := true } }),
                passed ++ [⟨k, d, n, true⟩])) ∧
          (d.paper ≠ slot ∨ d.state = .unseated ∨ d.state = .seated ∨ d.state = .absent ∨ d.state = .collected ∨
              d.state = .missing ∨ d.state = .markPending ∨ d.state = .marked ∨
              d.state = .finished ∧ d.flags.deferred = true →
            State.walkOn slot (fuel + 1) (s, passed) = State.walkOn slot fuel (t, passed)))))

/-- COLLECT_CLOSE of a collection that has started, with no active candidate, resolves the target, marks the cursor exhausted
with its indices kept, makes every FINISHED candidate of the paper MISSING with the MISSING flag and counts them, posts their
traces and makes the collection COMPLETE; a slot above 7 is refused with RANGE, an UNDEFINED one with NOT_FOUND, and in IDLE
or with an active candidate it is refused with STATE (R134). A change of the collection state writes it and posts
COLLECTION_STATE to the slot with both states, the cause, the target and the counts; a state that is already held changes
nothing (R136). The collection of a paper starts only from IDLE: the walk advances to its first target, and the state is
settled by CollectMarkTakesTheScript's test; a paper without a walk has the completeness test applied at once (R121, R126).
That its COLLECT_SKIPPED notices stand before all traces is log 45's. -/
def Obligations.CollectCloseMakesTheRestMissing : Prop :=
  (∀ (tag slot : Nat) (s : State), s.LinkFree →
    (8 ≤ slot → exec (.collectClose tag slot) s = .next (s.turnedDown 0x29 tag .range 0 0)) ∧
    (slot < 8 → s.paper slot = none → exec (.collectClose tag slot) s = .next (s.turnedDown 0x29 tag .notFound 0 0))) ∧
  (∀ (s : State) (slot : Nat) (p : Paper) (new : CollState) (cause : CollCause), s.paper slot = some p →
    s.setColl slot new cause = if p.coll.state = new then s else
      (s.modPaper slot (fun q => { q with coll := { q.coll with state := new } })).post slot
        (.collectionState p.coll.state new cause p.coll.target p.coll.admitted p.coll.collected p.coll.absent
          p.coll.missing)) ∧
  (∀ (s t : State) (slot : Nat) (p : Paper) (cause : CollCause) (passed : List Passed), s.paper slot = some p →
    s.findTarget slot = (t, passed) →
    (p.coll.state ≠ .idle → s.startCollection slot cause = s) ∧
    (p.coll.state = .idle → s.startCollection slot cause =
      ((passed.foldl (fun u x => if x.fault then
        u.post slot (.collectSkipped slot x.seat x.index x.old.number .seatFault
          ((u.paper slot).bind (fun q => q.coll.target))) else u) t).traceAll s.cands .collection).settle slot cause) ∧
    (p.coll.state = .idle → p.defn.walk = none → s.Bounded → p.coll.target = none →
      s.startCollection slot cause = s.setColl slot
        (if p.coll.collected + p.coll.missing = p.coll.admitted then .complete else .outstanding) cause)) ∧
  ∀ (tag slot : Nat) (p : Paper) (s : State), s.LinkFree → slot < 8 → s.paper slot = some p →
    exec (.collectClose tag slot) s = .next
      (if p.coll.state = .idle ∨ (∃ e ∈ s.cands, e.2.paper = slot ∧
          (e.2.state = CandState.reading ∨ e.2.state = CandState.writing ∨ e.2.state = CandState.resting)) then s.turnedDown 0x29 tag .state 0 0
      else if p.coll.state = .complete then
        State.replied s.pump 0x29 tag (u16 0 ++ u16 p.coll.collected ++ u16 p.coll.missing)
      else State.replied
        ((({ s.pump with
            cands := s.cands.map (fun e : Nat × Cand => if e.2.paper = slot ∧ e.2.state = CandState.finished then
              (e.1, { e.2 with state := .missing, flags := { e.2.flags with missing := true } }) else e) }.modPaper slot
            (fun q => { q with coll := { q.coll with
              target := none, timer := 0, cursor := { q.coll.cursor with exhausted := true }
              missing := (q.coll.missing +
                s.cands.countP (fun e : Nat × Cand => e.2.paper = slot ∧ e.2.state = CandState.finished)) } })).traceAll s.cands
            (.request 0x29)).setColl slot .complete .request) 0x29 tag
        (u16 (s.cands.countP (fun e : Nat × Cand => e.2.paper = slot ∧ e.2.state = CandState.finished)) ++ u16 p.coll.collected ++
          u16 (p.coll.missing + s.cands.countP (fun e : Nat × Cand => e.2.paper = slot ∧ e.2.state = CandState.finished))))

/-! ### The seat loop -/

/-- SEAT_POLL with no window open, the reset sweep over and no closing poll due polls the next seat of the pass's list, which
is taken afresh at the end of a pass (log 39): the four bytes carry seat, blink flag and lamp and sum to 0xFF, the lamp is
recorded and the window opens; the four bytes with their twelve lamp codes, the record and the window are R98 to R102's. With
a window open, a sweep or a closing poll due, or an empty list there is no poll to send, and that the command then changes
nothing is the model's choice, log 5. The lamp is OFF at a FAULTY seat, else CALLED, HOLD, COLLECT or the state lamp, in that
order (R116 to R118). -/
def Obligations.SeatPollSendsTheLamp : Prop :=
  [Lamp.off, .idle, .await, .read, .write, .warnA, .warnB, .rest, .finished, .collect, .called, .hold].map Lamp.code =
    [0, 1, 2, 3, 4, 5, 6, 7, 8, 9, 10, 11] ∧
  (∀ (s : State) (n : Nat) (rest : List Nat), s.resetLow = false → s.window = none → s.sweep = none → s.closing = [] →
    s.passList = n :: rest →
    ∃ check : Byte,
      BitVec.ofNat 8 (128 + n / 256) + BitVec.ofNat 8 n +
        BitVec.ofNat 8 ((if (s.pollLamp n).blink then 16 else 0) + (s.pollLamp n).lamp.code) + check = 0xFF ∧
      exec .seatPoll s = .next ({ s.pump.modLoop n (fun r => { r with lamp := some (s.pollLamp n) }) with
        passList := rest, window := some ⟨n, false, false⟩
        pollFrame := some
          [BitVec.ofNat 8 (128 + n / 256), BitVec.ofNat 8 n,
            BitVec.ofNat 8 ((if (s.pollLamp n).blink then 16 else 0) + (s.pollLamp n).lamp.code), check] }).pump) ∧
  (∀ s : State, s.resetLow = false → s.window ≠ none ∨ s.sweep ≠ none ∨ s.closing ≠ [] ∨ s.passList = [] →
    exec .seatPoll s = .next s.pump) ∧
  (∀ (s : State) (n : Nat) (x : Seat) (r : LoopRec), s.seat n = some x → s.loop n = some r →
    (x.state = .faulty → s.pollLamp n = ⟨.off, false⟩) ∧
    (x.state = .enabled →
      (r.call ≠ none → s.pollLamp n = ⟨.called, true⟩) ∧
      (r.call = none → s.hold ≠ none → s.pollLamp n = ⟨.hold, false⟩) ∧
      (r.call = none → s.hold = none → (∃ e ∈ s.papers, e.2.coll.target = some n) → s.pollLamp n = ⟨.collect, true⟩) ∧
      (r.call = none → s.hold = none → (∀ e ∈ s.papers, e.2.coll.target ≠ some n) →
        (x.occupant = none → s.pollLamp n = ⟨.idle, false⟩) ∧
        ∀ i c p, x.occupant = some i → s.cand i = some c → s.paper c.paper = some p →
          (c.state = .seated → s.pollLamp n = ⟨.await, false⟩) ∧
          (c.state = .reading → s.pollLamp n = ⟨.read, false⟩) ∧
          (c.state = .writing → s.pollLamp n =
            if c.limit - c.used ≤ p.defn.warnB then ⟨.warnB, true⟩
            else if c.limit - c.used ≤ p.defn.warnA then ⟨.warnA, false⟩ else ⟨.write, false⟩) ∧
          (c.state = .resting → s.pollLamp n = ⟨.rest, false⟩) ∧
          (c.state = .absent → s.pollLamp n = ⟨.off, false⟩) ∧
          (c.state = .finished ∨ c.state = .collected ∨ c.state = .missing ∨ c.state = .markPending ∨
            c.state = .marked → s.pollLamp n = ⟨.finished, false⟩))))

/-- CLOSING_POLL polls the next seat of the reset sweep and, after it, the first seat that left, with lamp OFF, code 0 with
blink clear, in the four bytes of R100; the end of its window counts nothing, and the last window of the sweep ends the sweep
(R98). That no closing poll changes a lamp last commanded, also of a seat defined during the sweep, is log 57's. Where the end
of a window ends a pass, the next pass takes its list of ENABLED and FAULTY seats in ascending order at once (R99, log 39).
MISSED_REPLY counts a miss of an ENABLED or FAULTY seat, up to 255; the third in a row of an ENABLED seat makes it FAULTY with
NO_REPLY, sets the occupant's SEAT_FAULT and posts SEAT_FAULTED, then the WATCH_TRACE, and where a walk waits at the seat it
passes on (R36, R103, R125), its notices in log 45's order. -/
def Obligations.ClosingPollsAndMissedReplies : Prop :=
  ∀ (ended : State → State) (poll : Nat → List Byte),
  (poll = fun n => [BitVec.ofNat 8 (128 + n / 256), BitVec.ofNat 8 n, 0,
    0xFF - BitVec.ofNat 8 (128 + n / 256) - BitVec.ofNat 8 n]) →
  (ended = fun s => { s.pump with
    window := none
    sweep := if s.sweep = some 512 then none else s.sweep
    passList := if s.passList = [] ∧ (s.sweep = none ∨ s.sweep = some 512) then
        (s.seats.filter (fun e => e.2.state ≠ .disabled)).map Prod.fst
      else s.passList }) →
  (∀ (s : State) (n : Nat), s.resetLow = false → s.window = none →
    (n < 512 → s.sweep = some n → exec .closingPoll s = .next ({ s.pump with
      pollFrame := some (poll n), window := some ⟨n, true, false⟩, sweep := some (n + 1) }).pump) ∧
    (∀ rest, s.sweep = none → s.closing = n :: rest → exec .closingPoll s = .next ({ s.pump with
      pollFrame := some (poll n), window := some ⟨n, true, false⟩, closing := rest }).pump)) ∧
  (∀ (s : State) (n : Nat) (spoiled : Bool), s.resetLow = false → s.window = some ⟨n, true, spoiled⟩ →
    exec .missedReply s = .next (ended s)) ∧
  (∀ (s : State) (n : Nat) (spoiled : Bool) (x : Seat) (r : LoopRec), s.resetLow = false →
    s.window = some ⟨n, false, spoiled⟩ → s.seat n = some x → s.loop n = some r → x.state ≠ .disabled →
    ∀ u, u = (ended s).modLoop n (fun q => { q with misses := min (q.misses + 1) 255 }) →
      (x.state = .faulty ∨ r.misses ≠ 2 → exec .missedReply s = .next u.pump) ∧
      (x.state = .enabled → r.misses = 2 → ∀ v, v = u.modSeat n (fun y => { y with
          state := .faulty, fault := some .noReply }) →
        (x.occupant = none → (∀ e ∈ s.papers, e.2.coll.target ≠ some n) → exec .missedReply s =
          .next ((v.post 0 (.seatFaulted n x.row x.col none)).pump)) ∧
        (∀ i c, x.occupant = some i → s.cand i = some c →
          ∀ w, w = (((v.modCand i (fun d => { d with flags := { d.flags with seatFault := true } })).post 0
              (.seatFaulted n x.row x.col (some (i, c.paper)))).traceOne i c .seat) →
          ((∀ e ∈ s.papers, e.2.coll.target ≠ some n) → exec .missedReply s = .next w.pump) ∧
          (∀ slot p, s.paper slot = some p → p.coll.target = some n →
            (∀ e ∈ s.papers, e.2.coll.target = some n → e.1 = slot) →
            exec .missedReply s = .next ((w.skipTarget slot .seatFault).pump)))))

/-- GOOD_REPLY at the polled seat sets the miss count to 0 and ends the window, and with it perhaps the pass (R99, log 39); in the
window of a closing poll it is discarded and the window stays open (R98). Three bytes that are no good reply leave the window open
to end as a missed reply, and what follows them in it is discarded (R102, log 37). From a FAULTY seat it does nothing else (R104). At
an ENABLED seat with the fresh-take mark every input is taken afresh, the occupant's present level is written, a CALL flag
without a call is cleared and no edge arises (R107, R113). Otherwise one sample of each input joins its history, its conditioned
state changes when the newest k samples agree, and the edges are decoded in order (R105, R106, R108). -/
def Obligations.GoodReplySamplesTheInputs : Prop :=
  ∀ (s u0 : State) (n : Nat) (b0 b1 b2 : Byte), s.resetLow = false → s.Bounded → b0 + b1 + b2 = 0xFF →
    b0.toNat + (if b1.msb then 256 else 0) = n →
    u0 = { s.pump with
      window := none
      sweep := if s.sweep = some 512 then none else s.sweep
      passList := if s.passList = [] ∧ (s.sweep = none ∨ s.sweep = some 512) then
          (s.seats.filter (fun e => e.2.state ≠ .disabled)).map Prod.fst
        else s.passList } →
    (∀ spoiled, s.window = some ⟨n, true, spoiled⟩ → exec (.goodReply b0 b1 b2) s = .next s.pump) ∧
    (s.window = some ⟨n, false, true⟩ → exec (.goodReply b0 b1 b2) s = .next s.pump) ∧
    (∀ x r, s.window = some ⟨n, false, false⟩ → s.seat n = some x → s.loop n = some r →
      (x.state = .faulty → exec (.goodReply b0 b1 b2) s =
        .next (u0.modLoop n (fun q => { q with misses := 0 })).pump) ∧
      (x.state = .enabled → ∃ r' : LoopRec, r'.misses = 0 ∧ r'.call = r.call ∧ r'.lamp = r.lamp ∧ r'.fresh = false ∧
        r'.answered = (r.answered && !r.fresh) ∧
        (∀ (conf : InputConf) (i i' : InputRec) (bit a : Bool), (conf, i, i', bit) ∈
            [(s.hall.presentConf, r.presentIn, r'.presentIn, b1.getLsbD 0),
             (s.hall.doneConf, r.doneIn, r'.doneIn, b1.getLsbD 1), (s.hall.callConf, r.callIn, r'.callIn, b1.getLsbD 2),
             (s.hall.keyConf, r.keyIn, r'.keyIn, b1.getLsbD 3)] →
          a = (bit != (conf.polarity == .activeLow)) →
          (r.fresh = true → i'.hist = List.replicate 4 a ∧ i'.cond = if a then .active else .inactive) ∧
          (r.fresh = false → i'.hist = (a :: i.hist).take 4 ∧
            i'.cond = (if conf.debounce ≤ (a :: i.hist.take 3).length ∧
                (∀ k, k < conf.debounce → (a :: i.hist)[k]? = some a) then (if a then .active else .inactive)
              else i.cond))) ∧
        ∀ u v : State, u = u0.modLoop n (fun _ => r') →
          (x.occupant = none ∧ v = u ∨ ∃ i c, x.occupant = some i ∧ s.cand i = some c ∧
            v = u.changeCand i (fun d => { d with
              present := if r.fresh = false ∧ r.presentIn.cond = r'.presentIn.cond then d.present
                else r'.presentIn.cond == .active
              flags := { d.flags with call := d.flags.call && r.call.isSome } }) .call) →
          exec (.goodReply b0 b1 b2) s =
            .next (if r.fresh then v else v.decodeEdges n r r').pump)) ∧
    (s.window = some ⟨n, false, false⟩ → ∀ c0 c1 c2 : Byte,
      c0 + c1 + c2 ≠ 0xFF ∨ c0.toNat + (if c1.msb then 256 else 0) ≠ n →
      exec (.goodReply c0 c1 c2) s = .next { s.pump with window := some ⟨n, false, true⟩ })

/-- The edges of a reply, each by its table: PRESENT rising admits a SEATED occupant of a READING paper with used 0, of a
WRITING or EXTENDED one late with used E_p, who finishes at once where that is the limit (log 21), and does nothing for one of
a paper in another state; it is refused for an ABSENT one of a WRITING, EXTENDED or CLOSED paper, and ends an absence; PRESENT
falling begins one (R78, R90, R91); DONE is accepted inside the leave window, with the finish EARLY, and refused with the
first reason outside it (R84); a finish by any reason writes reason and hall time, clears AWAY, and closes an EXTENDED paper
that has no other active candidate (R76, R82), where the order of the finisher's trace, PAPER_STATE and the traces of the
candidates made ABSENT, and the finish's cause on those, are log 22's; CALL raises a call, and its falling edge withdraws a
LEVEL one (R111, R112); KEY does the one thing of R114's table; what taking a script does is the statement
CollectMarkTakesTheScript's. The edges of one reply are taken in the order PRESENT, DONE, CALL, KEY, each against the records
as the one before it left them; falling edges of DONE and KEY, and PRESENT and DONE edges at a seat without an occupant, are
dropped (R108 to R110). -/
def Obligations.EdgesFollowTheirTables : Prop :=
  (∀ (s a b c : State) (n : Nat) (old new : LoopRec) (rise fall : InputRec → InputRec → Prop) (occupant : State → Option Nat),
    rise = (fun x y => x.cond = .inactive ∧ y.cond = .active) → fall = (fun x y => x.cond = .active ∧ y.cond = .inactive) →
    occupant = (fun t => (t.seat n).bind Seat.occupant) →
    ((occupant s = none ∨ ¬ rise old.presentIn new.presentIn ∧ ¬ fall old.presentIn new.presentIn) ∧ a = s ∨
      ∃ i, occupant s = some i ∧ (rise old.presentIn new.presentIn ∧ a = s.presentRise i ∨
        fall old.presentIn new.presentIn ∧ a = s.presentFall i)) →
    ((occupant a = none ∨ ¬ rise old.doneIn new.doneIn) ∧ b = a ∨
      ∃ i, occupant a = some i ∧ rise old.doneIn new.doneIn ∧ b = a.leaveRequest i) →
    (¬ rise old.callIn new.callIn ∧ ¬ fall old.callIn new.callIn ∧ c = b ∨ rise old.callIn new.callIn ∧ c = b.callRise n ∨
      fall old.callIn new.callIn ∧ c = b.callFall n) →
    (rise old.keyIn new.keyIn → s.decodeEdges n old new = c.keyPress n) ∧
    (¬ rise old.keyIn new.keyIn → s.decodeEdges n old new = c)) ∧
  ∀ (s : State) (n i : Nat) (x : Seat) (r : LoopRec) (c : Cand) (p : Paper), s.seat n = some x → s.loop n = some r →
    x.occupant = some i → s.cand i = some c → s.paper c.paper = some p →
    (c.state = .seated → ∀ u, u = s.modPaper c.paper (fun q => { q with coll := { q.coll with
        admitted := q.coll.admitted + 1 } }) →
      (p.state = .planned ∨ p.state = .closed ∨ p.state = .abandoned → s.presentRise i = s) ∧
      (p.state = .reading → s.presentRise i =
        u.changeCand i (fun d => { d with state := .reading, used := 0 }) .present) ∧
      (p.state = .writing ∨ p.state = .extended → p.elapsed < c.limit → s.presentRise i = u.changeCand i (fun d =>
        { d with state := .writing, used := p.elapsed, flags := { d.flags with late := true } }) .present) ∧
      (p.state = .writing ∨ p.state = .extended → c.limit ≤ p.elapsed → ∃ c', (s.presentRise i).cand i = some c' ∧
        c'.state = .finished ∧ c'.used = p.elapsed ∧ c'.flags.late = true ∧ c'.finish = some ⟨.time, s.hallTime⟩)) ∧
    (∀ reason cause u, c.state = .reading ∨ c.state = .writing ∨ c.state = .resting →
      u = s.changeCand i (fun d => { d with
        state := .finished, finish := some ⟨reason, s.hallTime⟩, flags := { d.flags with away := false }
        awayCount := 0, awayReported := false }) cause →
      (p.state ≠ .extended ∨ (∃ j d, j ≠ i ∧ s.cand j = some d ∧ d.paper = c.paper ∧
          (d.state = .reading ∨ d.state = .writing ∨ d.state = .resting)) → s.finishCand i reason cause = u) ∧
      (s.Bounded → p.state = .extended → (∀ j d, j ≠ i → s.cand j = some d → d.paper = c.paper →
          ¬ (d.state = .reading ∨ d.state = .writing ∨ d.state = .resting)) →
        s.finishCand i reason cause = (({ u with
            cands := u.cands.map (fun e : Nat × Cand => if e.2.paper = c.paper ∧ e.2.state = CandState.seated then
              (e.1, { e.2 with state := .absent }) else e) }.modPaper c.paper (fun q => { q with
              state := .closed,
              coll := { q.coll with absent := (q.coll.absent +
                s.cands.countP (fun e : Nat × Cand => e.2.paper = c.paper ∧ e.2.state = CandState.seated)) } })).postPaperState
          c.paper .extended .lastFinish).traceAll u.cands cause)) ∧
    (c.state = .absent → p.state = .writing ∨ p.state = .extended ∨ p.state = .closed → s.presentRise i =
      s.post 0 (.lateRefused i c.number c.seat p.elapsed p.defn.lateCutoff)) ∧
    (c.state ≠ .seated → c.state ≠ .absent → c.flags.away = true → s.presentRise i =
      s.changeCand i (fun d => { d with flags := { d.flags with away := false }, awayCount := 0, awayReported := false })
        .present) ∧
    (s.presentFall i = if c.state = .reading ∨ c.state = .writing ∨ c.state = .resting then
      s.changeCand i (fun d => { d with flags := { d.flags with away := true }, awayCount := 0, awayReported := false })
        .present
      else s) ∧
    (c.state = .reading ∨ c.state = .writing ∨ c.state = .resting → s.leaveRequest i =
      if c.state = .reading then s.post 0 (.leaveDenied i c.seat .reading c.used (c.limit - c.used))
      else if s.hold ≠ none then s.post 0 (.leaveDenied i c.seat .held c.used (c.limit - c.used))
      else if c.used < p.defn.noLeaveFirst then s.post 0 (.leaveDenied i c.seat .tooEarly c.used (c.limit - c.used))
      else if c.limit - c.used ≤ p.defn.noLeaveLast then
        s.post 0 (.leaveDenied i c.seat .tooLate c.used (c.limit - c.used))
      else s.finishCand i .early .done) ∧
    (s.callRise n = if r.call = none ∧ r.answered = false then
      (((s.modLoop n (fun q => { q with call := some s.hall.callSense, answered := false })).modCand i
        (fun d => { d with flags := { d.flags with call := true } })).post 0
        (.callRaised n i c.number c.state)).traceOne i c .call
      else s) ∧
    (s.callFall n = if s.hall.callSense = .level ∧ r.call ≠ none then
      (((s.modLoop n (fun q => { q with call := none, answered := false })).modCand i
        (fun d => { d with flags := { d.flags with call := false } })).post 0 (.callEnded .withdrawn)).traceOne i c .call
      else s.modLoop n (fun q => { q with answered := false })) ∧
    (s.keyPress n = if p.coll.target = some n then s.takeScript i .target .key
      else if c.state = .finished then s.takeScript i .key .key
      else if r.call ≠ none then
        (((s.modLoop n (fun q => { q with
          call := none
          answered := r.answered || (r.call == some .level && r.callIn.cond == .active) })).modCand i
          (fun d => { d with flags := { d.flags with call := false } })).post 0 (.callEnded .answered)).traceOne i c .key
      else if c.state = .writing ∧ c.restUsed < c.restBudget then
        s.changeCand i (fun d => { d with state := .resting }) .key
      else if c.state = .resting then s.changeCand i (fun d => { d with state := .writing }) .key
      else s)

/-! ### The reader link -/

/-- A good frame of a known kind and length does what its row does; one of another kind, of a wrong length, with a wrong
check, broken off by a gap, or with a length byte above 200 is dropped with a READER_ERROR that gives the reason, and the kind
and tag as far as they came (R138, R139, R157). That the tag byte is the subject whatever the kind is log 54's; that a JAM
with a wrong length is dropped with LENGTH also where its count is above 16, and a STACKED so where its stacker byte is above
1, is log 58's; a READER_ERROR whose frame has no kind carries none (log 59 has its byte). -/
def Obligations.ReaderFramesAreTakenOrDropped : Prop :=
  ∀ (kind tag : Byte) (body : List Byte) (s : State), s.resetLow = false → s.reader.frame = none → body.length ≤ 200 →
    ∀ error, error = (fun reason => Host.Outcome.next
        ((s.pump.post tag.toNat (.readerError reason (some kind.toNat))).pump) : ReaderErr →
          Host.Outcome State Fault Refusal) →
    (∃ check, readerFrame kind tag body = [0xA5, kind, tag, BitVec.ofNat 8 body.length] ++ body ++ [check] ∧
      kind + tag + BitVec.ofNat 8 body.length + body.sum + check = 0xFF) ∧
    (kind = 1 → exec (.readerFrameReceived (readerFrame kind tag body)) s =
      if body = [] then exec (.sheetBegin tag.toNat) s else error .length) ∧
    (∀ index samples, kind = 2 → body = index :: samples →
      exec (.readerFrameReceived (readerFrame kind tag body)) s =
        exec (.row tag.toNat index.toNat samples) s) ∧
    (kind = 3 → exec (.readerFrameReceived (readerFrame kind tag body)) s =
      (match body with | [n] => exec (.sheetEnd tag.toNat n.toNat) s | _ => error .length)) ∧
    (kind = 4 → exec (.readerFrameReceived (readerFrame kind tag body)) s =
      if body = [] then exec (.atGate tag.toNat) s else error .length) ∧
    (kind = 5 → exec (.readerFrameReceived (readerFrame kind tag body)) s =
      (match body with | [k] => exec (.stacked tag.toNat k.toNat) s | _ => error .length)) ∧
    (kind = 6 → tag = 0 → exec (.readerFrameReceived (readerFrame kind tag body)) s =
      (match body with
       | m :: tags => if m.toNat = tags.length then exec (.jam (tags.map BitVec.toNat)) s else error .length
       | [] => error .length)) ∧
    (kind = 7 → exec (.readerFrameReceived (readerFrame kind tag body)) s =
      if body = [] then exec .readerReady s else error .length) ∧
    (kind = 8 → exec (.readerFrameReceived (readerFrame kind tag body)) s =
      if body = [] then exec .readerReset s else error .length) ∧
    (kind = 0 ∨ 8 < kind.toNat → exec (.readerFrameReceived (readerFrame kind tag body)) s = error .kind) ∧
    (∀ c : Byte, kind + tag + BitVec.ofNat 8 body.length + body.sum + c ≠ 0xFF →
      exec (.readerFrameReceived ([0xA5, kind, tag, BitVec.ofNat 8 body.length] ++ body ++ [c])) s = error .frame) ∧
    (∀ got, got ≠ [] → got <+: readerFrame kind tag body → got ≠ readerFrame kind tag body →
      exec (.readerGapTimeout got) s = .next ((s.pump.post ((got.drop 2).head?.map BitVec.toNat |>.getD 0)
        (.readerError .frame ((got.drop 1).head?.map BitVec.toNat))).pump)) ∧
    exec (.readerGapTimeout []) s = .next s.pump ∧
    (∀ length : Byte, 200 < length.toNat → exec (.readerLengthAbove200 kind tag length) s = error .frame)

/-- SHEET_BEGIN by R146's table, ROW by R149 and R147, SHEET_END by R150, and SHEET_STORED, when the last sample of an ended
sheet has been moved into its buffer: the record becomes STORED, its buffer FULL, and FIFO ownership ends. That all samples
move in the ROW's step while there is a buffer is log 10's, the lowest free entry log 27's, that a FEED the TAG_REUSED close
makes at an empty queue has begun log 51's, and that the message being sent counts among the 10 of R140 log 11's. A record
that is spoiled gets its reason, its samples in the FIFO are discarded and its ownership ends, its buffer becomes FREE and
absent from it, and SHEET_SPOILED is posted with the rows received (R145). -/
def Obligations.SheetsArriveByTheirTables : Prop :=
  (∀ (s : State) (e : Nat) (x : SheetRec) (reason : Spoil) (freed : Nat → Buffer → Buffer), s.sheet e = some x →
    (freed = fun k y => if x.buffer.map (fun b => b == 0) = some (k == 0) ∧ y.state ≠ .marking then
      { y with state := .free } else y) →
    (x.spoil ≠ none → s.spoil e reason = s) ∧
    (x.spoil = none → x.buffer = none ∨ s.reader.owner = some x.tag ∨ s.reader.owner = none →
      s.spoil e reason = ({ s with reader := { s.reader with
        records := s.reader.records.map (fun r : Nat × SheetRec => if r.1 = e then
          (e, { r.2 with spoil := some reason, buffer := none }) else r)
        fifo := if s.reader.owner = some x.tag then [] else s.reader.fifo
        owner := if s.reader.owner = some x.tag then none else s.reader.owner
        moved := if s.reader.owner = some x.tag then 0 else s.reader.moved
        buf0 := freed 0 s.reader.buf0, buf1 := freed 1 s.reader.buf1 } }.post x.tag
          (.sheetSpoiled x.tag reason x.rows)).updateFeed)) ∧
  (∀ (s : State) (tag : Nat), s.resetLow = false →
    (s.reader.bound = none ∨ s.sheetOf tag = none ∧ (∀ e, e < 4 → s.sheet e ≠ none) →
      exec (.sheetBegin tag) s = .next (if s.reader.tx.length < 10 then
        { s.pump with reader := { s.reader with tx := s.reader.tx ++
          [TxMsg.divert ⟨tag, .reject (if s.reader.bound = none then .notBound else .noRecord), none, none⟩] } }.pump
      else (s.pump.post tag (.readerError .txFull (some 1))).pump)) ∧
    (∀ e x, s.reader.bound ≠ none → s.sheetOf tag = some (e, x) →
      exec (.sheetBegin tag) s = .next ((s.pump.closeLost e .tagReused none).beginSheet tag).pump) ∧
    (∀ e, s.reader.bound ≠ none → s.sheetOf tag = none → e < 4 → s.sheet e = none → (∀ k, k < e → s.sheet k ≠ none) →
      (∀ b, b = (if s.reader.buf0.state = .free then some 0 else if s.reader.buf1.state = .free then some 1 else none) →
        s.reader.owner = none → exec (.sheetBegin tag) s = .next ({ s.pump with reader := { s.reader with
          records := Table.insert s.reader.records e ⟨tag, .receiving, b, 0, none, none, none, none⟩
          fifo := [], owner := some tag, moved := 0
          buf0 := if b = some 0 then { s.reader.buf0 with state := .filling } else s.reader.buf0
          buf1 := if b = some 1 then { s.reader.buf1 with state := .filling } else s.reader.buf1 } }.updateFeed.pump)) ∧
      (s.reader.owner ≠ none → s.reader.owner ≠ some tag → exec (.sheetBegin tag) s =
        .next (({ s.pump with reader := { s.reader with records := (Table.insert s.reader.records e
          ⟨tag, .receiving, none, 0, none, some .noBuffer, none, none⟩) } }.post tag
          (.sheetSpoiled tag .noBuffer 0)).updateFeed.updateFeed.pump)))) ∧
  (∀ (s : State) (tag index count : Nat) (samples : List Byte), s.resetLow = false → s.sheetOf tag = none →
    exec (.row tag index samples) s = .next s.pump ∧ exec (.sheetEnd tag count) s = .next s.pump ∧
      exec (.atGate tag) s = .next s.pump ∧ exec (.stacked tag 0) s = .next s.pump ∧
      exec (.stacked tag 1) s = .next s.pump) ∧
  (∀ (s : State) (tag index count e : Nat) (samples : List Byte) (x : SheetRec) (f : Format), s.resetLow = false →
    s.sheetOf tag = some (e, x) → s.boundFormat = some f →
    (x.state = .decided ∨ x.state = .diverted →
      exec (.row tag index samples) s = .next s.pump ∧ exec (.sheetEnd tag count) s = .next s.pump) ∧
    (x.state = .stored ∨ x.state = .marking ∨ x.state = .receiving ∧ x.endTaken ≠ none →
      exec (.row tag index samples) s = .next ((s.pump.post tag (.readerError .order (some 2))).pump) ∧
      exec (.sheetEnd tag count) s = .next ((s.pump.post tag (.readerError .order (some 3))).pump)) ∧
    (x.state = .receiving → x.endTaken = none →
      ∀ counted : State → State,
        counted = (fun u => u.modSheet e (fun y => { y with rows := min (y.rows + 1) f.rows })) →
      (x.spoil ≠ none → exec (.row tag index samples) s = .next (counted s.pump).pump) ∧
      (x.spoil = none → index ≠ x.rows ∨ f.rows ≤ x.rows ∨ samples.length ≠ f.channels * f.subSamples →
        exec (.row tag index samples) s = .next (counted (s.pump.spoil e .geometry)).pump) ∧
      (x.spoil = none → index = x.rows → x.rows < f.rows → samples.length = f.channels * f.subSamples →
        s.reader.owner = some tag →
        (∀ b, x.buffer = some b → exec (.row tag index samples) s = .next (counted (s.pump.modReader (fun r =>
          { r.modBuffer b (fun y => { y with mem := Mem.writeFrom y.mem s.reader.moved (s.reader.fifo ++ samples) }) with
            fifo := [], moved := s.reader.moved + (s.reader.fifo ++ samples).length }))).pump) ∧
        (x.buffer = none → exec (.row tag index samples) s = .next (counted
          (if s.reader.fifo.length + samples.length ≤ 1024 then
            s.pump.modReader (fun r => { r with fifo := s.reader.fifo ++ samples })
          else s.pump.spoil e .overrun)).pump)) ∧
      (∀ u, u = (s.pump.modSheet e (fun y => { y with endTaken := some s.reader.endCounter })).modReader
          (fun r => { r with endCounter := (s.reader.endCounter + 1) % 256 }) →
        (∀ reason, x.spoil = some reason → exec (.sheetEnd tag count) s =
          .next (u.decideSheet e tag (.reject reason.reason) none false).updateFeed.pump) ∧
        (x.spoil = none → count ≠ f.rows ∨ x.rows ≠ f.rows → exec (.sheetEnd tag count) s =
          .next ((u.spoil e .geometry).decideSheet e tag (.reject .geometry) none false).updateFeed.pump) ∧
        (x.spoil = none → count = f.rows → x.rows = f.rows → x.buffer = none ∨ s.reader.fifo ≠ [] →
          exec (.sheetEnd tag count) s = .next u.pump) ∧
        (∀ b, x.spoil = none → count = f.rows → x.rows = f.rows → x.buffer = some b → s.reader.fifo = [] →
          exec (.sheetEnd tag count) s = .next (((u.modSheet e (fun y => { y with state := .stored })).modReader (fun r =>
            { r.modBuffer b (fun y => { y with state := .full }) with fifo := [], owner := none, moved := 0 })).pump)))) ∧
    (∀ b, x.state = .receiving → x.endTaken ≠ none → x.spoil = none → s.reader.owner = some tag → x.buffer = some b →
      exec .sheetStored s = .next (((s.pump.modSheet e (fun y => { y with state := .stored })).modReader (fun r =>
        { r.modBuffer b (fun y =>
            { y with state := .full, mem := Mem.writeFrom y.mem s.reader.moved s.reader.fifo }) with
          fifo := [], owner := none, moved := 0 })).pump)))
/-- AT_GATE decides an undecided record at once, its DIVERT ahead of every message not begun, with NO_DECISION or the spoil
reason, and frees the buffer of one that the marker does not read (R153). STACKED closes a DIVERTED record that lies where it
was told, with the commit of an accepted sheet (R154, R177), and any other as lost; JAM and READER_RESET clear reader ready,
post READER_STOP and close the records named, or all of them, as lost (R155, R156). A record that closes while the marker
still reads it is gone for the marker (R152, R158). A close as lost takes its record from the marker that reads it, withdraws
the record's DIVERT that is not begun, empties the FIFO the record owns, and makes its buffer FREE, unless the marker reads it
or a waiting owner takes it (R144, R148). SHEET_LOST names a candidate only with ACCEPT by log 33, the buffer field of a
record decided at the gate is absent by log 14, READER_STOP lists the tags of a restart in ascending order by log 48, and at a
JAM or restart each trace follows its own SHEET_LOST by log 53. -/
def Obligations.GateStackersAndStops : Prop :=
  (∀ (s : State) (tag e : Nat) (x : SheetRec), s.resetLow = false → s.sheetOf tag = some (e, x) →
    (x.state = .decided ∨ x.state = .diverted → exec (.atGate tag) s = .next s.pump) ∧
    (∀ d u, d = (TxMsg.divert ⟨tag, .reject (match x.spoil with
          | some .noBuffer => .noBuffer | some .overrun => .overrun | some .geometry => .geometry
          | none => .noDecision), some e, none⟩) →
        u = (s.pump.modSheet e (fun y => { y with
          state := .decided
          decision := some (.reject (match x.spoil with
            | some .noBuffer => .noBuffer | some .overrun => .overrun | some .geometry => .geometry
            | none => .noDecision)) })).modReader (fun r => { r with
          tx := match r.tx with | [] => [d] | b :: ms => b :: d :: ms }) →
      (x.state = .marking → x.spoil = none → exec (.atGate tag) s = .next u.updateFeed.pump) ∧
      (x.state = .receiving ∨ x.state = .stored → exec (.atGate tag) s =
        .next (((u.modSheet e (fun y => { y with buffer := none })).modReader (fun r =>
          (if r.owner = some tag then { r with fifo := [], owner := none, moved := 0 } else r).releaseOf
            x.buffer)).updateFeed.pump))) ∧
    (∀ k : Nat, k ≤ 1 →
      (x.state ≠ .diverted → exec (.stacked tag k) s =
        .next (s.pump.closeLost e .earlyStack (some (if k = 0 then .accept else .reject))).pump) ∧
      (∀ d, x.state = .diverted → x.decision = some d → (d = .accept ∧ k = 1 ∨ d ≠ .accept ∧ k = 0) →
        exec (.stacked tag k) s =
          .next (s.pump.closeLost e .misrouted (some (if k = 0 then .accept else .reject))).pump)) ∧
    (∀ reason, x.state = .diverted → x.decision = some (.reject reason) → ∀ m, (m = match s.marker with
        | .marking j => .marking (if j.entry = e then { j with same := false } else j)
        | .idle => .idle
        | .rescoring slot next count => .rescoring slot next count) →
      exec (.stacked tag 1) s =
        .next (({ s.pump with marker := m }.modReader (fun r => { r with records := Table.erase r.records e })).updateFeed.pump)) ∧
    (∀ g c m, (m = match s.marker with
        | .marking j => .marking (if j.entry = e then { j with same := false } else j)
        | .idle => .idle
        | .rescoring slot next count => .rescoring slot next count) → x.state = .diverted → x.decision = some .accept → x.staged = some g → s.cand g.index = some c →
      c.state = .markPending → exec (.stacked tag 0) s =
        .next (((({ s.pump.modCand g.index (fun d => { d with state := .marked, result := some g.result }) with
            marker := m
            responses := Table.insert s.responses g.index g.responses }.post g.index
          (.resultCommitted c.number c.paper g.result.tag g.result.final g.result.raw g.result.floored g.result.neg
            g.result.zero g.result.clamped g.result.generation)).traceOne g.index c .sheet).modReader
              (fun r => { r with records := Table.erase r.records e })).updateFeed.pump))) ∧
  (∀ (s : State) (tag k : Nat), s.resetLow = false → 1 < k →
    exec (.stacked tag k) s = .next (s.pump.post tag (.readerError .value (some 5))).pump) ∧
  (∀ (s : State) (lose : LostCause → State → Nat → State), s.resetLow = false →
    (∀ cause u g, lose cause u g = match u.sheetOf g with | some (e, _) => u.closeLost e cause none | none => u) →
    ∀ stopped, stopped = (s.pump.modReader (fun r => { r with ready := false })).updateFeed →
    (∀ tags : List Nat, tags.length ≤ 16 → exec (.jam tags) s = .next (tags.foldl (lose .jam) (stopped.post 0
      (.readerStop .jam (tags.filter (fun g => (s.sheetOf g).isSome))))).pump) ∧
    (∀ tags : List Nat, 16 < tags.length →
      exec (.jam tags) s = .next (s.pump.post 0 (.readerError .value (some 6))).pump) ∧
    (∀ tags : List Nat, tags.Perm (s.reader.records.map (fun y => y.2.tag)) → tags.Pairwise (· ≤ ·) →
      ∀ u, u = (tags.foldl (lose .reset) (stopped.post 0 (.readerStop .reset tags))).modReader (fun r =>
        { r with fifo := [], owner := none, moved := 0 }) →
      exec .readerReset s = .next (match s.boundFormat with
        | some f => u.modReader (Reader.makeGeometry f)
        | none => u).pump)) ∧
  (∀ (s : State) (e : Nat) (x : SheetRec) (cause : LostCause) (k : Option Stacker), s.sheet e = some x →
    (s.closeLost e cause k).sheet e = none ∧
    (s.closeLost e cause k).marker = (match s.marker with
      | .marking j => .marking (if j.entry = e then { j with same := false } else j)
      | .idle => .idle
      | .rescoring slot next count => .rescoring slot next count) ∧
    ((s.closeLost e cause k).reader.tx.filter (fun m => !m.isFeed) = (match s.reader.tx with
      | [] => []
      | m :: ms => (match m with
          | .divert d => TxMsg.divert (if d.entry = some e then { d with entry := none } else d)
          | .feed go => .feed go
          | .geometry mask n rows => .geometry mask n rows) :: ms.filter (fun y => y.entry? ≠ some e)).filter
        (fun m => !m.isFeed)) ∧
    (s.reader.owner = some x.tag → (s.closeLost e cause k).reader.fifo = [] ∧
      (s.closeLost e cause k).reader.owner = none ∧ (s.closeLost e cause k).reader.moved = 0) ∧
    (s.reader.owner ≠ some x.tag → (s.closeLost e cause k).reader.fifo = s.reader.fifo ∧
      (s.closeLost e cause k).reader.owner = s.reader.owner ∧ (s.closeLost e cause k).reader.moved = s.reader.moved) ∧
    (x.buffer = none ∨ (∃ b, x.buffer = some b ∧ (s.reader.buffer b).state = .marking) →
      (s.closeLost e cause k).reader.buf0 = s.reader.buf0 ∧ (s.closeLost e cause k).reader.buf1 = s.reader.buf1) ∧
    (∀ b, x.buffer = some b → (s.reader.buffer b).state ≠ .marking →
      (s.reader.owner = some x.tag ∨ s.reader.owner = none → (s.closeLost e cause k).reader.buffer b =
        { s.reader.buffer b with state := .free }) ∧
      (∀ j y, j ≠ e → y.tag ≠ x.tag → s.sheet j = some y → s.reader.owner = some y.tag → y.state = .receiving →
        y.spoil = none → y.buffer = none → (∀ z ∈ s.reader.records, z.2.tag = y.tag → z = (j, y)) →
        (s.closeLost e cause k).reader.buffer b = { s.reader.buffer b with state := .filling } ∧
        (s.closeLost e cause k).sheet j = some { y with buffer := some b })) ∧
    (∀ g c, x.decision = some .accept → x.staged = some g → s.cand g.index = some c → c.state = .markPending →
      (s.closeLost e cause k).cand g.index = some { c with state := .collected } ∧
      (s.closeLost e cause k).Told ⟨s.hallTime, x.tag,
        .sheetLost x.tag cause x.state x.decision k (some (g.index, c.number)) true⟩) ∧
    (x.decision ≠ some .accept → (s.closeLost e cause k).cands = s.cands ∧ (s.closeLost e cause k).Told
      ⟨s.hallTime, x.tag, .sheetLost x.tag cause x.state x.decision k none false⟩))

/-- READER_READY sets reader ready unless a GEOMETRY is queued or being sent (R141). A message that has been sent leaves the
queue and is the frame last sent: a DIVERT makes its record DIVERTED and posts SHEET_DIVERTED with the paper bound then (R152,
log 55), a FEED is the feed last sent (R142). After the feed is worked out, the FEED that is queued, or else the one begun
last (log 12), says what is wanted: GO exactly with a bound paper, reader ready, a FREE buffer and a free Sheet Record (R140,
R142). The eleven DIVERT reasons have the codes of R138, and channel k of a GEOMETRY's mask is bit k mod 8 of byte k div 8;
the bytes of a frame are written out in ReaderFramesAreTakenOrDropped (R138). -/
def Obligations.ReaderMessagesAndTheFeed : Prop :=
  [Reason.notBound, .noRecord, .noBuffer, .overrun, .geometry, .noDecision, .idUnreadable, .unknownCandidate, .wrongPaper,
    .duplicate, .notCollected].map Reason.code = [1, 2, 3, 4, 5, 6, 7, 8, 9, 10, 11] ∧
  (∀ mask : BitVec 48, (maskBytes mask).length = 6 ∧
    ∀ k b, k < 48 → (maskBytes mask)[k / 8]? = some b → b.getLsbD (k % 8) = mask.getLsbD k) ∧
  (∀ s : State, s.resetLow = false →
    (s.reader.tx.any TxMsg.isGeometry = true → exec .readerReady s = .next s.pump) ∧
    (s.reader.tx.any TxMsg.isGeometry = false → exec .readerReady s =
      .next (s.pump.modReader (fun r => { r with ready := true })).updateFeed.pump) ∧
    (∀ d ms, s.reader.tx = .divert d :: ms → ∀ u, u = s.pump.modReader (fun r => { r with
        tx := ms, sent := some (readerFrame 0x43 (BitVec.ofNat 8 d.tag)
          (match d.decision with
           | .accept => [0, 0]
           | .reject r => [1, BitVec.ofNat 8 r.code])) }) →
      exec .divertSent s = .next (((match d.entry with
        | some e => u.modSheet e (fun x =>
            if x.state = SheetState.decided then { x with state := SheetState.diverted } else x)
        | none => u).post d.tag (.sheetDiverted d.tag d.decision s.reader.bound d.cand)).pump)) ∧
    (∀ mask n rows ms, s.reader.tx = .geometry mask n rows :: ms → exec .geometrySent s =
      .next (s.pump.modReader (fun r => { r with
        tx := ms, sent := some (readerFrame 0x41 0 (maskBytes mask ++ u8 n ++ u8 rows)) })).pump) ∧
    (∀ go ms, s.reader.tx = .feed go :: ms → exec .feedSent s =
      .next (s.pump.modReader (fun r => { r with
        tx := ms, feedSent := go, sent := some (readerFrame 0x42 0 [if go then 1 else 0]) })).pump)) ∧
  (∀ r : Reader,
    (feedIn r.updateFeed.queued).getD r.updateFeed.feedBegun = r.feedWanted ∧
    (r.feedWanted = true ↔ r.bound ≠ none ∧ r.ready = true ∧ (r.buf0.state = .free ∨ r.buf1.state = .free) ∧
      r.records.length < 4) ∧
    r.updateFeed.tx.filter (fun m => !m.isFeed) = r.tx.filter (fun m => !m.isFeed))

/-! ### Marking -/

/-- MARKER_TAKE gives the IDLE marker the STORED record whose end lies furthest behind the end order counter; record and
buffer become MARKING (R151, R167; log 25 for the reading as one step): the backgrounds, the ID digits, and the readings of
the answer blocks in the order given, unless the ID block settles the sheet as unreadable. That MARKER_TAKE changes nothing at
a marker that is not IDLE, or without a STORED record, is log 5's. MARKING_END decides a record that is still MARKING, being
the one the marker took, open and in state MARKING, by the first line of R172's table, with a staged result and a MARK_PENDING
candidate for ACCEPT, queues the DIVERT, frees the buffer, and the marker is IDLE again; of a record no longer MARKING only
the last two happen (R152, R171, R172, R176). A decision away from the gate makes the record DECIDED with it and puts its
DIVERT at the back of the queue (R140, R152). The end of a marking frees the buffer, which a waiting owner takes at once, and
works the feed out (R148, R152). That the decided record's buffer field becomes absent then is log 14's. That a number no
candidate has goes into the DIVERT's candidate without an index is log 47's. -/
def Obligations.MarkerTakesAndDecides : Prop :=
  (∀ (s : State) (slot e b k : Nat) (p : Paper) (f : Format) (x : SheetRec), s.resetLow = false → s.marker = .idle →
    s.reader.bound = some slot → s.paper slot = some p → p.format = some f → (e, x) ∈ s.reader.records →
    x.state = .stored → x.buffer = some b → x.endTaken = some k →
    (∀ y ∈ s.reader.records, y.2.state = .stored → y = (e, x) ∨ ∃ m, y.2.endTaken = some m ∧
      (s.reader.endCounter + 256 - m) % 256 < (s.reader.endCounter + 256 - k) % 256) →
    exec .markerTake s = .next (({ s.pump with
      marker := .marking (MarkJob.of f (s.reader.buffer b).mem e b x.tag p.generation) }.modSheet e
        (fun y => { y with state := .marking })).modReader (fun r => r.modBuffer b (fun y =>
          { y with state := .marking }))).pump) ∧
  (∀ s : State, s.resetLow = false → s.marker ≠ .idle ∨ (∀ y ∈ s.reader.records, y.2.state ≠ .stored) →
    exec .markerTake s = .next s.pump) ∧
  (∀ (f : Format) (mem : List Host.Cell) (e b tag generation : Nat) (j : MarkJob),
    j = MarkJob.of f mem e b tag generation →
    j.backgrounds = (List.range f.channels).map (fun i =>
      ((List.range f.subSamples).map (fun n =>
        (Mem.read mem ((f.refRow * f.channels + i) * f.subSamples + n)).toNat)).sum / f.subSamples) ∧
    j.digits = (readBlock f j.backgrounds mem f.idBlock 10 6).map Reading.cls ∧ j.digits.length = 6 ∧
    (numberRead j.digits = none → j.readings = []) ∧
    (numberRead j.digits ≠ none → j.readings.length = f.questions ∧
      j.readings = f.blocks.flatMap (fun q => readBlock f j.backgrounds mem q.walk q.options q.count))) ∧
  (∀ (s : State) (e tag : Nat) (d : Decision) (cand : Option Decoded), s.decideSheet e tag d cand false =
    { s with reader := { s.reader with
      records := s.reader.records.map (fun r : Nat × SheetRec => if r.1 = e then
        (e, { r.2 with state := .decided, decision := some d }) else r)
      tx := s.reader.tx ++ [TxMsg.divert ⟨tag, d, some e, cand⟩] } }) ∧
  (∀ (s : State) (j : MarkJob),
    (s.endMarking j).marker = .idle ∧
    ((∀ y ∈ s.reader.records, y.2.state = .receiving → s.reader.owner = some y.2.tag → y.2.spoil = none →
        y.2.buffer ≠ none ∧ (j.same = true → y.1 ≠ j.entry)) →
      s.endMarking j = State.updateFeed { s with marker := .idle, reader :=
        { s.reader.modBuffer j.buffer (fun b => { b with state := .free }) with
          records := s.reader.records.map (fun r : Nat × SheetRec => if j.same = true ∧ r.1 = j.entry then
            (r.1, { r.2 with buffer := none }) else r) } }) ∧
    (∀ k y, s.sheet k = some y → y.state = .receiving → s.reader.owner = some y.tag → y.spoil = none → y.buffer = none →
      (∀ z ∈ s.reader.records, z.2.tag = y.tag → z = (k, y)) →
      (s.endMarking j).reader.buffer j.buffer = { s.reader.buffer j.buffer with state := .filling } ∧
      (s.endMarking j).sheet k = some { y with buffer := some j.buffer })) ∧
  (∀ (s : State) (slot : Nat) (p : Paper) (f : Format) (j : MarkJob), s.resetLow = false → s.marker = .marking j →
    s.reader.bound = some slot → s.paper slot = some p → p.format = some f →
    ∀ rejected : Reason → Option Decoded → Host.Outcome State Fault Refusal,
      rejected = (fun reason d =>
        .next ((s.pump.decideSheet j.entry j.tag (.reject reason) d false).endMarking j).pump) →
    ∀ still : Prop, (still ↔ j.same = true ∧ ∃ x, s.sheet j.entry = some x ∧ x.state = .marking) →
    (¬ still → exec .markingEnd s = .next (s.pump.endMarking j).pump) ∧
    (still → numberRead j.digits = none → exec .markingEnd s = rejected .idUnreadable none) ∧
    (∀ number, still → numberRead j.digits = some number →
      ((∀ i c, s.cand i = some c → c.number ≠ number) → s.Bounded →
        exec .markingEnd s = rejected .unknownCandidate (some ⟨none, number⟩)) ∧
      (∀ i c, s.Bounded → s.cand i = some c → c.number = number →
        (∀ k d, s.cand k = some d → d.number = number → k = i) →
        (c.paper ≠ slot → exec .markingEnd s = rejected .wrongPaper (some ⟨some i, number⟩)) ∧
        (c.paper = slot → c.state = .markPending ∨ c.state = .marked →
          exec .markingEnd s = rejected .duplicate (some ⟨some i, number⟩)) ∧
        (c.paper = slot → c.state ≠ .markPending → c.state ≠ .marked → c.state ≠ .collected →
          exec .markingEnd s = rejected .notCollected (some ⟨some i, number⟩)) ∧
        (c.paper = slot → c.state = .collected →
          ∀ g : Staged, g.index = i → g.responses = f.responses j.readings →
            g.result = scoreSheet f (p.key.filterMap id) (f.responses j.readings) j.generation j.tag →
          exec .markingEnd s = .next (((((s.pump.modSheet j.entry (fun y => { y with staged := some g })).changeCand i
            (fun d => { d with state := .markPending }) .sheet).decideSheet j.entry j.tag .accept
              (some ⟨some i, number⟩) false).endMarking j).pump)))))

/-- Each question, and each ID digit, is given one class from the darkness values of its options, by the first line of the
table that applies: with the largest value D1 and the second largest D2, a value that occurs twice counting twice (R170).
Where T_blank lies below T_mark, a class with an option has D1 above D2, so its option is a single one. The darkness of the
bubble of option m of question h is the mean of its S samples, rounded down, at the addresses the block walk gives, less the
background of the rank of its first address, or 0 (R45, R169). The number read is the sum of the digits' options times the
powers of ten, most significant first; a digit without an option, and the number 000000, make the sheet unreadable (R171). The
responses are in question order: question q has the class read for it in the block that holds q, whatever the order of the
blocks (R160, R176). -/
def Obligations.QuestionsAreClassified : Prop :=
  ∀ (f : Format) (d1 d2 : Nat) (rest ds : List Nat), ds.Perm (d1 :: d2 :: rest) → d2 ≤ d1 → (∀ d ∈ rest, d ≤ d2) →
    classify f ds =
      (if d1 < f.tBlank then .blank
       else if d1 < f.tMark then .faint
       else if d2 < f.tBlank then .resp (ds.idxOf d1)
       else if f.margin < d1 - d2 then .respE (ds.idxOf d1)
       else .multi) ∧
    (f.tBlank < f.tMark → ∀ o, classify f ds = .resp o ∨ classify f ds = .respE o →
      d2 < d1 ∧ ∀ k, ds[k]? = some d1 ↔ k = o) ∧
    (∀ (bgs : List Nat) (mem : List Host.Cell) (w : BlockWalk) (options count : Nat),
      (readBlock f bgs mem w options count).length = count ∧
      ∀ rd ∈ readBlock f bgs mem w options count, rd.darkness.length = options ∧ rd.cls = classify f rd.darkness) ∧
    (∀ (bgs : List Nat) (mem : List Host.Cell),
      readDigits f bgs mem = (readBlock f bgs mem f.idBlock 10 6).map Reading.cls) ∧
    (∀ (bgs : List Nat) (mem : List Host.Cell) (w : BlockWalk) (options count h m a : Nat), h < count → m < options →
      (a : Int) = w.start + h * w.o2 + m * w.o1 →
      ((readBlock f bgs mem w options count)[h]?.bind (fun rd => rd.darkness[m]?)) = some
        (((List.range f.subSamples).map (fun l => (Mem.read mem (a + l)).toNat)).sum / f.subSamples -
          (bgs[a / f.subSamples % f.channels]?).getD 0)) ∧
    (∀ digits : List QClass, digits.length = 6 →
      ((∃ c ∈ digits, c = .blank ∨ c = .faint ∨ c = .multi) → numberRead digits = none) ∧
      (∀ options : List Nat, options.length = 6 →
        (∀ k o : Nat, options[k]? = some o → digits[k]? = some (QClass.resp o) ∨ digits[k]? = some (QClass.respE o)) →
        ∀ number, number = ((List.range 6).map (fun k => options.getD k 0 * 10 ^ (5 - k))).sum →
          numberRead digits = if number = 0 then none else some number)) ∧
    (∀ (bgs : List Nat) (mem : List Host.Cell) (readings : List Reading),
      readings = f.blocks.flatMap (fun b => readBlock f bgs mem b.walk b.options b.count) → f.questionsValid = true →
      (f.responses readings).length = f.questions ∧
      ∀ b ∈ f.blocks, ∀ h, h < b.count → (f.responses readings)[b.first - 1 + h]? =
        (readBlock f bgs mem b.walk b.options b.count)[h]?.map Reading.cls)

/-- A result: the raw total is the sum of the outcomes, and the section-floored total the sum over the eight sections of the
section sum, with the section floor on of the greater of it and 0. Without the floor the two totals are equal, with it the
second is at least 0 and at least the first; both lie in -8000..+8000. The final score is the greater of the section-floored
total and the paper floor and at most the sum of the weights. NEG, ZERO and CLAMPED follow from the totals, the six counts are
those of the questions that R173's last column counts as CORRECT, WRONG, BLANK, FAINT, MULTI and VOID and add up to the number
of questions, and the erasures are the questions of class RESP_E (R173 to R175). -/
def Obligations.ResultsKeepTheirBounds : Prop :=
  ∀ (f : Format) (key : List KeyEntry) (responses : List QClass) (generation tag : Nat) (r : MarkResult),
    r = scoreSheet f key responses generation tag → responses.length = key.length → key.length ≤ 200 →
    (∀ e ∈ key, e.weight ≤ 40 ∧ e.penalty ≤ 40 ∧ e.sect ≤ 7) → f.paperFloor ≤ 0 →
    ∀ (score : KeyEntry × QClass → Int) (sect : Nat → Int),
    score = (fun x => if x.1.keySet = 0 then 0 else
      match x.2 with
      | .resp o | .respE o => if x.1.keySet.getLsbD o then (x.1.weight : Int) else -x.1.penalty
      | .blank => 0
      | .faint => match f.faint with | .asBlank => 0 | .asWrong => -x.1.penalty
      | .multi => match f.multi with | .asBlank => 0 | .asWrong => -x.1.penalty) →
    sect = (fun k => (((key.zip responses).filter (fun x => x.1.sect == k)).map score).sum) →
    r.raw = ((key.zip responses).map score).sum ∧
    r.floored = ((List.range 8).map (fun k => if f.sectionFloor = true then max 0 (sect k) else sect k)).sum ∧
    (r.clamped = true ↔ f.sectionFloor = true ∧ (∃ k, k < 8 ∧ sect k < 0) ∨ r.floored < f.paperFloor) ∧
    (∀ kind : KeyEntry × QClass → Nat, kind = (fun x => if x.1.keySet = 0 then 5 else
        match x.2 with
        | .resp o | .respE o => if x.1.keySet.getLsbD o then 0 else 1
        | .blank => 2
        | .faint => 3
        | .multi => 4) →
      [r.counts.correct, r.counts.wrong, r.counts.blank, r.counts.faint, r.counts.multi, r.counts.void] =
        (List.range 6).map (fun k => (key.zip responses).countP (fun x => kind x == k))) ∧
    r.counts.erasure = responses.countP (fun q => match q with | .respE _ => true | _ => false) ∧
    (f.sectionFloor = false → r.floored = r.raw) ∧
    (f.sectionFloor = true → 0 ≤ r.floored ∧ r.raw ≤ r.floored) ∧
    -8000 ≤ r.raw ∧ r.raw ≤ 8000 ∧ -8000 ≤ r.floored ∧ r.floored ≤ 8000 ∧
    r.final = max r.floored f.paperFloor ∧ r.final ≤ ((key.map KeyEntry.weight).sum : Nat) ∧
    (r.neg = true ↔ r.raw < 0) ∧ (r.zero = true ↔ r.final = 0) ∧
    r.counts.correct + r.counts.wrong + r.counts.blank + r.counts.faint + r.counts.multi + r.counts.void = key.length ∧
    r.generation = generation ∧ r.tag = tag

/-- A FORMAT_LOAD that passes R160's checks is taken with F clamped to -8000: every key entry is unwritten and the marking
state NOT_READY (R161). One with a value out of range is refused with RANGE, of a block walk too by log 49, one for an
UNDEFINED slot with NOT_FOUND. One in range for a defined slot is refused with FORMAT where T_blank is not below T_mark, a
question count lies outside 1..64, the blocks in ascending first question number do not number the questions 1..Q without a
gap with Q at most 200, or the sheet is larger than 8192 samples or an address of a block walk lies outside it (R46, R160). Of
a paper that is BOUND or RESCORING or has a MARKED candidate it is refused with STATE. A KEY_LOAD that passes R164's checks
writes its entries with W and P clamped to 40, steps the generation, from 65,535 to 1, and makes a NOT_READY paper READY when
every entry is written (R159, R163, R165; byte layout log 15, the list of addresses among it, the bytes of a format written out in FormatAndKeyReads). The
first failing check of R164 refuses it: RANGE, NOT_FOUND, STATE without a format, RANGE beyond Q or with an option the
question's block does not have, BUSY while a sheet of the paper is marked or the paper is rescored (R164). -/
def Obligations.FormatsAndKeysAreLoaded : Prop :=
  (∀ (tag slot : Nat) (a : FormatArgs) (s : State), s.LinkFree → ∀ (walk : BlockWalkArgs → Prop) (inRange : Prop),
    walk = (fun w => w.start ≤ 8191 ∧ -8191 ≤ w.o1 ∧ w.o1 ≤ 8191 ∧ -8191 ≤ w.o2 ∧ w.o2 ≤ 8191) →
    inRange = (slot < 8 ∧ a.mask ≠ 0 ∧ 1 ≤ a.subSamples ∧ a.subSamples ≤ 4 ∧ 4 ≤ a.rows ∧ a.rows ≤ 64 ∧ a.refRow < a.rows ∧
      a.faintPolicy ≤ 1 ∧ a.multiPolicy ≤ 1 ∧ a.sectionFloor ≤ 1 ∧ a.paperFloor ≤ 0 ∧ 1 ≤ a.blocks.length ∧
      a.blocks.length ≤ 5 ∧ walk a.idBlock ∧
      ∀ b ∈ a.blocks, 1 ≤ b.first ∧ b.first ≤ 200 ∧ 2 ≤ b.options ∧ b.options ≤ 8 ∧ walk b.walk) →
    (¬ inRange → exec (.formatLoad tag slot a) s = .next (s.turnedDown 0x30 tag .range 0 0)) ∧
    (inRange → s.paper slot = none → exec (.formatLoad tag slot a) s = .next (s.turnedDown 0x30 tag .notFound 0 0))) ∧
  (∀ (f : Format) (b : AnswerBlock) (q : Nat), b ∈ f.blocks → b.first ≤ q → q < b.first + b.count →
    (∀ c ∈ f.blocks, c.first ≤ q → q < c.first + c.count → c = b) → f.optionsOf q = b.options) ∧
  (∀ (tag slot first : Nat) (entries : List KeyEntryArgs) (s : State), s.LinkFree →
    ∀ (inRange : Prop) (refused : ResultCode → Prop),
    inRange = (slot < 8 ∧ 1 ≤ first ∧ first ≤ 200 ∧ 1 ≤ entries.length ∧ entries.length ≤ 50 ∧ ∀ e ∈ entries, e.sect ≤ 7) →
    refused = (fun code => exec (.keyLoad tag slot first entries) s = .next (s.turnedDown 0x32 tag code 0 0)) →
    (¬ inRange → refused .range) ∧
    (inRange → s.paper slot = none → refused .notFound) ∧
    (∀ p, inRange → s.paper slot = some p →
      (p.format = none → refused .state) ∧
      (∀ (f : Format) (named : Prop), p.format = some f →
        named = (first + entries.length - 1 ≤ f.questions ∧
          ∀ k e, entries[k]? = some e → e.keySet.toNat < 2 ^ f.optionsOf (first + k)) →
        (¬ named → refused .range) ∧
        (named → (∃ j, s.marker = .marking j ∧ s.reader.bound = some slot) ∨ (∃ n m, s.marker = .rescoring slot n m) →
          refused .busy)))) ∧
  (∀ (tag slot : Nat) (a : FormatArgs) (f : Format) (p : Paper) (s : State), s.LinkFree → slot < 8 → s.paper slot = some p →
    a.mask ≠ 0 → 1 ≤ a.subSamples → a.subSamples ≤ 4 → 4 ≤ a.rows → a.rows ≤ 64 → a.refRow < a.rows →
    a.faintPolicy ≤ 1 → a.multiPolicy ≤ 1 → a.sectionFloor ≤ 1 → a.paperFloor ≤ 0 → 1 ≤ a.blocks.length →
    a.blocks.length ≤ 5 →
    (∀ b ∈ a.blocks, 1 ≤ b.first ∧ b.first ≤ 200 ∧ 2 ≤ b.options ∧ b.options ≤ 8) →
    (∀ w : BlockWalkArgs, w = a.idBlock ∨ (∃ b ∈ a.blocks, w = b.walk) → w.start ≤ 8191 ∧ -8191 ≤ w.o1 ∧ w.o1 ≤ 8191 ∧
      -8191 ≤ w.o2 ∧ w.o2 ≤ 8191) →
    f = { mask := a.mask, subSamples := a.subSamples, rows := a.rows, refRow := a.refRow, tBlank := a.tBlank
          tMark := a.tMark, margin := a.margin, faint := if a.faintPolicy = 0 then .asBlank else .asWrong
          multi := if a.multiPolicy = 0 then .asBlank else .asWrong, sectionFloor := a.sectionFloor == 1
          paperFloor := max a.paperFloor (-8000), idBlock := ⟨a.idBlock.start, a.idBlock.o1, a.idBlock.o2⟩
          blocks := a.blocks.map (fun b =>
            { first := b.first, count := b.count, options := b.options
              walk := ⟨b.walk.start, b.walk.o1, b.walk.o2⟩ }) } →
    ∀ (thresholds counts tiles fits free : Prop),
    thresholds = (a.tBlank < a.tMark) → counts = (∀ b ∈ a.blocks, 1 ≤ b.count ∧ b.count ≤ 64) →
    tiles = (f.questions = (a.blocks.map AnswerBlockArgs.count).sum ∧ f.questions ≤ 200 ∧
      ∃ bs : List AnswerBlockArgs, bs.Perm a.blocks ∧ bs.Pairwise (fun b c => b.first ≤ c.first) ∧
        ∀ k b, bs[k]? = some b → b.first = 1 + ((bs.take k).map AnswerBlockArgs.count).sum) →
    fits = (f.rows * f.channels * f.subSamples ≤ 8192 ∧
      ∀ (w : BlockWalkArgs) (countM countH : Nat), (w = a.idBlock ∧ countM = 10 ∧ countH = 6 ∨
          ∃ b ∈ a.blocks, w = b.walk ∧ countM = b.options ∧ countH = b.count) →
        ∀ h m l : Nat, h < countH → m < countM → l < a.subSamples →
          0 ≤ (w.start : Int) + h * w.o2 + m * w.o1 + l ∧
          (w.start : Int) + h * w.o2 + m * w.o1 + l < f.rows * f.channels * f.subSamples) →
    free = ((p.marking = .notReady ∨ p.marking = .ready) ∧ ∀ e ∈ s.cands, e.2.paper = slot → e.2.state ≠ .marked) →
    (thresholds → counts → tiles → fits → free →
      exec (.formatLoad tag slot a) s = .next (State.replied (s.pump.modPaper slot (fun q => { q with
        format := some f, key := List.replicate f.questions none, marking := .notReady })) 0x30 tag
      (f.bytes ++ u8 f.channels ++ u8 f.questions ++ u16 (f.rows * f.channels * f.subSamples) ++
        u8 f.walks.length ++ f.walks.flatMap (fun w => u16 (w.1.lowest w.2.1 w.2.2.1 w.2.2.2).toNat ++
          u16 (w.1.highest w.2.1 w.2.2.1 w.2.2.2).toNat)))) ∧
    (¬ thresholds ∨ ¬ counts ∨ ¬ tiles ∨ ¬ fits →
      exec (.formatLoad tag slot a) s = .next (s.turnedDown 0x30 tag .format 0 0)) ∧
    (thresholds → counts → tiles → fits → ¬ free →
      exec (.formatLoad tag slot a) s = .next (s.turnedDown 0x30 tag .state 0 0))) ∧
  (∀ (tag slot first : Nat) (entries : List KeyEntryArgs) (p : Paper) (f : Format) (s : State), s.LinkFree → s.Bounded →
    slot < 8 → s.paper slot = some p → p.format = some f → p.key.length = f.questions → 1 ≤ first → first ≤ 200 →
    1 ≤ entries.length → entries.length ≤ 50 → (∀ e ∈ entries, e.sect ≤ 7) → first + entries.length - 1 ≤ f.questions →
    (∀ k e, entries[k]? = some e → e.keySet.toNat < 2 ^ f.optionsOf (first + k)) →
    s.marker = .idle ∨ (∃ j, s.marker = .marking j ∧ s.reader.bound ≠ some slot) ∨
      (∃ q n m, s.marker = .rescoring q n m ∧ q ≠ slot) →
    ∃ key p', key.length = p.key.length ∧
      (∀ k, (∀ e, entries[k]? = some e → key[first - 1 + k]? = some (some ⟨e.keySet, min e.weight 40,
        min e.penalty 40, e.sect⟩))) ∧
      (∀ q, q < first - 1 ∨ first - 1 + entries.length ≤ q → key[q]? = p.key[q]?) ∧
      p' = { p with
        key := key, generation := if p.generation = 65535 then 1 else p.generation + 1
        marking := if p.marking = .notReady ∧ (∀ e ∈ key, e ≠ none) then .ready else p.marking } ∧
      exec (.keyLoad tag slot first entries) s = .next (State.replied (s.pump.modPaper slot (fun _ => p')) 0x32 tag
        (listOf (fun e => [e.keySet] ++ u8 (min e.weight 40) ++ u8 (min e.penalty 40) ++ u8 e.sect) entries ++
          u16 p'.generation ++ u8 (key.countP Option.isNone) ++ u8 (match p'.marking with
            | .notReady => 0 | .ready => 1 | .bound => 2 | .rescoring => 3))))

/-- MARK_BIND of a READY paper at an idle reader binds it with reader ready clear and queues its GEOMETRY (R141, R179), and is
refused with RANGE, NOT_FOUND, BUSY with a paper bound, a rescore, an open record, a buffer in use or the marker at work, then
STATE; MARK_UNBIND with no open record and no marking releases it (R180). RESCORE of a READY paper with the marker IDLE and no
paper bound begins a rescore, which ends at once with no MARKED candidate, its RESCORE_DONE posted before the reply is built
by log 56, and is refused with RANGE, NOT_FOUND, STATE of a paper that is not READY, then BUSY (R181); each RESCORE_STEP
recomputes the next MARKED candidate's result with the paper's current key and generation, and the last one ends the rescore
with RESCORE_DONE (R182; log 24). -/
def Obligations.BindingAndRescoring : Prop :=
  (∀ (tag slot : Nat) (s : State), s.LinkFree →
    (8 ≤ slot → exec (.markBind tag slot) s = .next (s.turnedDown 0x34 tag .range 0 0) ∧
      exec (.rescore tag slot) s = .next (s.turnedDown 0x36 tag .range 0 0)) ∧
    (slot < 8 → s.paper slot = none → exec (.markBind tag slot) s = .next (s.turnedDown 0x34 tag .notFound 0 0) ∧
      exec (.rescore tag slot) s = .next (s.turnedDown 0x36 tag .notFound 0 0)) ∧
    (∀ p, slot < 8 → s.paper slot = some p → ∀ idle : Prop, idle = (s.reader.bound = none ∧ s.marker = .idle ∧
        s.reader.records = [] ∧ s.reader.buf0.state = .free ∧ s.reader.buf1.state = .free) →
      (¬ idle → exec (.markBind tag slot) s = .next (s.turnedDown 0x34 tag .busy 0 0)) ∧
      (idle → p.marking ≠ .ready → exec (.markBind tag slot) s = .next (s.turnedDown 0x34 tag .state 0 0)) ∧
      (p.marking ≠ .ready → exec (.rescore tag slot) s = .next (s.turnedDown 0x36 tag .state 0 0)) ∧
      (p.marking = .ready → s.marker ≠ .idle ∨ s.reader.bound ≠ none →
        exec (.rescore tag slot) s = .next (s.turnedDown 0x36 tag .busy 0 0)))) ∧
  (∀ (tag slot : Nat) (p : Paper) (f : Format) (s : State), s.LinkFree → slot < 8 → s.paper slot = some p →
    s.reader.bound = none → s.marker = .idle → s.reader.records = [] → s.reader.buf0.state = .free →
    s.reader.buf1.state = .free → p.marking = .ready → p.format = some f →
    exec (.markBind tag slot) s = .next (State.replied
      (((s.pump.modPaper slot (fun q => { q with marking := .bound })).modReader (fun r =>
        { r with bound := some slot, ready := false }.makeGeometry f)).updateFeed) 0x34 tag
      (u8 slot ++ maskBytes f.mask ++ u8 f.subSamples ++ u8 f.rows ++ u16 p.generation))) ∧
  (∀ (r : Reader) (f : Format), (r.tx.tail.any TxMsg.isGeometry = false →
      (r.makeGeometry f).tx = r.tx ++ [.geometry f.mask f.subSamples f.rows]) ∧
    (r.tx.tail.any TxMsg.isGeometry = true → (r.makeGeometry f).tx.length = r.tx.length ∧
      (r.makeGeometry f).tx.head? = r.tx.head? ∧
      ∀ m ∈ (r.makeGeometry f).tx.tail, m.isGeometry = true → m = .geometry f.mask f.subSamples f.rows)) ∧
  (∀ (tag : Nat) (s : State), s.LinkFree →
    (s.reader.bound = none → exec (.markUnbind tag) s = .next (s.turnedDown 0x35 tag .state 0 0)) ∧
    (∀ slot, s.reader.bound = some slot →
      (s.reader.records ≠ [] → exec (.markUnbind tag) s = .next (s.turnedDown 0x35 tag .state 0 0)) ∧
      (∀ j, s.reader.records = [] → s.marker = .marking j →
        exec (.markUnbind tag) s = .next (s.turnedDown 0x35 tag .busy 0 0)) ∧
      (s.reader.records = [] → (∀ j, s.marker ≠ .marking j) → exec (.markUnbind tag) s = .next (State.replied
        (((s.pump.modPaper slot (fun q => { q with marking := .ready })).modReader (fun r =>
          { r with bound := none })).updateFeed) 0x35 tag (u8 slot))))) ∧
  (∀ (tag slot : Nat) (p : Paper) (s : State), s.LinkFree → slot < 8 → s.paper slot = some p → p.marking = .ready →
    s.marker = .idle → s.reader.bound = none →
    ∀ marked, marked = s.cands.countP (fun e : Nat × Cand => e.2.paper = slot ∧ e.2.state = CandState.marked) →
    exec (.rescore tag slot) s = .next (State.replied
      (if marked = 0 then (s.pump.modPaper slot (fun q => { q with marking := .ready })).post slot
        (.rescoreDone 0 p.generation)
       else { s.pump.modPaper slot (fun q => { q with marking := .rescoring }) with
        marker := .rescoring slot 0 0 }) 0x36 tag (u16 marked ++ u16 p.generation))) ∧
  (∀ (s : State) (slot next count i : Nat) (p : Paper) (f : Format) (c : Cand) (rs : List QClass) (r : MarkResult),
    s.resetLow = false → s.Bounded → s.marker = .rescoring slot next count → s.paper slot = some p →
    p.format = some f → next ≤ i → s.cand i = some c → c.paper = slot → c.state = .marked →
    (∀ j d, next ≤ j → j < i → s.cand j = some d → d.paper = slot → d.state ≠ .marked) →
    Table.get s.responses i = some rs → c.result = some r →
    ∀ u, u = s.pump.modCand i (fun d => { d with
      result := some (scoreSheet f (p.key.filterMap id) rs p.generation r.tag) }) →
    ((∃ j d, i < j ∧ s.cand j = some d ∧ d.paper = slot ∧ d.state = .marked) →
      exec .rescoreStep s = .next { u with marker := .rescoring slot (i + 1) (count + 1) }.pump) ∧
    ((∀ j d, i < j → s.cand j = some d → d.paper = slot → d.state ≠ .marked) →
      exec .rescoreStep s = .next (({ u with marker := .idle }.modPaper slot (fun q => { q with
        marking := .ready })).post slot (.rescoreDone (count + 1) p.generation)).pump))

/-! ### The transmit queue and the Collection List -/

/-- Every step keeps what `State.Filed` says: behind the message being sent at most one FEED, one GEOMETRY and nine DIVERTs without
a record wait, each record has at most one DIVERT, while it is DECIDED, a record is open only while a paper is bound, and a
candidate is listed at most once and has then been collected. So the transmit queue holds at most 16 messages and the Collection
List at most 512 entries (R131, R137, R140, R143). That the message being sent counts with the queue is log 11's. -/
def Obligations.QueueAndListKeptByStep : Prop :=
  (∀ s t : State, s.Bounded → s.Filed → step s = .next t → t.Filed) ∧
  (∀ s : State, s.Bounded → s.Filed → s.reader.tx.length ≤ 16 ∧ s.collection.length ≤ 512)

end
end

