-- ==== Sys2Proof/Laws/Memory.lean ====
section
/-! SUPPORT. The sheet buffers: reading after a write, and the canonical form that every write keeps.
-/

namespace Sys2Proof.Machine

/-- A cell list whose addresses rise strictly, with no blank entry. -/
theorem Mem.wf_iff (m : List Host.Cell) :
    Mem.wf m = true ↔ (m.map Prod.fst).Pairwise (· < ·) ∧
      ∀ c ∈ m, c.1 < Config.bufferSize ∧ c.2 ≠ Config.blankSample := by
  simp [Mem.wf]

theorem Mem.read_put_same (m : List Host.Cell) (a : Nat) (v : Byte) (h : (m.map Prod.fst).Pairwise (· < ·)) :
    Mem.read (Mem.put m a v) a = v := by
  induction m with
  | nil => simp only [Mem.put]; split <;> simp_all [Mem.read]
  | cons e m ih =>
    obtain ⟨b, w⟩ := e
    simp only [List.map_cons, List.pairwise_cons, List.mem_map] at h
    have low : ∀ l : List Host.Cell, (∀ x ∈ l, a < x.1) → Mem.read l a = Config.blankSample := by
      intro l hl
      induction l with
      | nil => rfl
      | cons x l ih' =>
        have hx := hl x (by simp)
        simp only [Mem.read]
        rw [if_neg (by omega)]
        exact ih' (fun y hy => hl y (by simp [hy]))
    have tail : ∀ x ∈ m, b < x.1 := fun x hx => h.1 _ ⟨x, hx, rfl⟩
    simp only [Mem.put]
    split
    · rename_i hab
      split
      · subst_vars
        exact low _ (by
          intro x hx
          rcases List.mem_cons.1 hx with rfl | hx
          · exact hab
          · exact hab.trans (tail x hx))
      · simp [Mem.read]
    · split
      · subst_vars
        split
        · subst_vars; exact low _ tail
        · simp [Mem.read]
      · rename_i hne
        simp only [Mem.read]
        rw [if_neg (fun h' => hne h'.symm)]
        exact ih h.2

theorem Mem.read_put_other (m : List Host.Cell) (a : Nat) (v : Byte) (j : Nat) (hj : j ≠ a) :
    Mem.read (Mem.put m a v) j = Mem.read m j := by
  induction m with
  | nil =>
    simp only [Mem.put]
    split <;> simp [Mem.read, hj.symm]
  | cons e m ih =>
    obtain ⟨b, w⟩ := e
    simp only [Mem.put]
    split
    · split
      · rfl
      · simp [Mem.read, hj.symm]
    · split
      · subst_vars
        split <;> simp [Mem.read, hj.symm]
      · simp only [Mem.read, ih]

theorem Mem.put_keys (m : List Host.Cell) (a : Nat) (v : Byte) :
    ∀ c ∈ Mem.put m a v, c ∈ m ∨ (c = (a, v) ∧ v ≠ Config.blankSample) := by
  induction m with
  | nil =>
    intro c hc
    by_cases hv : v = Config.blankSample <;> simp_all [Mem.put]
  | cons e m ih =>
    obtain ⟨b, w⟩ := e
    intro c hc
    simp only [Mem.put] at hc
    split at hc
    · split at hc
      · exact .inl hc
      · rcases List.mem_cons.1 hc with rfl | hc
        · exact .inr ⟨rfl, by assumption⟩
        · exact .inl hc
    · split at hc
      · split at hc
        · exact .inl (List.mem_cons_of_mem _ hc)
        · rcases List.mem_cons.1 hc with rfl | hc
          · exact .inr ⟨rfl, by assumption⟩
          · exact .inl (List.mem_cons_of_mem _ hc)
      · rcases List.mem_cons.1 hc with rfl | hc
        · exact .inl (by simp)
        · rcases ih c hc with h | h
          · exact .inl (List.mem_cons_of_mem _ h)
          · exact .inr h

theorem Mem.put_pairwise (m : List Host.Cell) (a : Nat) (v : Byte) (h : (m.map Prod.fst).Pairwise (· < ·)) :
    ((Mem.put m a v).map Prod.fst).Pairwise (· < ·) := by
  induction m with
  | nil => simp only [Mem.put]; split <;> simp
  | cons e m ih =>
    obtain ⟨b, w⟩ := e
    have h' := h
    simp only [List.map_cons, List.pairwise_cons] at h
    simp only [Mem.put]
    split
    · rename_i hab
      split
      · exact h'
      · refine List.Pairwise.cons ?_ h'
        intro x hx
        rcases List.mem_cons.1 hx with rfl | hx
        · exact hab
        · exact hab.trans (h.1 x hx)
    · split
      · subst_vars
        split
        · exact h.2
        · exact h'
      · refine List.Pairwise.cons ?_ (ih h.2)
        intro x hx
        obtain ⟨c, hc, rfl⟩ := List.mem_map.1 hx
        rcases Mem.put_keys m a v c hc with hm | ⟨rfl, -⟩
        · exact h.1 _ (List.mem_map.2 ⟨c, hm, rfl⟩)
        · simp only; omega

/-- A write keeps the canonical form. -/
theorem Mem.wf_write (m : List Host.Cell) (a : Nat) (v : Byte) (h : Mem.wf m = true) :
    Mem.wf (Mem.write m a v) = true := by
  unfold Mem.write
  split
  · rename_i ha
    rw [Mem.wf_iff] at h ⊢
    refine ⟨Mem.put_pairwise m a v h.1, fun c hc => ?_⟩
    rcases Mem.put_keys m a v c hc with hm | ⟨rfl, hv⟩
    · exact h.2 c hm
    · exact ⟨ha, hv⟩
  · exact h

/-- Every operation on a buffer keeps the canonical form: samples written one after another. -/
theorem Mem.wf_writeFrom (m : List Host.Cell) (a : Nat) (vs : List Byte) (h : Mem.wf m = true) :
    Mem.wf (Mem.writeFrom m a vs) = true := by
  induction vs generalizing m a with
  | nil => exact h
  | cons v vs ih => exact ih _ _ (Mem.wf_write m a v h)

/-- What a write inside the buffer does: the address reads as written, and every other address as before. -/
theorem Mem.read_write (m : List Host.Cell) (a : Nat) (v : Byte) (j : Nat) (h : Mem.wf m = true)
    (ha : a < Config.bufferSize) : Mem.read (Mem.write m a v) j = if j = a then v else Mem.read m j := by
  have hw : Mem.write m a v = Mem.put m a v := if_pos ha
  rw [hw]
  split
  · subst_vars; exact Mem.read_put_same m _ v ((Mem.wf_iff m).1 h).1
  · exact Mem.read_put_other m a v j (by assumption)

end Sys2Proof.Machine
end

