-- ==== Sys2Proof/Laws/Tables.lean ====
section
/-! SUPPORT. What the table operations do: reading after each of them, the keys after each of them, and the canonical form
they keep.
-/

namespace Sys2Proof.Machine

variable {α : Type}

/-! ### Reading -/

@[simp] theorem Table.get_nil (k : Nat) : Table.get ([] : Table α) k = none := rfl

theorem Table.get_insert (t : Table α) (k : Nat) (v : α) (j : Nat) :
    Table.get (Table.insert t k v) j = if j = k then some v else Table.get t j := by
  induction t with
  | nil => simp [Table.insert, Table.get, eq_comm]
  | cons e t ih =>
    obtain ⟨a, w⟩ := e
    simp only [Table.insert]
    split
    · simp only [Table.get, eq_comm]
    · split
      · subst_vars
        simp only [Table.get]
        split
        · simp_all
        · split
          · exact absurd (by assumption) (Ne.symm (by assumption))
          · rfl
      · simp only [Table.get, ih]
        split <;> split <;> simp_all

theorem Table.get_modify (t : Table α) (k : Nat) (f : α → α) (j : Nat) :
    Table.get (Table.modify t k f) j = if j = k then (Table.get t j).map f else Table.get t j := by
  induction t with
  | nil => simp [Table.modify]
  | cons e t ih =>
    obtain ⟨a, w⟩ := e
    simp only [Table.modify, List.map_cons] at ih ⊢
    by_cases h : a = j <;> by_cases h' : a = k <;> simp_all [Table.get]

theorem Table.get_mapAll (t : Table α) (f : α → α) (j : Nat) :
    Table.get (Table.mapAll t f) j = (Table.get t j).map f := by
  induction t with
  | nil => rfl
  | cons e t ih =>
    simp only [Table.mapAll, List.map_cons, Table.get] at ih ⊢
    split <;> simp_all

theorem Table.get_erase (t : Table α) (k j : Nat) :
    Table.get (Table.erase t k) j = if j = k then none else Table.get t j := by
  induction t with
  | nil => simp [Table.erase]
  | cons e t ih =>
    obtain ⟨a, w⟩ := e
    simp only [Table.erase, List.filter_cons] at ih ⊢
    by_cases h : a = k <;> by_cases h' : a = j <;> simp_all [Table.get]

theorem Table.get_mem {t : Table α} {k : Nat} {v : α} (h : Table.get t k = some v) : (k, v) ∈ t := by
  induction t with
  | nil => simp at h
  | cons e t ih =>
    simp only [Table.get] at h
    split at h
    · simp_all [Prod.ext_iff]
    · exact List.mem_cons_of_mem _ (ih h)

/-! ### Keys and the canonical form -/

@[simp] theorem Table.keys_modify (t : Table α) (k : Nat) (f : α → α) :
    Table.keys (Table.modify t k f) = Table.keys t := by
  simp only [Table.keys, Table.modify, List.map_map]
  exact List.map_congr_left (fun e _ => by simp only [Function.comp]; split <;> rfl)

@[simp] theorem Table.keys_mapAll (t : Table α) (f : α → α) : Table.keys (Table.mapAll t f) = Table.keys t := by
  simp [Table.keys, Table.mapAll]

theorem Table.mem_keys_insert (t : Table α) (k : Nat) (v : α) (j : Nat) :
    j ∈ Table.keys (Table.insert t k v) ↔ j = k ∨ j ∈ Table.keys t := by
  induction t with
  | nil => simp [Table.insert, Table.keys]
  | cons e t ih =>
    obtain ⟨a, w⟩ := e
    simp only [Table.insert]
    split
    · simp [Table.keys]
    · split
      · simp_all [Table.keys]
      · simp only [Table.keys, List.map_cons, List.mem_cons] at ih ⊢
        rw [ih]; tauto

theorem Table.wf_iff (n : Nat) (t : Table α) :
    Table.wf n t = true ↔ (Table.keys t).Pairwise (· < ·) ∧ ∀ k ∈ Table.keys t, k < n := by
  simp [Table.wf]

theorem Table.wf_modify {n : Nat} {t : Table α} (k : Nat) (f : α → α) (h : Table.wf n t = true) :
    Table.wf n (Table.modify t k f) = true := by
  simpa [Table.wf] using h

theorem Table.wf_mapAll {n : Nat} {t : Table α} (f : α → α) (h : Table.wf n t = true) :
    Table.wf n (Table.mapAll t f) = true := by
  simpa [Table.wf] using h

theorem Table.wf_erase {n : Nat} {t : Table α} (k : Nat) (h : Table.wf n t = true) :
    Table.wf n (Table.erase t k) = true := by
  rw [Table.wf_iff] at h ⊢
  have hs : (Table.keys (Table.erase t k)).Sublist (Table.keys t) :=
    List.Sublist.map _ List.filter_sublist
  exact ⟨h.1.sublist hs, fun j hj => h.2 j (hs.subset hj)⟩

theorem Table.wf_insert {n : Nat} {t : Table α} {k : Nat} (v : α) (hk : k < n) (h : Table.wf n t = true) :
    Table.wf n (Table.insert t k v) = true := by
  rw [Table.wf_iff] at h ⊢
  refine ⟨?_, fun j hj => ?_⟩
  · replace h := h.1
    induction t with
    | nil => simp [Table.insert, Table.keys]
    | cons e t ih =>
      obtain ⟨a, w⟩ := e
      simp only [Table.keys, List.map_cons, List.pairwise_cons] at h
      simp only [Table.insert]
      split
      · rename_i hka
        refine List.Pairwise.cons ?_ (List.Pairwise.cons h.1 h.2)
        intro b hb
        simp only [List.map_cons, List.mem_cons] at hb
        rcases hb with rfl | hb
        · exact hka
        · exact hka.trans (h.1 b hb)
      · split
        · subst_vars
          exact List.Pairwise.cons h.1 h.2
        · refine List.Pairwise.cons ?_ (ih h.2)
          intro b hb
          rcases (Table.mem_keys_insert t k v b).1 hb with rfl | hb
          · omega
          · exact h.1 b hb
  · rcases (Table.mem_keys_insert t k v j).1 hj with rfl | hj
    · exact hk
    · exact h.2 j hj

theorem Table.get_lt {n : Nat} {t : Table α} (h : Table.wf n t = true) {k : Nat} {v : α}
    (hk : Table.get t k = some v) : k < n :=
  ((Table.wf_iff n t).1 h).2 k (List.mem_map.2 ⟨(k, v), Table.get_mem hk, rfl⟩)

theorem Table.firstFree_spec {t : Table α} {n k : Nat} (h : Table.firstFree t n = some k) :
    k < n ∧ Table.get t k = none ∧ ∀ j < k, (Table.get t j).isSome := by
  unfold Table.firstFree at h
  obtain ⟨h1, h2⟩ := List.find?_eq_some_iff_append.1 h
  obtain ⟨as, bs, e, hb⟩ := h2
  have hlen : as.length = k := by
    have := congrArg (fun l => l[as.length]?) e
    simp only [List.getElem?_append_right (le_refl _), Nat.sub_self, List.getElem?_cons_zero] at this
    rw [List.getElem?_range (by have := congrArg List.length e; simp at this; omega)] at this
    simpa using this
  refine ⟨?_, by simpa using h1, fun j hj => ?_⟩
  · have := congrArg List.length e
    simp at this; omega
  · have hm : j ∈ as := by
      have := congrArg (fun l => l[j]?) e
      simp only [List.getElem?_append_left (show j < as.length by omega)] at this
      rw [List.getElem?_range (by have := congrArg List.length e; simp at this; omega)] at this
      exact List.mem_of_getElem? this.symm
    simpa [Option.isSome_iff_ne_none] using hb j hm

end Sys2Proof.Machine
end

