-- ==== Sys2Proof/Laws/State.lean ====
section
/-! SUPPORT. One lemma per field of State and per update: what the update leaves as it was.
-/

namespace Sys2Proof.Machine

variable (s : State)

/-! ### State.post -/

@[simp] theorem State.post_cands (n : Nat) (b : NoticeBody) : (s.post n b).cands = s.cands := rfl
@[simp] theorem State.post_papers (n : Nat) (b : NoticeBody) : (s.post n b).papers = s.papers := rfl
@[simp] theorem State.post_hall (n : Nat) (b : NoticeBody) : (s.post n b).hall = s.hall := rfl
@[simp] theorem State.post_seats (n : Nat) (b : NoticeBody) : (s.post n b).seats = s.seats := rfl
@[simp] theorem State.post_loops (n : Nat) (b : NoticeBody) : (s.post n b).loops = s.loops := rfl
@[simp] theorem State.post_sweep (n : Nat) (b : NoticeBody) : (s.post n b).sweep = s.sweep := rfl
@[simp] theorem State.post_closing (n : Nat) (b : NoticeBody) : (s.post n b).closing = s.closing := rfl
@[simp] theorem State.post_passList (n : Nat) (b : NoticeBody) : (s.post n b).passList = s.passList := rfl
@[simp] theorem State.post_window (n : Nat) (b : NoticeBody) : (s.post n b).window = s.window := rfl
@[simp] theorem State.post_pollFrame (n : Nat) (b : NoticeBody) : (s.post n b).pollFrame = s.pollFrame := rfl
@[simp] theorem State.post_job (n : Nat) (b : NoticeBody) : (s.post n b).job = s.job := rfl
@[simp] theorem State.post_lastOutcome (n : Nat) (b : NoticeBody) : (s.post n b).lastOutcome = s.lastOutcome := rfl
@[simp] theorem State.post_hallTime (n : Nat) (b : NoticeBody) : (s.post n b).hallTime = s.hallTime := rfl
@[simp] theorem State.post_hold (n : Nat) (b : NoticeBody) : (s.post n b).hold = s.hold := rfl
@[simp] theorem State.post_holdElapsed (n : Nat) (b : NoticeBody) : (s.post n b).holdElapsed = s.holdElapsed := rfl
@[simp] theorem State.post_holdLine (n : Nat) (b : NoticeBody) : (s.post n b).holdLine = s.holdLine := rfl
@[simp] theorem State.post_collection (n : Nat) (b : NoticeBody) : (s.post n b).collection = s.collection := rfl
@[simp] theorem State.post_reader (n : Nat) (b : NoticeBody) : (s.post n b).reader = s.reader := rfl
@[simp] theorem State.post_marker (n : Nat) (b : NoticeBody) : (s.post n b).marker = s.marker := rfl
@[simp] theorem State.post_responses (n : Nat) (b : NoticeBody) : (s.post n b).responses = s.responses := rfl
@[simp] theorem State.post_resetLow (n : Nat) (b : NoticeBody) : (s.post n b).resetLow = s.resetLow := rfl
@[simp] theorem State.post_pending (n : Nat) (b : NoticeBody) : (s.post n b).pending = s.pending := rfl

/-! ### State.reply -/

@[simp] theorem State.reply_cands (k g : Byte) (a : Answer) : (s.reply k g a).cands = s.cands := rfl
@[simp] theorem State.reply_papers (k g : Byte) (a : Answer) : (s.reply k g a).papers = s.papers := rfl
@[simp] theorem State.reply_hall (k g : Byte) (a : Answer) : (s.reply k g a).hall = s.hall := rfl
@[simp] theorem State.reply_seats (k g : Byte) (a : Answer) : (s.reply k g a).seats = s.seats := rfl
@[simp] theorem State.reply_loops (k g : Byte) (a : Answer) : (s.reply k g a).loops = s.loops := rfl
@[simp] theorem State.reply_sweep (k g : Byte) (a : Answer) : (s.reply k g a).sweep = s.sweep := rfl
@[simp] theorem State.reply_closing (k g : Byte) (a : Answer) : (s.reply k g a).closing = s.closing := rfl
@[simp] theorem State.reply_passList (k g : Byte) (a : Answer) : (s.reply k g a).passList = s.passList := rfl
@[simp] theorem State.reply_window (k g : Byte) (a : Answer) : (s.reply k g a).window = s.window := rfl
@[simp] theorem State.reply_pollFrame (k g : Byte) (a : Answer) : (s.reply k g a).pollFrame = s.pollFrame := rfl
@[simp] theorem State.reply_job (k g : Byte) (a : Answer) : (s.reply k g a).job = s.job := rfl
@[simp] theorem State.reply_lastOutcome (k g : Byte) (a : Answer) : (s.reply k g a).lastOutcome = s.lastOutcome := rfl
@[simp] theorem State.reply_hallTime (k g : Byte) (a : Answer) : (s.reply k g a).hallTime = s.hallTime := rfl
@[simp] theorem State.reply_hold (k g : Byte) (a : Answer) : (s.reply k g a).hold = s.hold := rfl
@[simp] theorem State.reply_holdElapsed (k g : Byte) (a : Answer) : (s.reply k g a).holdElapsed = s.holdElapsed := rfl
@[simp] theorem State.reply_holdLine (k g : Byte) (a : Answer) : (s.reply k g a).holdLine = s.holdLine := rfl
@[simp] theorem State.reply_collection (k g : Byte) (a : Answer) : (s.reply k g a).collection = s.collection := rfl
@[simp] theorem State.reply_reader (k g : Byte) (a : Answer) : (s.reply k g a).reader = s.reader := rfl
@[simp] theorem State.reply_marker (k g : Byte) (a : Answer) : (s.reply k g a).marker = s.marker := rfl
@[simp] theorem State.reply_responses (k g : Byte) (a : Answer) : (s.reply k g a).responses = s.responses := rfl
@[simp] theorem State.reply_resetLow (k g : Byte) (a : Answer) : (s.reply k g a).resetLow = s.resetLow := rfl
@[simp] theorem State.reply_pending (k g : Byte) (a : Answer) : (s.reply k g a).pending = s.pending := rfl

/-! ### State.pump -/

@[simp] theorem State.pump_cands : (s.pump).cands = s.cands := rfl
@[simp] theorem State.pump_papers : (s.pump).papers = s.papers := rfl
@[simp] theorem State.pump_hall : (s.pump).hall = s.hall := rfl
@[simp] theorem State.pump_seats : (s.pump).seats = s.seats := rfl
@[simp] theorem State.pump_loops : (s.pump).loops = s.loops := rfl
@[simp] theorem State.pump_sweep : (s.pump).sweep = s.sweep := rfl
@[simp] theorem State.pump_closing : (s.pump).closing = s.closing := rfl
@[simp] theorem State.pump_passList : (s.pump).passList = s.passList := rfl
@[simp] theorem State.pump_window : (s.pump).window = s.window := rfl
@[simp] theorem State.pump_pollFrame : (s.pump).pollFrame = s.pollFrame := rfl
@[simp] theorem State.pump_job : (s.pump).job = s.job := rfl
@[simp] theorem State.pump_lastOutcome : (s.pump).lastOutcome = s.lastOutcome := rfl
@[simp] theorem State.pump_hallTime : (s.pump).hallTime = s.hallTime := rfl
@[simp] theorem State.pump_hold : (s.pump).hold = s.hold := rfl
@[simp] theorem State.pump_holdElapsed : (s.pump).holdElapsed = s.holdElapsed := rfl
@[simp] theorem State.pump_holdLine : (s.pump).holdLine = s.holdLine := rfl
@[simp] theorem State.pump_collection : (s.pump).collection = s.collection := rfl
@[simp] theorem State.pump_reader : (s.pump).reader = s.reader := rfl
@[simp] theorem State.pump_marker : (s.pump).marker = s.marker := rfl
@[simp] theorem State.pump_responses : (s.pump).responses = s.responses := rfl
@[simp] theorem State.pump_resetLow : (s.pump).resetLow = s.resetLow := rfl
@[simp] theorem State.pump_pending : (s.pump).pending = s.pending := rfl

/-! ### State.discardFrame -/

@[simp] theorem State.discardFrame_cands : (s.discardFrame).cands = s.cands := rfl
@[simp] theorem State.discardFrame_papers : (s.discardFrame).papers = s.papers := rfl
@[simp] theorem State.discardFrame_hall : (s.discardFrame).hall = s.hall := rfl
@[simp] theorem State.discardFrame_seats : (s.discardFrame).seats = s.seats := rfl
@[simp] theorem State.discardFrame_loops : (s.discardFrame).loops = s.loops := rfl
@[simp] theorem State.discardFrame_sweep : (s.discardFrame).sweep = s.sweep := rfl
@[simp] theorem State.discardFrame_closing : (s.discardFrame).closing = s.closing := rfl
@[simp] theorem State.discardFrame_passList : (s.discardFrame).passList = s.passList := rfl
@[simp] theorem State.discardFrame_window : (s.discardFrame).window = s.window := rfl
@[simp] theorem State.discardFrame_pollFrame : (s.discardFrame).pollFrame = s.pollFrame := rfl
@[simp] theorem State.discardFrame_job : (s.discardFrame).job = s.job := rfl
@[simp] theorem State.discardFrame_lastOutcome : (s.discardFrame).lastOutcome = s.lastOutcome := rfl
@[simp] theorem State.discardFrame_hallTime : (s.discardFrame).hallTime = s.hallTime := rfl
@[simp] theorem State.discardFrame_hold : (s.discardFrame).hold = s.hold := rfl
@[simp] theorem State.discardFrame_holdElapsed : (s.discardFrame).holdElapsed = s.holdElapsed := rfl
@[simp] theorem State.discardFrame_holdLine : (s.discardFrame).holdLine = s.holdLine := rfl
@[simp] theorem State.discardFrame_collection : (s.discardFrame).collection = s.collection := rfl
@[simp] theorem State.discardFrame_reader : (s.discardFrame).reader = s.reader := rfl
@[simp] theorem State.discardFrame_marker : (s.discardFrame).marker = s.marker := rfl
@[simp] theorem State.discardFrame_responses : (s.discardFrame).responses = s.responses := rfl
@[simp] theorem State.discardFrame_resetLow : (s.discardFrame).resetLow = s.resetLow := rfl
@[simp] theorem State.discardFrame_pending : (s.discardFrame).pending = s.pending := rfl

/-! ### State.setRx -/

@[simp] theorem State.setRx_cands (r : HostRx) : (s.setRx r).cands = s.cands := rfl
@[simp] theorem State.setRx_papers (r : HostRx) : (s.setRx r).papers = s.papers := rfl
@[simp] theorem State.setRx_hall (r : HostRx) : (s.setRx r).hall = s.hall := rfl
@[simp] theorem State.setRx_seats (r : HostRx) : (s.setRx r).seats = s.seats := rfl
@[simp] theorem State.setRx_loops (r : HostRx) : (s.setRx r).loops = s.loops := rfl
@[simp] theorem State.setRx_sweep (r : HostRx) : (s.setRx r).sweep = s.sweep := rfl
@[simp] theorem State.setRx_closing (r : HostRx) : (s.setRx r).closing = s.closing := rfl
@[simp] theorem State.setRx_passList (r : HostRx) : (s.setRx r).passList = s.passList := rfl
@[simp] theorem State.setRx_window (r : HostRx) : (s.setRx r).window = s.window := rfl
@[simp] theorem State.setRx_pollFrame (r : HostRx) : (s.setRx r).pollFrame = s.pollFrame := rfl
@[simp] theorem State.setRx_job (r : HostRx) : (s.setRx r).job = s.job := rfl
@[simp] theorem State.setRx_lastOutcome (r : HostRx) : (s.setRx r).lastOutcome = s.lastOutcome := rfl
@[simp] theorem State.setRx_hallTime (r : HostRx) : (s.setRx r).hallTime = s.hallTime := rfl
@[simp] theorem State.setRx_hold (r : HostRx) : (s.setRx r).hold = s.hold := rfl
@[simp] theorem State.setRx_holdElapsed (r : HostRx) : (s.setRx r).holdElapsed = s.holdElapsed := rfl
@[simp] theorem State.setRx_holdLine (r : HostRx) : (s.setRx r).holdLine = s.holdLine := rfl
@[simp] theorem State.setRx_collection (r : HostRx) : (s.setRx r).collection = s.collection := rfl
@[simp] theorem State.setRx_reader (r : HostRx) : (s.setRx r).reader = s.reader := rfl
@[simp] theorem State.setRx_marker (r : HostRx) : (s.setRx r).marker = s.marker := rfl
@[simp] theorem State.setRx_responses (r : HostRx) : (s.setRx r).responses = s.responses := rfl
@[simp] theorem State.setRx_resetLow (r : HostRx) : (s.setRx r).resetLow = s.resetLow := rfl
@[simp] theorem State.setRx_pending (r : HostRx) : (s.setRx r).pending = s.pending := rfl

/-! ### State.discardRx -/

@[simp] theorem State.discardRx_cands : (s.discardRx).cands = s.cands := rfl
@[simp] theorem State.discardRx_papers : (s.discardRx).papers = s.papers := rfl
@[simp] theorem State.discardRx_hall : (s.discardRx).hall = s.hall := rfl
@[simp] theorem State.discardRx_seats : (s.discardRx).seats = s.seats := rfl
@[simp] theorem State.discardRx_loops : (s.discardRx).loops = s.loops := rfl
@[simp] theorem State.discardRx_sweep : (s.discardRx).sweep = s.sweep := rfl
@[simp] theorem State.discardRx_closing : (s.discardRx).closing = s.closing := rfl
@[simp] theorem State.discardRx_passList : (s.discardRx).passList = s.passList := rfl
@[simp] theorem State.discardRx_window : (s.discardRx).window = s.window := rfl
@[simp] theorem State.discardRx_pollFrame : (s.discardRx).pollFrame = s.pollFrame := rfl
@[simp] theorem State.discardRx_job : (s.discardRx).job = s.job := rfl
@[simp] theorem State.discardRx_lastOutcome : (s.discardRx).lastOutcome = s.lastOutcome := rfl
@[simp] theorem State.discardRx_hallTime : (s.discardRx).hallTime = s.hallTime := rfl
@[simp] theorem State.discardRx_hold : (s.discardRx).hold = s.hold := rfl
@[simp] theorem State.discardRx_holdElapsed : (s.discardRx).holdElapsed = s.holdElapsed := rfl
@[simp] theorem State.discardRx_holdLine : (s.discardRx).holdLine = s.holdLine := rfl
@[simp] theorem State.discardRx_collection : (s.discardRx).collection = s.collection := rfl
@[simp] theorem State.discardRx_reader : (s.discardRx).reader = s.reader := rfl
@[simp] theorem State.discardRx_marker : (s.discardRx).marker = s.marker := rfl
@[simp] theorem State.discardRx_responses : (s.discardRx).responses = s.responses := rfl
@[simp] theorem State.discardRx_resetLow : (s.discardRx).resetLow = s.resetLow := rfl
@[simp] theorem State.discardRx_pending : (s.discardRx).pending = s.pending := rfl

/-! ### State.traceChange -/

@[simp] theorem State.traceChange_cands (i : Nat) (o n : Cand) (c : Cause) : (s.traceChange i o n c).cands = s.cands :=
  by unfold State.traceChange; split <;> simp
@[simp] theorem State.traceChange_papers (i : Nat) (o n : Cand) (c : Cause) : (s.traceChange i o n c).papers = s.papers :=
  by unfold State.traceChange; split <;> simp
@[simp] theorem State.traceChange_hall (i : Nat) (o n : Cand) (c : Cause) : (s.traceChange i o n c).hall = s.hall :=
  by unfold State.traceChange; split <;> simp
@[simp] theorem State.traceChange_seats (i : Nat) (o n : Cand) (c : Cause) : (s.traceChange i o n c).seats = s.seats :=
  by unfold State.traceChange; split <;> simp
@[simp] theorem State.traceChange_loops (i : Nat) (o n : Cand) (c : Cause) : (s.traceChange i o n c).loops = s.loops :=
  by unfold State.traceChange; split <;> simp
@[simp] theorem State.traceChange_sweep (i : Nat) (o n : Cand) (c : Cause) : (s.traceChange i o n c).sweep = s.sweep :=
  by unfold State.traceChange; split <;> simp
@[simp] theorem State.traceChange_closing (i : Nat) (o n : Cand) (c : Cause) : (s.traceChange i o n c).closing = s.closing :=
  by unfold State.traceChange; split <;> simp
@[simp] theorem State.traceChange_passList (i : Nat) (o n : Cand) (c : Cause) : (s.traceChange i o n c).passList = s.passList :=
  by unfold State.traceChange; split <;> simp
@[simp] theorem State.traceChange_window (i : Nat) (o n : Cand) (c : Cause) : (s.traceChange i o n c).window = s.window :=
  by unfold State.traceChange; split <;> simp
@[simp] theorem State.traceChange_pollFrame (i : Nat) (o n : Cand) (c : Cause) : (s.traceChange i o n c).pollFrame = s.pollFrame :=
  by unfold State.traceChange; split <;> simp
@[simp] theorem State.traceChange_job (i : Nat) (o n : Cand) (c : Cause) : (s.traceChange i o n c).job = s.job :=
  by unfold State.traceChange; split <;> simp
@[simp] theorem State.traceChange_lastOutcome (i : Nat) (o n : Cand) (c : Cause) : (s.traceChange i o n c).lastOutcome = s.lastOutcome :=
  by unfold State.traceChange; split <;> simp
@[simp] theorem State.traceChange_hallTime (i : Nat) (o n : Cand) (c : Cause) : (s.traceChange i o n c).hallTime = s.hallTime :=
  by unfold State.traceChange; split <;> simp
@[simp] theorem State.traceChange_hold (i : Nat) (o n : Cand) (c : Cause) : (s.traceChange i o n c).hold = s.hold :=
  by unfold State.traceChange; split <;> simp
@[simp] theorem State.traceChange_holdElapsed (i : Nat) (o n : Cand) (c : Cause) : (s.traceChange i o n c).holdElapsed = s.holdElapsed :=
  by unfold State.traceChange; split <;> simp
@[simp] theorem State.traceChange_holdLine (i : Nat) (o n : Cand) (c : Cause) : (s.traceChange i o n c).holdLine = s.holdLine :=
  by unfold State.traceChange; split <;> simp
@[simp] theorem State.traceChange_collection (i : Nat) (o n : Cand) (c : Cause) : (s.traceChange i o n c).collection = s.collection :=
  by unfold State.traceChange; split <;> simp
@[simp] theorem State.traceChange_reader (i : Nat) (o n : Cand) (c : Cause) : (s.traceChange i o n c).reader = s.reader :=
  by unfold State.traceChange; split <;> simp
@[simp] theorem State.traceChange_marker (i : Nat) (o n : Cand) (c : Cause) : (s.traceChange i o n c).marker = s.marker :=
  by unfold State.traceChange; split <;> simp
@[simp] theorem State.traceChange_responses (i : Nat) (o n : Cand) (c : Cause) : (s.traceChange i o n c).responses = s.responses :=
  by unfold State.traceChange; split <;> simp
@[simp] theorem State.traceChange_resetLow (i : Nat) (o n : Cand) (c : Cause) : (s.traceChange i o n c).resetLow = s.resetLow :=
  by unfold State.traceChange; split <;> simp
@[simp] theorem State.traceChange_pending (i : Nat) (o n : Cand) (c : Cause) : (s.traceChange i o n c).pending = s.pending :=
  by unfold State.traceChange; split <;> simp

/-! ### State.traceOne -/

@[simp] theorem State.traceOne_cands (i : Nat) (o : Cand) (c : Cause) : (s.traceOne i o c).cands = s.cands :=
  by unfold State.traceOne; split <;> simp
@[simp] theorem State.traceOne_papers (i : Nat) (o : Cand) (c : Cause) : (s.traceOne i o c).papers = s.papers :=
  by unfold State.traceOne; split <;> simp
@[simp] theorem State.traceOne_hall (i : Nat) (o : Cand) (c : Cause) : (s.traceOne i o c).hall = s.hall :=
  by unfold State.traceOne; split <;> simp
@[simp] theorem State.traceOne_seats (i : Nat) (o : Cand) (c : Cause) : (s.traceOne i o c).seats = s.seats :=
  by unfold State.traceOne; split <;> simp
@[simp] theorem State.traceOne_loops (i : Nat) (o : Cand) (c : Cause) : (s.traceOne i o c).loops = s.loops :=
  by unfold State.traceOne; split <;> simp
@[simp] theorem State.traceOne_sweep (i : Nat) (o : Cand) (c : Cause) : (s.traceOne i o c).sweep = s.sweep :=
  by unfold State.traceOne; split <;> simp
@[simp] theorem State.traceOne_closing (i : Nat) (o : Cand) (c : Cause) : (s.traceOne i o c).closing = s.closing :=
  by unfold State.traceOne; split <;> simp
@[simp] theorem State.traceOne_passList (i : Nat) (o : Cand) (c : Cause) : (s.traceOne i o c).passList = s.passList :=
  by unfold State.traceOne; split <;> simp
@[simp] theorem State.traceOne_window (i : Nat) (o : Cand) (c : Cause) : (s.traceOne i o c).window = s.window :=
  by unfold State.traceOne; split <;> simp
@[simp] theorem State.traceOne_pollFrame (i : Nat) (o : Cand) (c : Cause) : (s.traceOne i o c).pollFrame = s.pollFrame :=
  by unfold State.traceOne; split <;> simp
@[simp] theorem State.traceOne_job (i : Nat) (o : Cand) (c : Cause) : (s.traceOne i o c).job = s.job :=
  by unfold State.traceOne; split <;> simp
@[simp] theorem State.traceOne_lastOutcome (i : Nat) (o : Cand) (c : Cause) : (s.traceOne i o c).lastOutcome = s.lastOutcome :=
  by unfold State.traceOne; split <;> simp
@[simp] theorem State.traceOne_hallTime (i : Nat) (o : Cand) (c : Cause) : (s.traceOne i o c).hallTime = s.hallTime :=
  by unfold State.traceOne; split <;> simp
@[simp] theorem State.traceOne_hold (i : Nat) (o : Cand) (c : Cause) : (s.traceOne i o c).hold = s.hold :=
  by unfold State.traceOne; split <;> simp
@[simp] theorem State.traceOne_holdElapsed (i : Nat) (o : Cand) (c : Cause) : (s.traceOne i o c).holdElapsed = s.holdElapsed :=
  by unfold State.traceOne; split <;> simp
@[simp] theorem State.traceOne_holdLine (i : Nat) (o : Cand) (c : Cause) : (s.traceOne i o c).holdLine = s.holdLine :=
  by unfold State.traceOne; split <;> simp
@[simp] theorem State.traceOne_collection (i : Nat) (o : Cand) (c : Cause) : (s.traceOne i o c).collection = s.collection :=
  by unfold State.traceOne; split <;> simp
@[simp] theorem State.traceOne_reader (i : Nat) (o : Cand) (c : Cause) : (s.traceOne i o c).reader = s.reader :=
  by unfold State.traceOne; split <;> simp
@[simp] theorem State.traceOne_marker (i : Nat) (o : Cand) (c : Cause) : (s.traceOne i o c).marker = s.marker :=
  by unfold State.traceOne; split <;> simp
@[simp] theorem State.traceOne_responses (i : Nat) (o : Cand) (c : Cause) : (s.traceOne i o c).responses = s.responses :=
  by unfold State.traceOne; split <;> simp
@[simp] theorem State.traceOne_resetLow (i : Nat) (o : Cand) (c : Cause) : (s.traceOne i o c).resetLow = s.resetLow :=
  by unfold State.traceOne; split <;> simp
@[simp] theorem State.traceOne_pending (i : Nat) (o : Cand) (c : Cause) : (s.traceOne i o c).pending = s.pending :=
  by unfold State.traceOne; split <;> simp

/-! ### State.traceAllBy -/

/-- The fold of WATCH_TRACE notices changes nothing but the link. -/
theorem State.traceFold_keeps (b : Table Cand) (c : Cand → Cause) {β : Type} (g : State → β)
    (hg : ∀ (t : State) (i : Nat) (o n : Cand) (x : Cause), g (t.traceChange i o n x) = g t) (l : Table Cand) (t : State) :
    g (l.foldl (fun t e =>
      match Table.get b e.1 with
      | some o => t.traceChange e.1 o e.2 (c e.2)
      | none => t) t) = g t := by
  induction l generalizing t with
  | nil => rfl
  | cons e l ih =>
    simp only [List.foldl_cons]
    rw [ih]
    split
    · exact hg ..
    · rfl

@[simp] theorem State.traceAllBy_cands (b : Table Cand) (c : Cand → Cause) : (s.traceAllBy b c).cands = s.cands :=
  State.traceFold_keeps b c State.cands (fun _ _ _ _ _ => by simp) _ _
@[simp] theorem State.traceAllBy_papers (b : Table Cand) (c : Cand → Cause) : (s.traceAllBy b c).papers = s.papers :=
  State.traceFold_keeps b c State.papers (fun _ _ _ _ _ => by simp) _ _
@[simp] theorem State.traceAllBy_hall (b : Table Cand) (c : Cand → Cause) : (s.traceAllBy b c).hall = s.hall :=
  State.traceFold_keeps b c State.hall (fun _ _ _ _ _ => by simp) _ _
@[simp] theorem State.traceAllBy_seats (b : Table Cand) (c : Cand → Cause) : (s.traceAllBy b c).seats = s.seats :=
  State.traceFold_keeps b c State.seats (fun _ _ _ _ _ => by simp) _ _
@[simp] theorem State.traceAllBy_loops (b : Table Cand) (c : Cand → Cause) : (s.traceAllBy b c).loops = s.loops :=
  State.traceFold_keeps b c State.loops (fun _ _ _ _ _ => by simp) _ _
@[simp] theorem State.traceAllBy_sweep (b : Table Cand) (c : Cand → Cause) : (s.traceAllBy b c).sweep = s.sweep :=
  State.traceFold_keeps b c State.sweep (fun _ _ _ _ _ => by simp) _ _
@[simp] theorem State.traceAllBy_closing (b : Table Cand) (c : Cand → Cause) : (s.traceAllBy b c).closing = s.closing :=
  State.traceFold_keeps b c State.closing (fun _ _ _ _ _ => by simp) _ _
@[simp] theorem State.traceAllBy_passList (b : Table Cand) (c : Cand → Cause) : (s.traceAllBy b c).passList = s.passList :=
  State.traceFold_keeps b c State.passList (fun _ _ _ _ _ => by simp) _ _
@[simp] theorem State.traceAllBy_window (b : Table Cand) (c : Cand → Cause) : (s.traceAllBy b c).window = s.window :=
  State.traceFold_keeps b c State.window (fun _ _ _ _ _ => by simp) _ _
@[simp] theorem State.traceAllBy_pollFrame (b : Table Cand) (c : Cand → Cause) : (s.traceAllBy b c).pollFrame = s.pollFrame :=
  State.traceFold_keeps b c State.pollFrame (fun _ _ _ _ _ => by simp) _ _
@[simp] theorem State.traceAllBy_job (b : Table Cand) (c : Cand → Cause) : (s.traceAllBy b c).job = s.job :=
  State.traceFold_keeps b c State.job (fun _ _ _ _ _ => by simp) _ _
@[simp] theorem State.traceAllBy_lastOutcome (b : Table Cand) (c : Cand → Cause) : (s.traceAllBy b c).lastOutcome = s.lastOutcome :=
  State.traceFold_keeps b c State.lastOutcome (fun _ _ _ _ _ => by simp) _ _
@[simp] theorem State.traceAllBy_hallTime (b : Table Cand) (c : Cand → Cause) : (s.traceAllBy b c).hallTime = s.hallTime :=
  State.traceFold_keeps b c State.hallTime (fun _ _ _ _ _ => by simp) _ _
@[simp] theorem State.traceAllBy_hold (b : Table Cand) (c : Cand → Cause) : (s.traceAllBy b c).hold = s.hold :=
  State.traceFold_keeps b c State.hold (fun _ _ _ _ _ => by simp) _ _
@[simp] theorem State.traceAllBy_holdElapsed (b : Table Cand) (c : Cand → Cause) : (s.traceAllBy b c).holdElapsed = s.holdElapsed :=
  State.traceFold_keeps b c State.holdElapsed (fun _ _ _ _ _ => by simp) _ _
@[simp] theorem State.traceAllBy_holdLine (b : Table Cand) (c : Cand → Cause) : (s.traceAllBy b c).holdLine = s.holdLine :=
  State.traceFold_keeps b c State.holdLine (fun _ _ _ _ _ => by simp) _ _
@[simp] theorem State.traceAllBy_collection (b : Table Cand) (c : Cand → Cause) : (s.traceAllBy b c).collection = s.collection :=
  State.traceFold_keeps b c State.collection (fun _ _ _ _ _ => by simp) _ _
@[simp] theorem State.traceAllBy_reader (b : Table Cand) (c : Cand → Cause) : (s.traceAllBy b c).reader = s.reader :=
  State.traceFold_keeps b c State.reader (fun _ _ _ _ _ => by simp) _ _
@[simp] theorem State.traceAllBy_marker (b : Table Cand) (c : Cand → Cause) : (s.traceAllBy b c).marker = s.marker :=
  State.traceFold_keeps b c State.marker (fun _ _ _ _ _ => by simp) _ _
@[simp] theorem State.traceAllBy_responses (b : Table Cand) (c : Cand → Cause) : (s.traceAllBy b c).responses = s.responses :=
  State.traceFold_keeps b c State.responses (fun _ _ _ _ _ => by simp) _ _
@[simp] theorem State.traceAllBy_resetLow (b : Table Cand) (c : Cand → Cause) : (s.traceAllBy b c).resetLow = s.resetLow :=
  State.traceFold_keeps b c State.resetLow (fun _ _ _ _ _ => by simp) _ _
@[simp] theorem State.traceAllBy_pending (b : Table Cand) (c : Cand → Cause) : (s.traceAllBy b c).pending = s.pending :=
  State.traceFold_keeps b c State.pending (fun _ _ _ _ _ => by simp) _ _

/-! ### State.traceAll -/

@[simp] theorem State.traceAll_cands (b : Table Cand) (c : Cause) : (s.traceAll b c).cands = s.cands :=
  by simp [State.traceAll]
@[simp] theorem State.traceAll_papers (b : Table Cand) (c : Cause) : (s.traceAll b c).papers = s.papers :=
  by simp [State.traceAll]
@[simp] theorem State.traceAll_hall (b : Table Cand) (c : Cause) : (s.traceAll b c).hall = s.hall :=
  by simp [State.traceAll]
@[simp] theorem State.traceAll_seats (b : Table Cand) (c : Cause) : (s.traceAll b c).seats = s.seats :=
  by simp [State.traceAll]
@[simp] theorem State.traceAll_loops (b : Table Cand) (c : Cause) : (s.traceAll b c).loops = s.loops :=
  by simp [State.traceAll]
@[simp] theorem State.traceAll_sweep (b : Table Cand) (c : Cause) : (s.traceAll b c).sweep = s.sweep :=
  by simp [State.traceAll]
@[simp] theorem State.traceAll_closing (b : Table Cand) (c : Cause) : (s.traceAll b c).closing = s.closing :=
  by simp [State.traceAll]
@[simp] theorem State.traceAll_passList (b : Table Cand) (c : Cause) : (s.traceAll b c).passList = s.passList :=
  by simp [State.traceAll]
@[simp] theorem State.traceAll_window (b : Table Cand) (c : Cause) : (s.traceAll b c).window = s.window :=
  by simp [State.traceAll]
@[simp] theorem State.traceAll_pollFrame (b : Table Cand) (c : Cause) : (s.traceAll b c).pollFrame = s.pollFrame :=
  by simp [State.traceAll]
@[simp] theorem State.traceAll_job (b : Table Cand) (c : Cause) : (s.traceAll b c).job = s.job :=
  by simp [State.traceAll]
@[simp] theorem State.traceAll_lastOutcome (b : Table Cand) (c : Cause) : (s.traceAll b c).lastOutcome = s.lastOutcome :=
  by simp [State.traceAll]
@[simp] theorem State.traceAll_hallTime (b : Table Cand) (c : Cause) : (s.traceAll b c).hallTime = s.hallTime :=
  by simp [State.traceAll]
@[simp] theorem State.traceAll_hold (b : Table Cand) (c : Cause) : (s.traceAll b c).hold = s.hold :=
  by simp [State.traceAll]
@[simp] theorem State.traceAll_holdElapsed (b : Table Cand) (c : Cause) : (s.traceAll b c).holdElapsed = s.holdElapsed :=
  by simp [State.traceAll]
@[simp] theorem State.traceAll_holdLine (b : Table Cand) (c : Cause) : (s.traceAll b c).holdLine = s.holdLine :=
  by simp [State.traceAll]
@[simp] theorem State.traceAll_collection (b : Table Cand) (c : Cause) : (s.traceAll b c).collection = s.collection :=
  by simp [State.traceAll]
@[simp] theorem State.traceAll_reader (b : Table Cand) (c : Cause) : (s.traceAll b c).reader = s.reader :=
  by simp [State.traceAll]
@[simp] theorem State.traceAll_marker (b : Table Cand) (c : Cause) : (s.traceAll b c).marker = s.marker :=
  by simp [State.traceAll]
@[simp] theorem State.traceAll_responses (b : Table Cand) (c : Cause) : (s.traceAll b c).responses = s.responses :=
  by simp [State.traceAll]
@[simp] theorem State.traceAll_resetLow (b : Table Cand) (c : Cause) : (s.traceAll b c).resetLow = s.resetLow :=
  by simp [State.traceAll]
@[simp] theorem State.traceAll_pending (b : Table Cand) (c : Cause) : (s.traceAll b c).pending = s.pending :=
  by simp [State.traceAll]

/-! ### State.modCand -/

@[simp] theorem State.modCand_papers (i : Nat) (f : Cand → Cand) : (s.modCand i f).papers = s.papers := rfl
@[simp] theorem State.modCand_hall (i : Nat) (f : Cand → Cand) : (s.modCand i f).hall = s.hall := rfl
@[simp] theorem State.modCand_seats (i : Nat) (f : Cand → Cand) : (s.modCand i f).seats = s.seats := rfl
@[simp] theorem State.modCand_loops (i : Nat) (f : Cand → Cand) : (s.modCand i f).loops = s.loops := rfl
@[simp] theorem State.modCand_sweep (i : Nat) (f : Cand → Cand) : (s.modCand i f).sweep = s.sweep := rfl
@[simp] theorem State.modCand_closing (i : Nat) (f : Cand → Cand) : (s.modCand i f).closing = s.closing := rfl
@[simp] theorem State.modCand_passList (i : Nat) (f : Cand → Cand) : (s.modCand i f).passList = s.passList := rfl
@[simp] theorem State.modCand_window (i : Nat) (f : Cand → Cand) : (s.modCand i f).window = s.window := rfl
@[simp] theorem State.modCand_pollFrame (i : Nat) (f : Cand → Cand) : (s.modCand i f).pollFrame = s.pollFrame := rfl
@[simp] theorem State.modCand_job (i : Nat) (f : Cand → Cand) : (s.modCand i f).job = s.job := rfl
@[simp] theorem State.modCand_lastOutcome (i : Nat) (f : Cand → Cand) : (s.modCand i f).lastOutcome = s.lastOutcome :=
  rfl
@[simp] theorem State.modCand_hallTime (i : Nat) (f : Cand → Cand) : (s.modCand i f).hallTime = s.hallTime := rfl
@[simp] theorem State.modCand_hold (i : Nat) (f : Cand → Cand) : (s.modCand i f).hold = s.hold := rfl
@[simp] theorem State.modCand_holdElapsed (i : Nat) (f : Cand → Cand) : (s.modCand i f).holdElapsed = s.holdElapsed :=
  rfl
@[simp] theorem State.modCand_holdLine (i : Nat) (f : Cand → Cand) : (s.modCand i f).holdLine = s.holdLine := rfl
@[simp] theorem State.modCand_collection (i : Nat) (f : Cand → Cand) : (s.modCand i f).collection = s.collection :=
  rfl
@[simp] theorem State.modCand_reader (i : Nat) (f : Cand → Cand) : (s.modCand i f).reader = s.reader := rfl
@[simp] theorem State.modCand_marker (i : Nat) (f : Cand → Cand) : (s.modCand i f).marker = s.marker := rfl
@[simp] theorem State.modCand_responses (i : Nat) (f : Cand → Cand) : (s.modCand i f).responses = s.responses := rfl
@[simp] theorem State.modCand_link (i : Nat) (f : Cand → Cand) : (s.modCand i f).link = s.link := rfl
@[simp] theorem State.modCand_resetLow (i : Nat) (f : Cand → Cand) : (s.modCand i f).resetLow = s.resetLow := rfl
@[simp] theorem State.modCand_pending (i : Nat) (f : Cand → Cand) : (s.modCand i f).pending = s.pending := rfl

/-! ### State.mapCands -/

@[simp] theorem State.mapCands_papers (p : Nat) (f : Cand → Cand) : (s.mapCands p f).papers = s.papers := rfl
@[simp] theorem State.mapCands_hall (p : Nat) (f : Cand → Cand) : (s.mapCands p f).hall = s.hall := rfl
@[simp] theorem State.mapCands_seats (p : Nat) (f : Cand → Cand) : (s.mapCands p f).seats = s.seats := rfl
@[simp] theorem State.mapCands_loops (p : Nat) (f : Cand → Cand) : (s.mapCands p f).loops = s.loops := rfl
@[simp] theorem State.mapCands_sweep (p : Nat) (f : Cand → Cand) : (s.mapCands p f).sweep = s.sweep := rfl
@[simp] theorem State.mapCands_closing (p : Nat) (f : Cand → Cand) : (s.mapCands p f).closing = s.closing := rfl
@[simp] theorem State.mapCands_passList (p : Nat) (f : Cand → Cand) : (s.mapCands p f).passList = s.passList := rfl
@[simp] theorem State.mapCands_window (p : Nat) (f : Cand → Cand) : (s.mapCands p f).window = s.window := rfl
@[simp] theorem State.mapCands_pollFrame (p : Nat) (f : Cand → Cand) : (s.mapCands p f).pollFrame = s.pollFrame := rfl
@[simp] theorem State.mapCands_job (p : Nat) (f : Cand → Cand) : (s.mapCands p f).job = s.job := rfl
@[simp] theorem State.mapCands_lastOutcome (p : Nat) (f : Cand → Cand) : (s.mapCands p f).lastOutcome = s.lastOutcome :=
  rfl
@[simp] theorem State.mapCands_hallTime (p : Nat) (f : Cand → Cand) : (s.mapCands p f).hallTime = s.hallTime := rfl
@[simp] theorem State.mapCands_hold (p : Nat) (f : Cand → Cand) : (s.mapCands p f).hold = s.hold := rfl
@[simp] theorem State.mapCands_holdElapsed (p : Nat) (f : Cand → Cand) : (s.mapCands p f).holdElapsed = s.holdElapsed :=
  rfl
@[simp] theorem State.mapCands_holdLine (p : Nat) (f : Cand → Cand) : (s.mapCands p f).holdLine = s.holdLine := rfl
@[simp] theorem State.mapCands_collection (p : Nat) (f : Cand → Cand) : (s.mapCands p f).collection = s.collection :=
  rfl
@[simp] theorem State.mapCands_reader (p : Nat) (f : Cand → Cand) : (s.mapCands p f).reader = s.reader := rfl
@[simp] theorem State.mapCands_marker (p : Nat) (f : Cand → Cand) : (s.mapCands p f).marker = s.marker := rfl
@[simp] theorem State.mapCands_responses (p : Nat) (f : Cand → Cand) : (s.mapCands p f).responses = s.responses := rfl
@[simp] theorem State.mapCands_link (p : Nat) (f : Cand → Cand) : (s.mapCands p f).link = s.link := rfl
@[simp] theorem State.mapCands_resetLow (p : Nat) (f : Cand → Cand) : (s.mapCands p f).resetLow = s.resetLow := rfl
@[simp] theorem State.mapCands_pending (p : Nat) (f : Cand → Cand) : (s.mapCands p f).pending = s.pending := rfl

/-! ### State.changeCand -/

@[simp] theorem State.changeCand_papers (i : Nat) (f : Cand → Cand) (c : Cause) : (s.changeCand i f c).papers = s.papers :=
  by unfold State.changeCand; split <;> simp
@[simp] theorem State.changeCand_hall (i : Nat) (f : Cand → Cand) (c : Cause) : (s.changeCand i f c).hall = s.hall :=
  by unfold State.changeCand; split <;> simp
@[simp] theorem State.changeCand_seats (i : Nat) (f : Cand → Cand) (c : Cause) : (s.changeCand i f c).seats = s.seats :=
  by unfold State.changeCand; split <;> simp
@[simp] theorem State.changeCand_loops (i : Nat) (f : Cand → Cand) (c : Cause) : (s.changeCand i f c).loops = s.loops :=
  by unfold State.changeCand; split <;> simp
@[simp] theorem State.changeCand_sweep (i : Nat) (f : Cand → Cand) (c : Cause) : (s.changeCand i f c).sweep = s.sweep :=
  by unfold State.changeCand; split <;> simp
@[simp] theorem State.changeCand_closing (i : Nat) (f : Cand → Cand) (c : Cause) : (s.changeCand i f c).closing = s.closing :=
  by unfold State.changeCand; split <;> simp
@[simp] theorem State.changeCand_passList (i : Nat) (f : Cand → Cand) (c : Cause) : (s.changeCand i f c).passList = s.passList :=
  by unfold State.changeCand; split <;> simp
@[simp] theorem State.changeCand_window (i : Nat) (f : Cand → Cand) (c : Cause) : (s.changeCand i f c).window = s.window :=
  by unfold State.changeCand; split <;> simp
@[simp] theorem State.changeCand_pollFrame (i : Nat) (f : Cand → Cand) (c : Cause) : (s.changeCand i f c).pollFrame = s.pollFrame :=
  by unfold State.changeCand; split <;> simp
@[simp] theorem State.changeCand_job (i : Nat) (f : Cand → Cand) (c : Cause) : (s.changeCand i f c).job = s.job :=
  by unfold State.changeCand; split <;> simp
@[simp] theorem State.changeCand_lastOutcome (i : Nat) (f : Cand → Cand) (c : Cause) : (s.changeCand i f c).lastOutcome = s.lastOutcome :=
  by unfold State.changeCand; split <;> simp
@[simp] theorem State.changeCand_hallTime (i : Nat) (f : Cand → Cand) (c : Cause) : (s.changeCand i f c).hallTime = s.hallTime :=
  by unfold State.changeCand; split <;> simp
@[simp] theorem State.changeCand_hold (i : Nat) (f : Cand → Cand) (c : Cause) : (s.changeCand i f c).hold = s.hold :=
  by unfold State.changeCand; split <;> simp
@[simp] theorem State.changeCand_holdElapsed (i : Nat) (f : Cand → Cand) (c : Cause) : (s.changeCand i f c).holdElapsed = s.holdElapsed :=
  by unfold State.changeCand; split <;> simp
@[simp] theorem State.changeCand_holdLine (i : Nat) (f : Cand → Cand) (c : Cause) : (s.changeCand i f c).holdLine = s.holdLine :=
  by unfold State.changeCand; split <;> simp
@[simp] theorem State.changeCand_collection (i : Nat) (f : Cand → Cand) (c : Cause) : (s.changeCand i f c).collection = s.collection :=
  by unfold State.changeCand; split <;> simp
@[simp] theorem State.changeCand_reader (i : Nat) (f : Cand → Cand) (c : Cause) : (s.changeCand i f c).reader = s.reader :=
  by unfold State.changeCand; split <;> simp
@[simp] theorem State.changeCand_marker (i : Nat) (f : Cand → Cand) (c : Cause) : (s.changeCand i f c).marker = s.marker :=
  by unfold State.changeCand; split <;> simp
@[simp] theorem State.changeCand_responses (i : Nat) (f : Cand → Cand) (c : Cause) : (s.changeCand i f c).responses = s.responses :=
  by unfold State.changeCand; split <;> simp
@[simp] theorem State.changeCand_resetLow (i : Nat) (f : Cand → Cand) (c : Cause) : (s.changeCand i f c).resetLow = s.resetLow :=
  by unfold State.changeCand; split <;> simp
@[simp] theorem State.changeCand_pending (i : Nat) (f : Cand → Cand) (c : Cause) : (s.changeCand i f c).pending = s.pending :=
  by unfold State.changeCand; split <;> simp

/-! ### State.modPaper -/

@[simp] theorem State.modPaper_cands (p : Nat) (f : Paper → Paper) : (s.modPaper p f).cands = s.cands := rfl
@[simp] theorem State.modPaper_hall (p : Nat) (f : Paper → Paper) : (s.modPaper p f).hall = s.hall := rfl
@[simp] theorem State.modPaper_seats (p : Nat) (f : Paper → Paper) : (s.modPaper p f).seats = s.seats := rfl
@[simp] theorem State.modPaper_loops (p : Nat) (f : Paper → Paper) : (s.modPaper p f).loops = s.loops := rfl
@[simp] theorem State.modPaper_sweep (p : Nat) (f : Paper → Paper) : (s.modPaper p f).sweep = s.sweep := rfl
@[simp] theorem State.modPaper_closing (p : Nat) (f : Paper → Paper) : (s.modPaper p f).closing = s.closing := rfl
@[simp] theorem State.modPaper_passList (p : Nat) (f : Paper → Paper) : (s.modPaper p f).passList = s.passList := rfl
@[simp] theorem State.modPaper_window (p : Nat) (f : Paper → Paper) : (s.modPaper p f).window = s.window := rfl
@[simp] theorem State.modPaper_pollFrame (p : Nat) (f : Paper → Paper) : (s.modPaper p f).pollFrame = s.pollFrame :=
  rfl
@[simp] theorem State.modPaper_job (p : Nat) (f : Paper → Paper) : (s.modPaper p f).job = s.job := rfl
@[simp] theorem State.modPaper_lastOutcome (p : Nat) (f : Paper → Paper) : (s.modPaper p f).lastOutcome = s.lastOutcome :=
  rfl
@[simp] theorem State.modPaper_hallTime (p : Nat) (f : Paper → Paper) : (s.modPaper p f).hallTime = s.hallTime := rfl
@[simp] theorem State.modPaper_hold (p : Nat) (f : Paper → Paper) : (s.modPaper p f).hold = s.hold := rfl
@[simp] theorem State.modPaper_holdElapsed (p : Nat) (f : Paper → Paper) : (s.modPaper p f).holdElapsed = s.holdElapsed :=
  rfl
@[simp] theorem State.modPaper_holdLine (p : Nat) (f : Paper → Paper) : (s.modPaper p f).holdLine = s.holdLine := rfl
@[simp] theorem State.modPaper_collection (p : Nat) (f : Paper → Paper) : (s.modPaper p f).collection = s.collection :=
  rfl
@[simp] theorem State.modPaper_reader (p : Nat) (f : Paper → Paper) : (s.modPaper p f).reader = s.reader := rfl
@[simp] theorem State.modPaper_marker (p : Nat) (f : Paper → Paper) : (s.modPaper p f).marker = s.marker := rfl
@[simp] theorem State.modPaper_responses (p : Nat) (f : Paper → Paper) : (s.modPaper p f).responses = s.responses :=
  rfl
@[simp] theorem State.modPaper_link (p : Nat) (f : Paper → Paper) : (s.modPaper p f).link = s.link := rfl
@[simp] theorem State.modPaper_resetLow (p : Nat) (f : Paper → Paper) : (s.modPaper p f).resetLow = s.resetLow := rfl
@[simp] theorem State.modPaper_pending (p : Nat) (f : Paper → Paper) : (s.modPaper p f).pending = s.pending := rfl

/-! ### State.modColl -/

@[simp] theorem State.modColl_cands (p : Nat) (f : Collecting → Collecting) : (s.modColl p f).cands = s.cands := rfl
@[simp] theorem State.modColl_hall (p : Nat) (f : Collecting → Collecting) : (s.modColl p f).hall = s.hall := rfl
@[simp] theorem State.modColl_seats (p : Nat) (f : Collecting → Collecting) : (s.modColl p f).seats = s.seats := rfl
@[simp] theorem State.modColl_loops (p : Nat) (f : Collecting → Collecting) : (s.modColl p f).loops = s.loops := rfl
@[simp] theorem State.modColl_sweep (p : Nat) (f : Collecting → Collecting) : (s.modColl p f).sweep = s.sweep := rfl
@[simp] theorem State.modColl_closing (p : Nat) (f : Collecting → Collecting) : (s.modColl p f).closing = s.closing :=
  rfl
@[simp] theorem State.modColl_passList (p : Nat) (f : Collecting → Collecting) : (s.modColl p f).passList = s.passList :=
  rfl
@[simp] theorem State.modColl_window (p : Nat) (f : Collecting → Collecting) : (s.modColl p f).window = s.window :=
  rfl
@[simp] theorem State.modColl_pollFrame (p : Nat) (f : Collecting → Collecting) : (s.modColl p f).pollFrame = s.pollFrame :=
  rfl
@[simp] theorem State.modColl_job (p : Nat) (f : Collecting → Collecting) : (s.modColl p f).job = s.job := rfl
@[simp] theorem State.modColl_lastOutcome (p : Nat) (f : Collecting → Collecting) : (s.modColl p f).lastOutcome = s.lastOutcome :=
  rfl
@[simp] theorem State.modColl_hallTime (p : Nat) (f : Collecting → Collecting) : (s.modColl p f).hallTime = s.hallTime :=
  rfl
@[simp] theorem State.modColl_hold (p : Nat) (f : Collecting → Collecting) : (s.modColl p f).hold = s.hold := rfl
@[simp] theorem State.modColl_holdElapsed (p : Nat) (f : Collecting → Collecting) : (s.modColl p f).holdElapsed = s.holdElapsed :=
  rfl
@[simp] theorem State.modColl_holdLine (p : Nat) (f : Collecting → Collecting) : (s.modColl p f).holdLine = s.holdLine :=
  rfl
@[simp] theorem State.modColl_collection (p : Nat) (f : Collecting → Collecting) : (s.modColl p f).collection = s.collection :=
  rfl
@[simp] theorem State.modColl_reader (p : Nat) (f : Collecting → Collecting) : (s.modColl p f).reader = s.reader :=
  rfl
@[simp] theorem State.modColl_marker (p : Nat) (f : Collecting → Collecting) : (s.modColl p f).marker = s.marker :=
  rfl
@[simp] theorem State.modColl_responses (p : Nat) (f : Collecting → Collecting) : (s.modColl p f).responses = s.responses :=
  rfl
@[simp] theorem State.modColl_link (p : Nat) (f : Collecting → Collecting) : (s.modColl p f).link = s.link := rfl
@[simp] theorem State.modColl_resetLow (p : Nat) (f : Collecting → Collecting) : (s.modColl p f).resetLow = s.resetLow :=
  rfl
@[simp] theorem State.modColl_pending (p : Nat) (f : Collecting → Collecting) : (s.modColl p f).pending = s.pending :=
  rfl

/-! ### State.modSeat -/

@[simp] theorem State.modSeat_cands (n : Nat) (f : Seat → Seat) : (s.modSeat n f).cands = s.cands := rfl
@[simp] theorem State.modSeat_papers (n : Nat) (f : Seat → Seat) : (s.modSeat n f).papers = s.papers := rfl
@[simp] theorem State.modSeat_hall (n : Nat) (f : Seat → Seat) : (s.modSeat n f).hall = s.hall := rfl
@[simp] theorem State.modSeat_loops (n : Nat) (f : Seat → Seat) : (s.modSeat n f).loops = s.loops := rfl
@[simp] theorem State.modSeat_sweep (n : Nat) (f : Seat → Seat) : (s.modSeat n f).sweep = s.sweep := rfl
@[simp] theorem State.modSeat_closing (n : Nat) (f : Seat → Seat) : (s.modSeat n f).closing = s.closing := rfl
@[simp] theorem State.modSeat_passList (n : Nat) (f : Seat → Seat) : (s.modSeat n f).passList = s.passList := rfl
@[simp] theorem State.modSeat_window (n : Nat) (f : Seat → Seat) : (s.modSeat n f).window = s.window := rfl
@[simp] theorem State.modSeat_pollFrame (n : Nat) (f : Seat → Seat) : (s.modSeat n f).pollFrame = s.pollFrame := rfl
@[simp] theorem State.modSeat_job (n : Nat) (f : Seat → Seat) : (s.modSeat n f).job = s.job := rfl
@[simp] theorem State.modSeat_lastOutcome (n : Nat) (f : Seat → Seat) : (s.modSeat n f).lastOutcome = s.lastOutcome :=
  rfl
@[simp] theorem State.modSeat_hallTime (n : Nat) (f : Seat → Seat) : (s.modSeat n f).hallTime = s.hallTime := rfl
@[simp] theorem State.modSeat_hold (n : Nat) (f : Seat → Seat) : (s.modSeat n f).hold = s.hold := rfl
@[simp] theorem State.modSeat_holdElapsed (n : Nat) (f : Seat → Seat) : (s.modSeat n f).holdElapsed = s.holdElapsed :=
  rfl
@[simp] theorem State.modSeat_holdLine (n : Nat) (f : Seat → Seat) : (s.modSeat n f).holdLine = s.holdLine := rfl
@[simp] theorem State.modSeat_collection (n : Nat) (f : Seat → Seat) : (s.modSeat n f).collection = s.collection :=
  rfl
@[simp] theorem State.modSeat_reader (n : Nat) (f : Seat → Seat) : (s.modSeat n f).reader = s.reader := rfl
@[simp] theorem State.modSeat_marker (n : Nat) (f : Seat → Seat) : (s.modSeat n f).marker = s.marker := rfl
@[simp] theorem State.modSeat_responses (n : Nat) (f : Seat → Seat) : (s.modSeat n f).responses = s.responses := rfl
@[simp] theorem State.modSeat_link (n : Nat) (f : Seat → Seat) : (s.modSeat n f).link = s.link := rfl
@[simp] theorem State.modSeat_resetLow (n : Nat) (f : Seat → Seat) : (s.modSeat n f).resetLow = s.resetLow := rfl
@[simp] theorem State.modSeat_pending (n : Nat) (f : Seat → Seat) : (s.modSeat n f).pending = s.pending := rfl

/-! ### State.modLoop -/

@[simp] theorem State.modLoop_cands (n : Nat) (f : LoopRec → LoopRec) : (s.modLoop n f).cands = s.cands := rfl
@[simp] theorem State.modLoop_papers (n : Nat) (f : LoopRec → LoopRec) : (s.modLoop n f).papers = s.papers := rfl
@[simp] theorem State.modLoop_hall (n : Nat) (f : LoopRec → LoopRec) : (s.modLoop n f).hall = s.hall := rfl
@[simp] theorem State.modLoop_seats (n : Nat) (f : LoopRec → LoopRec) : (s.modLoop n f).seats = s.seats := rfl
@[simp] theorem State.modLoop_sweep (n : Nat) (f : LoopRec → LoopRec) : (s.modLoop n f).sweep = s.sweep := rfl
@[simp] theorem State.modLoop_closing (n : Nat) (f : LoopRec → LoopRec) : (s.modLoop n f).closing = s.closing := rfl
@[simp] theorem State.modLoop_passList (n : Nat) (f : LoopRec → LoopRec) : (s.modLoop n f).passList = s.passList :=
  rfl
@[simp] theorem State.modLoop_window (n : Nat) (f : LoopRec → LoopRec) : (s.modLoop n f).window = s.window := rfl
@[simp] theorem State.modLoop_pollFrame (n : Nat) (f : LoopRec → LoopRec) : (s.modLoop n f).pollFrame = s.pollFrame :=
  rfl
@[simp] theorem State.modLoop_job (n : Nat) (f : LoopRec → LoopRec) : (s.modLoop n f).job = s.job := rfl
@[simp] theorem State.modLoop_lastOutcome (n : Nat) (f : LoopRec → LoopRec) : (s.modLoop n f).lastOutcome = s.lastOutcome :=
  rfl
@[simp] theorem State.modLoop_hallTime (n : Nat) (f : LoopRec → LoopRec) : (s.modLoop n f).hallTime = s.hallTime :=
  rfl
@[simp] theorem State.modLoop_hold (n : Nat) (f : LoopRec → LoopRec) : (s.modLoop n f).hold = s.hold := rfl
@[simp] theorem State.modLoop_holdElapsed (n : Nat) (f : LoopRec → LoopRec) : (s.modLoop n f).holdElapsed = s.holdElapsed :=
  rfl
@[simp] theorem State.modLoop_holdLine (n : Nat) (f : LoopRec → LoopRec) : (s.modLoop n f).holdLine = s.holdLine :=
  rfl
@[simp] theorem State.modLoop_collection (n : Nat) (f : LoopRec → LoopRec) : (s.modLoop n f).collection = s.collection :=
  rfl
@[simp] theorem State.modLoop_reader (n : Nat) (f : LoopRec → LoopRec) : (s.modLoop n f).reader = s.reader := rfl
@[simp] theorem State.modLoop_marker (n : Nat) (f : LoopRec → LoopRec) : (s.modLoop n f).marker = s.marker := rfl
@[simp] theorem State.modLoop_responses (n : Nat) (f : LoopRec → LoopRec) : (s.modLoop n f).responses = s.responses :=
  rfl
@[simp] theorem State.modLoop_link (n : Nat) (f : LoopRec → LoopRec) : (s.modLoop n f).link = s.link := rfl
@[simp] theorem State.modLoop_resetLow (n : Nat) (f : LoopRec → LoopRec) : (s.modLoop n f).resetLow = s.resetLow :=
  rfl
@[simp] theorem State.modLoop_pending (n : Nat) (f : LoopRec → LoopRec) : (s.modLoop n f).pending = s.pending := rfl

/-! ### State.modReader -/

@[simp] theorem State.modReader_cands (f : Reader → Reader) : (s.modReader f).cands = s.cands := rfl
@[simp] theorem State.modReader_papers (f : Reader → Reader) : (s.modReader f).papers = s.papers := rfl
@[simp] theorem State.modReader_hall (f : Reader → Reader) : (s.modReader f).hall = s.hall := rfl
@[simp] theorem State.modReader_seats (f : Reader → Reader) : (s.modReader f).seats = s.seats := rfl
@[simp] theorem State.modReader_loops (f : Reader → Reader) : (s.modReader f).loops = s.loops := rfl
@[simp] theorem State.modReader_sweep (f : Reader → Reader) : (s.modReader f).sweep = s.sweep := rfl
@[simp] theorem State.modReader_closing (f : Reader → Reader) : (s.modReader f).closing = s.closing := rfl
@[simp] theorem State.modReader_passList (f : Reader → Reader) : (s.modReader f).passList = s.passList := rfl
@[simp] theorem State.modReader_window (f : Reader → Reader) : (s.modReader f).window = s.window := rfl
@[simp] theorem State.modReader_pollFrame (f : Reader → Reader) : (s.modReader f).pollFrame = s.pollFrame := rfl
@[simp] theorem State.modReader_job (f : Reader → Reader) : (s.modReader f).job = s.job := rfl
@[simp] theorem State.modReader_lastOutcome (f : Reader → Reader) : (s.modReader f).lastOutcome = s.lastOutcome := rfl
@[simp] theorem State.modReader_hallTime (f : Reader → Reader) : (s.modReader f).hallTime = s.hallTime := rfl
@[simp] theorem State.modReader_hold (f : Reader → Reader) : (s.modReader f).hold = s.hold := rfl
@[simp] theorem State.modReader_holdElapsed (f : Reader → Reader) : (s.modReader f).holdElapsed = s.holdElapsed := rfl
@[simp] theorem State.modReader_holdLine (f : Reader → Reader) : (s.modReader f).holdLine = s.holdLine := rfl
@[simp] theorem State.modReader_collection (f : Reader → Reader) : (s.modReader f).collection = s.collection := rfl
@[simp] theorem State.modReader_marker (f : Reader → Reader) : (s.modReader f).marker = s.marker := rfl
@[simp] theorem State.modReader_responses (f : Reader → Reader) : (s.modReader f).responses = s.responses := rfl
@[simp] theorem State.modReader_link (f : Reader → Reader) : (s.modReader f).link = s.link := rfl
@[simp] theorem State.modReader_resetLow (f : Reader → Reader) : (s.modReader f).resetLow = s.resetLow := rfl
@[simp] theorem State.modReader_pending (f : Reader → Reader) : (s.modReader f).pending = s.pending := rfl

/-! ### State.modSheet -/

@[simp] theorem State.modSheet_cands (e : Nat) (f : SheetRec → SheetRec) : (s.modSheet e f).cands = s.cands := rfl
@[simp] theorem State.modSheet_papers (e : Nat) (f : SheetRec → SheetRec) : (s.modSheet e f).papers = s.papers := rfl
@[simp] theorem State.modSheet_hall (e : Nat) (f : SheetRec → SheetRec) : (s.modSheet e f).hall = s.hall := rfl
@[simp] theorem State.modSheet_seats (e : Nat) (f : SheetRec → SheetRec) : (s.modSheet e f).seats = s.seats := rfl
@[simp] theorem State.modSheet_loops (e : Nat) (f : SheetRec → SheetRec) : (s.modSheet e f).loops = s.loops := rfl
@[simp] theorem State.modSheet_sweep (e : Nat) (f : SheetRec → SheetRec) : (s.modSheet e f).sweep = s.sweep := rfl
@[simp] theorem State.modSheet_closing (e : Nat) (f : SheetRec → SheetRec) : (s.modSheet e f).closing = s.closing :=
  rfl
@[simp] theorem State.modSheet_passList (e : Nat) (f : SheetRec → SheetRec) : (s.modSheet e f).passList = s.passList :=
  rfl
@[simp] theorem State.modSheet_window (e : Nat) (f : SheetRec → SheetRec) : (s.modSheet e f).window = s.window := rfl
@[simp] theorem State.modSheet_pollFrame (e : Nat) (f : SheetRec → SheetRec) : (s.modSheet e f).pollFrame = s.pollFrame :=
  rfl
@[simp] theorem State.modSheet_job (e : Nat) (f : SheetRec → SheetRec) : (s.modSheet e f).job = s.job := rfl
@[simp] theorem State.modSheet_lastOutcome (e : Nat) (f : SheetRec → SheetRec) : (s.modSheet e f).lastOutcome = s.lastOutcome :=
  rfl
@[simp] theorem State.modSheet_hallTime (e : Nat) (f : SheetRec → SheetRec) : (s.modSheet e f).hallTime = s.hallTime :=
  rfl
@[simp] theorem State.modSheet_hold (e : Nat) (f : SheetRec → SheetRec) : (s.modSheet e f).hold = s.hold := rfl
@[simp] theorem State.modSheet_holdElapsed (e : Nat) (f : SheetRec → SheetRec) : (s.modSheet e f).holdElapsed = s.holdElapsed :=
  rfl
@[simp] theorem State.modSheet_holdLine (e : Nat) (f : SheetRec → SheetRec) : (s.modSheet e f).holdLine = s.holdLine :=
  rfl
@[simp] theorem State.modSheet_collection (e : Nat) (f : SheetRec → SheetRec) : (s.modSheet e f).collection = s.collection :=
  rfl
@[simp] theorem State.modSheet_marker (e : Nat) (f : SheetRec → SheetRec) : (s.modSheet e f).marker = s.marker := rfl
@[simp] theorem State.modSheet_responses (e : Nat) (f : SheetRec → SheetRec) : (s.modSheet e f).responses = s.responses :=
  rfl
@[simp] theorem State.modSheet_link (e : Nat) (f : SheetRec → SheetRec) : (s.modSheet e f).link = s.link := rfl
@[simp] theorem State.modSheet_resetLow (e : Nat) (f : SheetRec → SheetRec) : (s.modSheet e f).resetLow = s.resetLow :=
  rfl
@[simp] theorem State.modSheet_pending (e : Nat) (f : SheetRec → SheetRec) : (s.modSheet e f).pending = s.pending :=
  rfl

/-! ### State.updateFeed -/

@[simp] theorem State.updateFeed_cands : (s.updateFeed).cands = s.cands := rfl
@[simp] theorem State.updateFeed_papers : (s.updateFeed).papers = s.papers := rfl
@[simp] theorem State.updateFeed_hall : (s.updateFeed).hall = s.hall := rfl
@[simp] theorem State.updateFeed_seats : (s.updateFeed).seats = s.seats := rfl
@[simp] theorem State.updateFeed_loops : (s.updateFeed).loops = s.loops := rfl
@[simp] theorem State.updateFeed_sweep : (s.updateFeed).sweep = s.sweep := rfl
@[simp] theorem State.updateFeed_closing : (s.updateFeed).closing = s.closing := rfl
@[simp] theorem State.updateFeed_passList : (s.updateFeed).passList = s.passList := rfl
@[simp] theorem State.updateFeed_window : (s.updateFeed).window = s.window := rfl
@[simp] theorem State.updateFeed_pollFrame : (s.updateFeed).pollFrame = s.pollFrame := rfl
@[simp] theorem State.updateFeed_job : (s.updateFeed).job = s.job := rfl
@[simp] theorem State.updateFeed_lastOutcome : (s.updateFeed).lastOutcome = s.lastOutcome := rfl
@[simp] theorem State.updateFeed_hallTime : (s.updateFeed).hallTime = s.hallTime := rfl
@[simp] theorem State.updateFeed_hold : (s.updateFeed).hold = s.hold := rfl
@[simp] theorem State.updateFeed_holdElapsed : (s.updateFeed).holdElapsed = s.holdElapsed := rfl
@[simp] theorem State.updateFeed_holdLine : (s.updateFeed).holdLine = s.holdLine := rfl
@[simp] theorem State.updateFeed_collection : (s.updateFeed).collection = s.collection := rfl
@[simp] theorem State.updateFeed_marker : (s.updateFeed).marker = s.marker := rfl
@[simp] theorem State.updateFeed_responses : (s.updateFeed).responses = s.responses := rfl
@[simp] theorem State.updateFeed_link : (s.updateFeed).link = s.link := rfl
@[simp] theorem State.updateFeed_resetLow : (s.updateFeed).resetLow = s.resetLow := rfl
@[simp] theorem State.updateFeed_pending : (s.updateFeed).pending = s.pending := rfl

/-! ### State.setReaderRx -/

@[simp] theorem State.setReaderRx_cands (f : Option (List Byte)) : (s.setReaderRx f).cands = s.cands := rfl
@[simp] theorem State.setReaderRx_papers (f : Option (List Byte)) : (s.setReaderRx f).papers = s.papers := rfl
@[simp] theorem State.setReaderRx_hall (f : Option (List Byte)) : (s.setReaderRx f).hall = s.hall := rfl
@[simp] theorem State.setReaderRx_seats (f : Option (List Byte)) : (s.setReaderRx f).seats = s.seats := rfl
@[simp] theorem State.setReaderRx_loops (f : Option (List Byte)) : (s.setReaderRx f).loops = s.loops := rfl
@[simp] theorem State.setReaderRx_sweep (f : Option (List Byte)) : (s.setReaderRx f).sweep = s.sweep := rfl
@[simp] theorem State.setReaderRx_closing (f : Option (List Byte)) : (s.setReaderRx f).closing = s.closing := rfl
@[simp] theorem State.setReaderRx_passList (f : Option (List Byte)) : (s.setReaderRx f).passList = s.passList := rfl
@[simp] theorem State.setReaderRx_window (f : Option (List Byte)) : (s.setReaderRx f).window = s.window := rfl
@[simp] theorem State.setReaderRx_pollFrame (f : Option (List Byte)) : (s.setReaderRx f).pollFrame = s.pollFrame :=
  rfl
@[simp] theorem State.setReaderRx_job (f : Option (List Byte)) : (s.setReaderRx f).job = s.job := rfl
@[simp] theorem State.setReaderRx_lastOutcome (f : Option (List Byte)) : (s.setReaderRx f).lastOutcome = s.lastOutcome :=
  rfl
@[simp] theorem State.setReaderRx_hallTime (f : Option (List Byte)) : (s.setReaderRx f).hallTime = s.hallTime := rfl
@[simp] theorem State.setReaderRx_hold (f : Option (List Byte)) : (s.setReaderRx f).hold = s.hold := rfl
@[simp] theorem State.setReaderRx_holdElapsed (f : Option (List Byte)) : (s.setReaderRx f).holdElapsed = s.holdElapsed :=
  rfl
@[simp] theorem State.setReaderRx_holdLine (f : Option (List Byte)) : (s.setReaderRx f).holdLine = s.holdLine := rfl
@[simp] theorem State.setReaderRx_collection (f : Option (List Byte)) : (s.setReaderRx f).collection = s.collection :=
  rfl
@[simp] theorem State.setReaderRx_marker (f : Option (List Byte)) : (s.setReaderRx f).marker = s.marker := rfl
@[simp] theorem State.setReaderRx_responses (f : Option (List Byte)) : (s.setReaderRx f).responses = s.responses :=
  rfl
@[simp] theorem State.setReaderRx_link (f : Option (List Byte)) : (s.setReaderRx f).link = s.link := rfl
@[simp] theorem State.setReaderRx_resetLow (f : Option (List Byte)) : (s.setReaderRx f).resetLow = s.resetLow := rfl
@[simp] theorem State.setReaderRx_pending (f : Option (List Byte)) : (s.setReaderRx f).pending = s.pending := rfl

/-! ### State.setPaperState -/

@[simp] theorem State.setPaperState_cands (p : Nat) (x : PaperState) : (s.setPaperState p x).cands = s.cands := rfl
@[simp] theorem State.setPaperState_hall (p : Nat) (x : PaperState) : (s.setPaperState p x).hall = s.hall := rfl
@[simp] theorem State.setPaperState_seats (p : Nat) (x : PaperState) : (s.setPaperState p x).seats = s.seats := rfl
@[simp] theorem State.setPaperState_loops (p : Nat) (x : PaperState) : (s.setPaperState p x).loops = s.loops := rfl
@[simp] theorem State.setPaperState_sweep (p : Nat) (x : PaperState) : (s.setPaperState p x).sweep = s.sweep := rfl
@[simp] theorem State.setPaperState_closing (p : Nat) (x : PaperState) : (s.setPaperState p x).closing = s.closing :=
  rfl
@[simp] theorem State.setPaperState_passList (p : Nat) (x : PaperState) : (s.setPaperState p x).passList = s.passList :=
  rfl
@[simp] theorem State.setPaperState_window (p : Nat) (x : PaperState) : (s.setPaperState p x).window = s.window := rfl
@[simp] theorem State.setPaperState_pollFrame (p : Nat) (x : PaperState) : (s.setPaperState p x).pollFrame = s.pollFrame :=
  rfl
@[simp] theorem State.setPaperState_job (p : Nat) (x : PaperState) : (s.setPaperState p x).job = s.job := rfl
@[simp] theorem State.setPaperState_lastOutcome (p : Nat) (x : PaperState) : (s.setPaperState p x).lastOutcome = s.lastOutcome :=
  rfl
@[simp] theorem State.setPaperState_hallTime (p : Nat) (x : PaperState) : (s.setPaperState p x).hallTime = s.hallTime :=
  rfl
@[simp] theorem State.setPaperState_hold (p : Nat) (x : PaperState) : (s.setPaperState p x).hold = s.hold := rfl
@[simp] theorem State.setPaperState_holdElapsed (p : Nat) (x : PaperState) : (s.setPaperState p x).holdElapsed = s.holdElapsed :=
  rfl
@[simp] theorem State.setPaperState_holdLine (p : Nat) (x : PaperState) : (s.setPaperState p x).holdLine = s.holdLine :=
  rfl
@[simp] theorem State.setPaperState_collection (p : Nat) (x : PaperState) : (s.setPaperState p x).collection = s.collection :=
  rfl
@[simp] theorem State.setPaperState_reader (p : Nat) (x : PaperState) : (s.setPaperState p x).reader = s.reader := rfl
@[simp] theorem State.setPaperState_marker (p : Nat) (x : PaperState) : (s.setPaperState p x).marker = s.marker := rfl
@[simp] theorem State.setPaperState_responses (p : Nat) (x : PaperState) : (s.setPaperState p x).responses = s.responses :=
  rfl
@[simp] theorem State.setPaperState_link (p : Nat) (x : PaperState) : (s.setPaperState p x).link = s.link := rfl
@[simp] theorem State.setPaperState_resetLow (p : Nat) (x : PaperState) : (s.setPaperState p x).resetLow = s.resetLow :=
  rfl
@[simp] theorem State.setPaperState_pending (p : Nat) (x : PaperState) : (s.setPaperState p x).pending = s.pending :=
  rfl

/-! ### State.setMarking -/

@[simp] theorem State.setMarking_cands (p : Nat) (x : MarkState) : (s.setMarking p x).cands = s.cands := rfl
@[simp] theorem State.setMarking_hall (p : Nat) (x : MarkState) : (s.setMarking p x).hall = s.hall := rfl
@[simp] theorem State.setMarking_seats (p : Nat) (x : MarkState) : (s.setMarking p x).seats = s.seats := rfl
@[simp] theorem State.setMarking_loops (p : Nat) (x : MarkState) : (s.setMarking p x).loops = s.loops := rfl
@[simp] theorem State.setMarking_sweep (p : Nat) (x : MarkState) : (s.setMarking p x).sweep = s.sweep := rfl
@[simp] theorem State.setMarking_closing (p : Nat) (x : MarkState) : (s.setMarking p x).closing = s.closing := rfl
@[simp] theorem State.setMarking_passList (p : Nat) (x : MarkState) : (s.setMarking p x).passList = s.passList := rfl
@[simp] theorem State.setMarking_window (p : Nat) (x : MarkState) : (s.setMarking p x).window = s.window := rfl
@[simp] theorem State.setMarking_pollFrame (p : Nat) (x : MarkState) : (s.setMarking p x).pollFrame = s.pollFrame :=
  rfl
@[simp] theorem State.setMarking_job (p : Nat) (x : MarkState) : (s.setMarking p x).job = s.job := rfl
@[simp] theorem State.setMarking_lastOutcome (p : Nat) (x : MarkState) : (s.setMarking p x).lastOutcome = s.lastOutcome :=
  rfl
@[simp] theorem State.setMarking_hallTime (p : Nat) (x : MarkState) : (s.setMarking p x).hallTime = s.hallTime := rfl
@[simp] theorem State.setMarking_hold (p : Nat) (x : MarkState) : (s.setMarking p x).hold = s.hold := rfl
@[simp] theorem State.setMarking_holdElapsed (p : Nat) (x : MarkState) : (s.setMarking p x).holdElapsed = s.holdElapsed :=
  rfl
@[simp] theorem State.setMarking_holdLine (p : Nat) (x : MarkState) : (s.setMarking p x).holdLine = s.holdLine := rfl
@[simp] theorem State.setMarking_collection (p : Nat) (x : MarkState) : (s.setMarking p x).collection = s.collection :=
  rfl
@[simp] theorem State.setMarking_reader (p : Nat) (x : MarkState) : (s.setMarking p x).reader = s.reader := rfl
@[simp] theorem State.setMarking_marker (p : Nat) (x : MarkState) : (s.setMarking p x).marker = s.marker := rfl
@[simp] theorem State.setMarking_responses (p : Nat) (x : MarkState) : (s.setMarking p x).responses = s.responses :=
  rfl
@[simp] theorem State.setMarking_link (p : Nat) (x : MarkState) : (s.setMarking p x).link = s.link := rfl
@[simp] theorem State.setMarking_resetLow (p : Nat) (x : MarkState) : (s.setMarking p x).resetLow = s.resetLow := rfl
@[simp] theorem State.setMarking_pending (p : Nat) (x : MarkState) : (s.setMarking p x).pending = s.pending := rfl

/-! ### State.setTarget -/

@[simp] theorem State.setTarget_cands (p n : Nat) : (s.setTarget p n).cands = s.cands := rfl
@[simp] theorem State.setTarget_hall (p n : Nat) : (s.setTarget p n).hall = s.hall := rfl
@[simp] theorem State.setTarget_seats (p n : Nat) : (s.setTarget p n).seats = s.seats := rfl
@[simp] theorem State.setTarget_loops (p n : Nat) : (s.setTarget p n).loops = s.loops := rfl
@[simp] theorem State.setTarget_sweep (p n : Nat) : (s.setTarget p n).sweep = s.sweep := rfl
@[simp] theorem State.setTarget_closing (p n : Nat) : (s.setTarget p n).closing = s.closing := rfl
@[simp] theorem State.setTarget_passList (p n : Nat) : (s.setTarget p n).passList = s.passList := rfl
@[simp] theorem State.setTarget_window (p n : Nat) : (s.setTarget p n).window = s.window := rfl
@[simp] theorem State.setTarget_pollFrame (p n : Nat) : (s.setTarget p n).pollFrame = s.pollFrame := rfl
@[simp] theorem State.setTarget_job (p n : Nat) : (s.setTarget p n).job = s.job := rfl
@[simp] theorem State.setTarget_lastOutcome (p n : Nat) : (s.setTarget p n).lastOutcome = s.lastOutcome := rfl
@[simp] theorem State.setTarget_hallTime (p n : Nat) : (s.setTarget p n).hallTime = s.hallTime := rfl
@[simp] theorem State.setTarget_hold (p n : Nat) : (s.setTarget p n).hold = s.hold := rfl
@[simp] theorem State.setTarget_holdElapsed (p n : Nat) : (s.setTarget p n).holdElapsed = s.holdElapsed := rfl
@[simp] theorem State.setTarget_holdLine (p n : Nat) : (s.setTarget p n).holdLine = s.holdLine := rfl
@[simp] theorem State.setTarget_collection (p n : Nat) : (s.setTarget p n).collection = s.collection := rfl
@[simp] theorem State.setTarget_reader (p n : Nat) : (s.setTarget p n).reader = s.reader := rfl
@[simp] theorem State.setTarget_marker (p n : Nat) : (s.setTarget p n).marker = s.marker := rfl
@[simp] theorem State.setTarget_responses (p n : Nat) : (s.setTarget p n).responses = s.responses := rfl
@[simp] theorem State.setTarget_link (p n : Nat) : (s.setTarget p n).link = s.link := rfl
@[simp] theorem State.setTarget_resetLow (p n : Nat) : (s.setTarget p n).resetLow = s.resetLow := rfl
@[simp] theorem State.setTarget_pending (p n : Nat) : (s.setTarget p n).pending = s.pending := rfl

/-! ### State.resolveTarget -/

@[simp] theorem State.resolveTarget_cands (p : Nat) : (s.resolveTarget p).cands = s.cands := rfl
@[simp] theorem State.resolveTarget_hall (p : Nat) : (s.resolveTarget p).hall = s.hall := rfl
@[simp] theorem State.resolveTarget_seats (p : Nat) : (s.resolveTarget p).seats = s.seats := rfl
@[simp] theorem State.resolveTarget_loops (p : Nat) : (s.resolveTarget p).loops = s.loops := rfl
@[simp] theorem State.resolveTarget_sweep (p : Nat) : (s.resolveTarget p).sweep = s.sweep := rfl
@[simp] theorem State.resolveTarget_closing (p : Nat) : (s.resolveTarget p).closing = s.closing := rfl
@[simp] theorem State.resolveTarget_passList (p : Nat) : (s.resolveTarget p).passList = s.passList := rfl
@[simp] theorem State.resolveTarget_window (p : Nat) : (s.resolveTarget p).window = s.window := rfl
@[simp] theorem State.resolveTarget_pollFrame (p : Nat) : (s.resolveTarget p).pollFrame = s.pollFrame := rfl
@[simp] theorem State.resolveTarget_job (p : Nat) : (s.resolveTarget p).job = s.job := rfl
@[simp] theorem State.resolveTarget_lastOutcome (p : Nat) : (s.resolveTarget p).lastOutcome = s.lastOutcome := rfl
@[simp] theorem State.resolveTarget_hallTime (p : Nat) : (s.resolveTarget p).hallTime = s.hallTime := rfl
@[simp] theorem State.resolveTarget_hold (p : Nat) : (s.resolveTarget p).hold = s.hold := rfl
@[simp] theorem State.resolveTarget_holdElapsed (p : Nat) : (s.resolveTarget p).holdElapsed = s.holdElapsed := rfl
@[simp] theorem State.resolveTarget_holdLine (p : Nat) : (s.resolveTarget p).holdLine = s.holdLine := rfl
@[simp] theorem State.resolveTarget_collection (p : Nat) : (s.resolveTarget p).collection = s.collection := rfl
@[simp] theorem State.resolveTarget_reader (p : Nat) : (s.resolveTarget p).reader = s.reader := rfl
@[simp] theorem State.resolveTarget_marker (p : Nat) : (s.resolveTarget p).marker = s.marker := rfl
@[simp] theorem State.resolveTarget_responses (p : Nat) : (s.resolveTarget p).responses = s.responses := rfl
@[simp] theorem State.resolveTarget_link (p : Nat) : (s.resolveTarget p).link = s.link := rfl
@[simp] theorem State.resolveTarget_resetLow (p : Nat) : (s.resolveTarget p).resetLow = s.resetLow := rfl
@[simp] theorem State.resolveTarget_pending (p : Nat) : (s.resolveTarget p).pending = s.pending := rfl

/-! ### State.countAdmitted -/

@[simp] theorem State.countAdmitted_cands (p n : Nat) : (s.countAdmitted p n).cands = s.cands := rfl
@[simp] theorem State.countAdmitted_hall (p n : Nat) : (s.countAdmitted p n).hall = s.hall := rfl
@[simp] theorem State.countAdmitted_seats (p n : Nat) : (s.countAdmitted p n).seats = s.seats := rfl
@[simp] theorem State.countAdmitted_loops (p n : Nat) : (s.countAdmitted p n).loops = s.loops := rfl
@[simp] theorem State.countAdmitted_sweep (p n : Nat) : (s.countAdmitted p n).sweep = s.sweep := rfl
@[simp] theorem State.countAdmitted_closing (p n : Nat) : (s.countAdmitted p n).closing = s.closing := rfl
@[simp] theorem State.countAdmitted_passList (p n : Nat) : (s.countAdmitted p n).passList = s.passList := rfl
@[simp] theorem State.countAdmitted_window (p n : Nat) : (s.countAdmitted p n).window = s.window := rfl
@[simp] theorem State.countAdmitted_pollFrame (p n : Nat) : (s.countAdmitted p n).pollFrame = s.pollFrame := rfl
@[simp] theorem State.countAdmitted_job (p n : Nat) : (s.countAdmitted p n).job = s.job := rfl
@[simp] theorem State.countAdmitted_lastOutcome (p n : Nat) : (s.countAdmitted p n).lastOutcome = s.lastOutcome := rfl
@[simp] theorem State.countAdmitted_hallTime (p n : Nat) : (s.countAdmitted p n).hallTime = s.hallTime := rfl
@[simp] theorem State.countAdmitted_hold (p n : Nat) : (s.countAdmitted p n).hold = s.hold := rfl
@[simp] theorem State.countAdmitted_holdElapsed (p n : Nat) : (s.countAdmitted p n).holdElapsed = s.holdElapsed := rfl
@[simp] theorem State.countAdmitted_holdLine (p n : Nat) : (s.countAdmitted p n).holdLine = s.holdLine := rfl
@[simp] theorem State.countAdmitted_collection (p n : Nat) : (s.countAdmitted p n).collection = s.collection := rfl
@[simp] theorem State.countAdmitted_reader (p n : Nat) : (s.countAdmitted p n).reader = s.reader := rfl
@[simp] theorem State.countAdmitted_marker (p n : Nat) : (s.countAdmitted p n).marker = s.marker := rfl
@[simp] theorem State.countAdmitted_responses (p n : Nat) : (s.countAdmitted p n).responses = s.responses := rfl
@[simp] theorem State.countAdmitted_link (p n : Nat) : (s.countAdmitted p n).link = s.link := rfl
@[simp] theorem State.countAdmitted_resetLow (p n : Nat) : (s.countAdmitted p n).resetLow = s.resetLow := rfl
@[simp] theorem State.countAdmitted_pending (p n : Nat) : (s.countAdmitted p n).pending = s.pending := rfl

/-! ### State.clearMisses -/

@[simp] theorem State.clearMisses_cands (n : Nat) : (s.clearMisses n).cands = s.cands := rfl
@[simp] theorem State.clearMisses_papers (n : Nat) : (s.clearMisses n).papers = s.papers := rfl
@[simp] theorem State.clearMisses_hall (n : Nat) : (s.clearMisses n).hall = s.hall := rfl
@[simp] theorem State.clearMisses_seats (n : Nat) : (s.clearMisses n).seats = s.seats := rfl
@[simp] theorem State.clearMisses_sweep (n : Nat) : (s.clearMisses n).sweep = s.sweep := rfl
@[simp] theorem State.clearMisses_closing (n : Nat) : (s.clearMisses n).closing = s.closing := rfl
@[simp] theorem State.clearMisses_passList (n : Nat) : (s.clearMisses n).passList = s.passList := rfl
@[simp] theorem State.clearMisses_window (n : Nat) : (s.clearMisses n).window = s.window := rfl
@[simp] theorem State.clearMisses_pollFrame (n : Nat) : (s.clearMisses n).pollFrame = s.pollFrame := rfl
@[simp] theorem State.clearMisses_job (n : Nat) : (s.clearMisses n).job = s.job := rfl
@[simp] theorem State.clearMisses_lastOutcome (n : Nat) : (s.clearMisses n).lastOutcome = s.lastOutcome := rfl
@[simp] theorem State.clearMisses_hallTime (n : Nat) : (s.clearMisses n).hallTime = s.hallTime := rfl
@[simp] theorem State.clearMisses_hold (n : Nat) : (s.clearMisses n).hold = s.hold := rfl
@[simp] theorem State.clearMisses_holdElapsed (n : Nat) : (s.clearMisses n).holdElapsed = s.holdElapsed := rfl
@[simp] theorem State.clearMisses_holdLine (n : Nat) : (s.clearMisses n).holdLine = s.holdLine := rfl
@[simp] theorem State.clearMisses_collection (n : Nat) : (s.clearMisses n).collection = s.collection := rfl
@[simp] theorem State.clearMisses_reader (n : Nat) : (s.clearMisses n).reader = s.reader := rfl
@[simp] theorem State.clearMisses_marker (n : Nat) : (s.clearMisses n).marker = s.marker := rfl
@[simp] theorem State.clearMisses_responses (n : Nat) : (s.clearMisses n).responses = s.responses := rfl
@[simp] theorem State.clearMisses_link (n : Nat) : (s.clearMisses n).link = s.link := rfl
@[simp] theorem State.clearMisses_resetLow (n : Nat) : (s.clearMisses n).resetLow = s.resetLow := rfl
@[simp] theorem State.clearMisses_pending (n : Nat) : (s.clearMisses n).pending = s.pending := rfl

/-! ### State.makeAbsent -/

@[simp] theorem State.makeAbsent_hall (p : Nat) : (s.makeAbsent p).hall = s.hall := rfl
@[simp] theorem State.makeAbsent_seats (p : Nat) : (s.makeAbsent p).seats = s.seats := rfl
@[simp] theorem State.makeAbsent_loops (p : Nat) : (s.makeAbsent p).loops = s.loops := rfl
@[simp] theorem State.makeAbsent_sweep (p : Nat) : (s.makeAbsent p).sweep = s.sweep := rfl
@[simp] theorem State.makeAbsent_closing (p : Nat) : (s.makeAbsent p).closing = s.closing := rfl
@[simp] theorem State.makeAbsent_passList (p : Nat) : (s.makeAbsent p).passList = s.passList := rfl
@[simp] theorem State.makeAbsent_window (p : Nat) : (s.makeAbsent p).window = s.window := rfl
@[simp] theorem State.makeAbsent_pollFrame (p : Nat) : (s.makeAbsent p).pollFrame = s.pollFrame := rfl
@[simp] theorem State.makeAbsent_job (p : Nat) : (s.makeAbsent p).job = s.job := rfl
@[simp] theorem State.makeAbsent_lastOutcome (p : Nat) : (s.makeAbsent p).lastOutcome = s.lastOutcome := rfl
@[simp] theorem State.makeAbsent_hallTime (p : Nat) : (s.makeAbsent p).hallTime = s.hallTime := rfl
@[simp] theorem State.makeAbsent_hold (p : Nat) : (s.makeAbsent p).hold = s.hold := rfl
@[simp] theorem State.makeAbsent_holdElapsed (p : Nat) : (s.makeAbsent p).holdElapsed = s.holdElapsed := rfl
@[simp] theorem State.makeAbsent_holdLine (p : Nat) : (s.makeAbsent p).holdLine = s.holdLine := rfl
@[simp] theorem State.makeAbsent_collection (p : Nat) : (s.makeAbsent p).collection = s.collection := rfl
@[simp] theorem State.makeAbsent_reader (p : Nat) : (s.makeAbsent p).reader = s.reader := rfl
@[simp] theorem State.makeAbsent_marker (p : Nat) : (s.makeAbsent p).marker = s.marker := rfl
@[simp] theorem State.makeAbsent_responses (p : Nat) : (s.makeAbsent p).responses = s.responses := rfl
@[simp] theorem State.makeAbsent_link (p : Nat) : (s.makeAbsent p).link = s.link := rfl
@[simp] theorem State.makeAbsent_resetLow (p : Nat) : (s.makeAbsent p).resetLow = s.resetLow := rfl
@[simp] theorem State.makeAbsent_pending (p : Nat) : (s.makeAbsent p).pending = s.pending := rfl

/-! ### State.nextPass -/

@[simp] theorem State.nextPass_cands : (s.nextPass).cands = s.cands := by unfold State.nextPass; split <;> rfl
@[simp] theorem State.nextPass_papers : (s.nextPass).papers = s.papers := by unfold State.nextPass; split <;> rfl
@[simp] theorem State.nextPass_hall : (s.nextPass).hall = s.hall := by unfold State.nextPass; split <;> rfl
@[simp] theorem State.nextPass_seats : (s.nextPass).seats = s.seats := by unfold State.nextPass; split <;> rfl
@[simp] theorem State.nextPass_loops : (s.nextPass).loops = s.loops := by unfold State.nextPass; split <;> rfl
@[simp] theorem State.nextPass_sweep : (s.nextPass).sweep = s.sweep := by unfold State.nextPass; split <;> rfl
@[simp] theorem State.nextPass_closing : (s.nextPass).closing = s.closing := by unfold State.nextPass; split <;> rfl
@[simp] theorem State.nextPass_window : (s.nextPass).window = s.window := by unfold State.nextPass; split <;> rfl
@[simp] theorem State.nextPass_pollFrame : (s.nextPass).pollFrame = s.pollFrame :=
  by unfold State.nextPass; split <;> rfl
@[simp] theorem State.nextPass_job : (s.nextPass).job = s.job := by unfold State.nextPass; split <;> rfl
@[simp] theorem State.nextPass_lastOutcome : (s.nextPass).lastOutcome = s.lastOutcome :=
  by unfold State.nextPass; split <;> rfl
@[simp] theorem State.nextPass_hallTime : (s.nextPass).hallTime = s.hallTime :=
  by unfold State.nextPass; split <;> rfl
@[simp] theorem State.nextPass_hold : (s.nextPass).hold = s.hold := by unfold State.nextPass; split <;> rfl
@[simp] theorem State.nextPass_holdElapsed : (s.nextPass).holdElapsed = s.holdElapsed :=
  by unfold State.nextPass; split <;> rfl
@[simp] theorem State.nextPass_holdLine : (s.nextPass).holdLine = s.holdLine :=
  by unfold State.nextPass; split <;> rfl
@[simp] theorem State.nextPass_collection : (s.nextPass).collection = s.collection :=
  by unfold State.nextPass; split <;> rfl
@[simp] theorem State.nextPass_reader : (s.nextPass).reader = s.reader := by unfold State.nextPass; split <;> rfl
@[simp] theorem State.nextPass_marker : (s.nextPass).marker = s.marker := by unfold State.nextPass; split <;> rfl
@[simp] theorem State.nextPass_responses : (s.nextPass).responses = s.responses :=
  by unfold State.nextPass; split <;> rfl
@[simp] theorem State.nextPass_link : (s.nextPass).link = s.link := by unfold State.nextPass; split <;> rfl
@[simp] theorem State.nextPass_resetLow : (s.nextPass).resetLow = s.resetLow :=
  by unfold State.nextPass; split <;> rfl
@[simp] theorem State.nextPass_pending : (s.nextPass).pending = s.pending := by unfold State.nextPass; split <;> rfl

/-! ### State.endWindow -/

@[simp] theorem State.endWindow_cands : (s.endWindow).cands = s.cands := by simp [State.endWindow]
@[simp] theorem State.endWindow_papers : (s.endWindow).papers = s.papers := by simp [State.endWindow]
@[simp] theorem State.endWindow_hall : (s.endWindow).hall = s.hall := by simp [State.endWindow]
@[simp] theorem State.endWindow_seats : (s.endWindow).seats = s.seats := by simp [State.endWindow]
@[simp] theorem State.endWindow_loops : (s.endWindow).loops = s.loops := by simp [State.endWindow]
@[simp] theorem State.endWindow_closing : (s.endWindow).closing = s.closing := by simp [State.endWindow]
@[simp] theorem State.endWindow_pollFrame : (s.endWindow).pollFrame = s.pollFrame := by simp [State.endWindow]
@[simp] theorem State.endWindow_job : (s.endWindow).job = s.job := by simp [State.endWindow]
@[simp] theorem State.endWindow_lastOutcome : (s.endWindow).lastOutcome = s.lastOutcome := by simp [State.endWindow]
@[simp] theorem State.endWindow_hallTime : (s.endWindow).hallTime = s.hallTime := by simp [State.endWindow]
@[simp] theorem State.endWindow_hold : (s.endWindow).hold = s.hold := by simp [State.endWindow]
@[simp] theorem State.endWindow_holdElapsed : (s.endWindow).holdElapsed = s.holdElapsed := by simp [State.endWindow]
@[simp] theorem State.endWindow_holdLine : (s.endWindow).holdLine = s.holdLine := by simp [State.endWindow]
@[simp] theorem State.endWindow_collection : (s.endWindow).collection = s.collection := by simp [State.endWindow]
@[simp] theorem State.endWindow_reader : (s.endWindow).reader = s.reader := by simp [State.endWindow]
@[simp] theorem State.endWindow_marker : (s.endWindow).marker = s.marker := by simp [State.endWindow]
@[simp] theorem State.endWindow_responses : (s.endWindow).responses = s.responses := by simp [State.endWindow]
@[simp] theorem State.endWindow_link : (s.endWindow).link = s.link := by simp [State.endWindow]
@[simp] theorem State.endWindow_resetLow : (s.endWindow).resetLow = s.resetLow := by simp [State.endWindow]
@[simp] theorem State.endWindow_pending : (s.endWindow).pending = s.pending := by simp [State.endWindow]

/-! ### State.afterStep -/

@[simp] theorem State.afterStep_cands (b : State) (r : Request) : (s.afterStep b r).cands = s.cands :=
  by unfold State.afterStep; split <;> simp
@[simp] theorem State.afterStep_papers (b : State) (r : Request) : (s.afterStep b r).papers = s.papers :=
  by unfold State.afterStep; split <;> simp
@[simp] theorem State.afterStep_hall (b : State) (r : Request) : (s.afterStep b r).hall = s.hall :=
  by unfold State.afterStep; split <;> simp
@[simp] theorem State.afterStep_seats (b : State) (r : Request) : (s.afterStep b r).seats = s.seats :=
  by unfold State.afterStep; split <;> simp
@[simp] theorem State.afterStep_loops (b : State) (r : Request) : (s.afterStep b r).loops = s.loops :=
  by unfold State.afterStep; split <;> simp
@[simp] theorem State.afterStep_sweep (b : State) (r : Request) : (s.afterStep b r).sweep = s.sweep :=
  by unfold State.afterStep; split <;> simp
@[simp] theorem State.afterStep_closing (b : State) (r : Request) : (s.afterStep b r).closing = s.closing :=
  by unfold State.afterStep; split <;> simp
@[simp] theorem State.afterStep_passList (b : State) (r : Request) : (s.afterStep b r).passList = s.passList :=
  by unfold State.afterStep; split <;> simp
@[simp] theorem State.afterStep_window (b : State) (r : Request) : (s.afterStep b r).window = s.window :=
  by unfold State.afterStep; split <;> simp
@[simp] theorem State.afterStep_pollFrame (b : State) (r : Request) : (s.afterStep b r).pollFrame = s.pollFrame :=
  by unfold State.afterStep; split <;> simp
@[simp] theorem State.afterStep_job (b : State) (r : Request) : (s.afterStep b r).job = s.job :=
  by unfold State.afterStep; split <;> simp
@[simp] theorem State.afterStep_lastOutcome (b : State) (r : Request) : (s.afterStep b r).lastOutcome = s.lastOutcome :=
  by unfold State.afterStep; split <;> simp
@[simp] theorem State.afterStep_hallTime (b : State) (r : Request) : (s.afterStep b r).hallTime = s.hallTime :=
  by unfold State.afterStep; split <;> simp
@[simp] theorem State.afterStep_hold (b : State) (r : Request) : (s.afterStep b r).hold = s.hold :=
  by unfold State.afterStep; split <;> simp
@[simp] theorem State.afterStep_holdElapsed (b : State) (r : Request) : (s.afterStep b r).holdElapsed = s.holdElapsed :=
  by unfold State.afterStep; split <;> simp
@[simp] theorem State.afterStep_holdLine (b : State) (r : Request) : (s.afterStep b r).holdLine = s.holdLine :=
  by unfold State.afterStep; split <;> simp
@[simp] theorem State.afterStep_collection (b : State) (r : Request) : (s.afterStep b r).collection = s.collection :=
  by unfold State.afterStep; split <;> simp
@[simp] theorem State.afterStep_reader (b : State) (r : Request) : (s.afterStep b r).reader = s.reader :=
  by unfold State.afterStep; split <;> simp
@[simp] theorem State.afterStep_marker (b : State) (r : Request) : (s.afterStep b r).marker = s.marker :=
  by unfold State.afterStep; split <;> simp
@[simp] theorem State.afterStep_responses (b : State) (r : Request) : (s.afterStep b r).responses = s.responses :=
  by unfold State.afterStep; split <;> simp
@[simp] theorem State.afterStep_resetLow (b : State) (r : Request) : (s.afterStep b r).resetLow = s.resetLow :=
  by unfold State.afterStep; split <;> simp
@[simp] theorem State.afterStep_pending (b : State) (r : Request) : (s.afterStep b r).pending = s.pending :=
  by unfold State.afterStep; split <;> simp

/-! ### State.readerError -/

@[simp] theorem State.readerError_cands (r : ReaderErr) (k : Option Nat) (g : Nat) : (s.readerError r k g).cands = s.cands :=
  rfl
@[simp] theorem State.readerError_papers (r : ReaderErr) (k : Option Nat) (g : Nat) : (s.readerError r k g).papers = s.papers :=
  rfl
@[simp] theorem State.readerError_hall (r : ReaderErr) (k : Option Nat) (g : Nat) : (s.readerError r k g).hall = s.hall :=
  rfl
@[simp] theorem State.readerError_seats (r : ReaderErr) (k : Option Nat) (g : Nat) : (s.readerError r k g).seats = s.seats :=
  rfl
@[simp] theorem State.readerError_loops (r : ReaderErr) (k : Option Nat) (g : Nat) : (s.readerError r k g).loops = s.loops :=
  rfl
@[simp] theorem State.readerError_sweep (r : ReaderErr) (k : Option Nat) (g : Nat) : (s.readerError r k g).sweep = s.sweep :=
  rfl
@[simp] theorem State.readerError_closing (r : ReaderErr) (k : Option Nat) (g : Nat) : (s.readerError r k g).closing = s.closing :=
  rfl
@[simp] theorem State.readerError_passList (r : ReaderErr) (k : Option Nat) (g : Nat) : (s.readerError r k g).passList = s.passList :=
  rfl
@[simp] theorem State.readerError_window (r : ReaderErr) (k : Option Nat) (g : Nat) : (s.readerError r k g).window = s.window :=
  rfl
@[simp] theorem State.readerError_pollFrame (r : ReaderErr) (k : Option Nat) (g : Nat) : (s.readerError r k g).pollFrame = s.pollFrame :=
  rfl
@[simp] theorem State.readerError_job (r : ReaderErr) (k : Option Nat) (g : Nat) : (s.readerError r k g).job = s.job :=
  rfl
@[simp] theorem State.readerError_lastOutcome (r : ReaderErr) (k : Option Nat) (g : Nat) : (s.readerError r k g).lastOutcome = s.lastOutcome :=
  rfl
@[simp] theorem State.readerError_hallTime (r : ReaderErr) (k : Option Nat) (g : Nat) : (s.readerError r k g).hallTime = s.hallTime :=
  rfl
@[simp] theorem State.readerError_hold (r : ReaderErr) (k : Option Nat) (g : Nat) : (s.readerError r k g).hold = s.hold :=
  rfl
@[simp] theorem State.readerError_holdElapsed (r : ReaderErr) (k : Option Nat) (g : Nat) : (s.readerError r k g).holdElapsed = s.holdElapsed :=
  rfl
@[simp] theorem State.readerError_holdLine (r : ReaderErr) (k : Option Nat) (g : Nat) : (s.readerError r k g).holdLine = s.holdLine :=
  rfl
@[simp] theorem State.readerError_collection (r : ReaderErr) (k : Option Nat) (g : Nat) : (s.readerError r k g).collection = s.collection :=
  rfl
@[simp] theorem State.readerError_reader (r : ReaderErr) (k : Option Nat) (g : Nat) : (s.readerError r k g).reader = s.reader :=
  rfl
@[simp] theorem State.readerError_marker (r : ReaderErr) (k : Option Nat) (g : Nat) : (s.readerError r k g).marker = s.marker :=
  rfl
@[simp] theorem State.readerError_responses (r : ReaderErr) (k : Option Nat) (g : Nat) : (s.readerError r k g).responses = s.responses :=
  rfl
@[simp] theorem State.readerError_resetLow (r : ReaderErr) (k : Option Nat) (g : Nat) : (s.readerError r k g).resetLow = s.resetLow :=
  rfl
@[simp] theorem State.readerError_pending (r : ReaderErr) (k : Option Nat) (g : Nat) : (s.readerError r k g).pending = s.pending :=
  rfl

/-! ### State.postPaperState -/

@[simp] theorem State.postPaperState_cands (p : Nat) (x : PaperState) (c : PaperCause) : (s.postPaperState p x c).cands = s.cands :=
  by unfold State.postPaperState; split <;> simp
@[simp] theorem State.postPaperState_papers (p : Nat) (x : PaperState) (c : PaperCause) : (s.postPaperState p x c).papers = s.papers :=
  by unfold State.postPaperState; split <;> simp
@[simp] theorem State.postPaperState_hall (p : Nat) (x : PaperState) (c : PaperCause) : (s.postPaperState p x c).hall = s.hall :=
  by unfold State.postPaperState; split <;> simp
@[simp] theorem State.postPaperState_seats (p : Nat) (x : PaperState) (c : PaperCause) : (s.postPaperState p x c).seats = s.seats :=
  by unfold State.postPaperState; split <;> simp
@[simp] theorem State.postPaperState_loops (p : Nat) (x : PaperState) (c : PaperCause) : (s.postPaperState p x c).loops = s.loops :=
  by unfold State.postPaperState; split <;> simp
@[simp] theorem State.postPaperState_sweep (p : Nat) (x : PaperState) (c : PaperCause) : (s.postPaperState p x c).sweep = s.sweep :=
  by unfold State.postPaperState; split <;> simp
@[simp] theorem State.postPaperState_closing (p : Nat) (x : PaperState) (c : PaperCause) : (s.postPaperState p x c).closing = s.closing :=
  by unfold State.postPaperState; split <;> simp
@[simp] theorem State.postPaperState_passList (p : Nat) (x : PaperState) (c : PaperCause) : (s.postPaperState p x c).passList = s.passList :=
  by unfold State.postPaperState; split <;> simp
@[simp] theorem State.postPaperState_window (p : Nat) (x : PaperState) (c : PaperCause) : (s.postPaperState p x c).window = s.window :=
  by unfold State.postPaperState; split <;> simp
@[simp] theorem State.postPaperState_pollFrame (p : Nat) (x : PaperState) (c : PaperCause) : (s.postPaperState p x c).pollFrame = s.pollFrame :=
  by unfold State.postPaperState; split <;> simp
@[simp] theorem State.postPaperState_job (p : Nat) (x : PaperState) (c : PaperCause) : (s.postPaperState p x c).job = s.job :=
  by unfold State.postPaperState; split <;> simp
@[simp] theorem State.postPaperState_lastOutcome (p : Nat) (x : PaperState) (c : PaperCause) : (s.postPaperState p x c).lastOutcome = s.lastOutcome :=
  by unfold State.postPaperState; split <;> simp
@[simp] theorem State.postPaperState_hallTime (p : Nat) (x : PaperState) (c : PaperCause) : (s.postPaperState p x c).hallTime = s.hallTime :=
  by unfold State.postPaperState; split <;> simp
@[simp] theorem State.postPaperState_hold (p : Nat) (x : PaperState) (c : PaperCause) : (s.postPaperState p x c).hold = s.hold :=
  by unfold State.postPaperState; split <;> simp
@[simp] theorem State.postPaperState_holdElapsed (p : Nat) (x : PaperState) (c : PaperCause) : (s.postPaperState p x c).holdElapsed = s.holdElapsed :=
  by unfold State.postPaperState; split <;> simp
@[simp] theorem State.postPaperState_holdLine (p : Nat) (x : PaperState) (c : PaperCause) : (s.postPaperState p x c).holdLine = s.holdLine :=
  by unfold State.postPaperState; split <;> simp
@[simp] theorem State.postPaperState_collection (p : Nat) (x : PaperState) (c : PaperCause) : (s.postPaperState p x c).collection = s.collection :=
  by unfold State.postPaperState; split <;> simp
@[simp] theorem State.postPaperState_reader (p : Nat) (x : PaperState) (c : PaperCause) : (s.postPaperState p x c).reader = s.reader :=
  by unfold State.postPaperState; split <;> simp
@[simp] theorem State.postPaperState_marker (p : Nat) (x : PaperState) (c : PaperCause) : (s.postPaperState p x c).marker = s.marker :=
  by unfold State.postPaperState; split <;> simp
@[simp] theorem State.postPaperState_responses (p : Nat) (x : PaperState) (c : PaperCause) : (s.postPaperState p x c).responses = s.responses :=
  by unfold State.postPaperState; split <;> simp
@[simp] theorem State.postPaperState_resetLow (p : Nat) (x : PaperState) (c : PaperCause) : (s.postPaperState p x c).resetLow = s.resetLow :=
  by unfold State.postPaperState; split <;> simp
@[simp] theorem State.postPaperState_pending (p : Nat) (x : PaperState) (c : PaperCause) : (s.postPaperState p x c).pending = s.pending :=
  by unfold State.postPaperState; split <;> simp

/-! ### Reading a record after an update -/

@[simp] theorem State.modCand_cand (i j : Nat) (f : Cand → Cand) :
    (s.modCand i f).cand j = if j = i then (s.cand j).map f else s.cand j := Table.get_modify ..

@[simp] theorem State.mapCands_cand (p j : Nat) (f : Cand → Cand) :
    (s.mapCands p f).cand j = (s.cand j).map (fun c => if c.paper = p then f c else c) :=
  Table.get_mapAll s.cands (fun c => if c.paper = p then f c else c) j

@[simp] theorem State.modPaper_paper (p q : Nat) (f : Paper → Paper) :
    (s.modPaper p f).paper q = if q = p then (s.paper q).map f else s.paper q := Table.get_modify ..

@[simp] theorem State.modSeat_seat (n m : Nat) (f : Seat → Seat) :
    (s.modSeat n f).seat m = if m = n then (s.seat m).map f else s.seat m := Table.get_modify ..

@[simp] theorem State.modLoop_loop (n m : Nat) (f : LoopRec → LoopRec) :
    (s.modLoop n f).loop m = if m = n then (s.loop m).map f else s.loop m := Table.get_modify ..

theorem State.cand_congr {s t : State} (h : t.cands = s.cands) (i : Nat) : t.cand i = s.cand i := by
  simp [State.cand, h]

theorem State.paper_congr {s t : State} (h : t.papers = s.papers) (p : Nat) : t.paper p = s.paper p := by
  simp [State.paper, h]

theorem State.seat_congr {s t : State} (h : t.seats = s.seats) (n : Nat) : t.seat n = s.seat n := by
  simp [State.seat, h]

theorem State.loop_congr {s t : State} (h : t.loops = s.loops) (n : Nat) : t.loop n = s.loop n := by
  simp [State.loop, h]

@[simp] theorem State.pump_cand (i : Nat) : s.pump.cand i = s.cand i := State.cand_congr (by simp) i
@[simp] theorem State.pump_paper (p : Nat) : s.pump.paper p = s.paper p := State.paper_congr (by simp) p
@[simp] theorem State.pump_seat (n : Nat) : s.pump.seat n = s.seat n := State.seat_congr (by simp) n
@[simp] theorem State.pump_loop (n : Nat) : s.pump.loop n = s.loop n := State.loop_congr (by simp) n
@[simp] theorem State.post_cand (n i : Nat) (b : NoticeBody) : (s.post n b).cand i = s.cand i :=
  State.cand_congr (by simp) i
@[simp] theorem State.post_paper (n p : Nat) (b : NoticeBody) : (s.post n b).paper p = s.paper p :=
  State.paper_congr (by simp) p
@[simp] theorem State.post_seat (n m : Nat) (b : NoticeBody) : (s.post n b).seat m = s.seat m :=
  State.seat_congr (by simp) m
@[simp] theorem State.post_loop (n m : Nat) (b : NoticeBody) : (s.post n b).loop m = s.loop m :=
  State.loop_congr (by simp) m

/-! ### The link's parts under the transmitter -/

@[simp] theorem State.pump_inHand : s.pump.link.inHand = s.link.inHand := by
  simp only [State.pump, Link.pump]; split <;> try rfl
  split <;> try rfl
  split <;> rfl

@[simp] theorem State.pump_waiting : s.pump.link.waiting = s.link.waiting := by
  simp only [State.pump, Link.pump]; split <;> try rfl
  split <;> try rfl
  split <;> rfl

@[simp] theorem State.pump_rx : s.pump.link.rx = s.link.rx := by
  simp only [State.pump, Link.pump]; split <;> try rfl
  split <;> try rfl
  split <;> rfl

@[simp] theorem State.pump_rate : s.pump.link.rate = s.link.rate := by
  simp only [State.pump, Link.pump]; split <;> try rfl
  split <;> try rfl
  split <;> rfl

/-- What the transmitter does: nothing while it sends; idle, it begins the ready reply, else the oldest notice (R191). -/
theorem Link.pump_cases (l : Link) :
    (l.tx ≠ .idle ∧ l.pump = l) ∨
    (∃ r, l.tx = .idle ∧ l.inHand = some r ∧ l.pump = { l with tx := .reply r.frame }) ∨
    (∃ n rest, l.tx = .idle ∧ l.inHand = none ∧ l.notices = n :: rest ∧
      l.pump = { l with tx := .notice n.frame, notices := rest }) ∨
    (l.tx = .idle ∧ l.inHand = none ∧ l.notices = [] ∧ l.pump = l) := by
  unfold Link.pump
  split
  · simp_all
  · simp_all
  · split
    · simp_all
    · split <;> simp_all

/-- The transmitter that has chosen does not choose again: if it is still idle, it has nothing to send (R191). -/
theorem Link.pump_pump (l : Link) : l.pump.pump = l.pump := by
  rcases l.pump_cases with ⟨h, e⟩ | ⟨r, h1, h2, e⟩ | ⟨n, rest, h1, h2, h3, e⟩ | ⟨h1, h2, h3, e⟩
  · rw [e, e]
  · rw [e]; rfl
  · rw [e]; rfl
  · rw [e, e]

theorem State.pump_pump : s.pump.pump = s.pump := by simp only [State.pump, Link.pump_pump]

/-- What posting a notice does: it joins a queue that has a place; else it is lost, and the flag says so (R191). -/
theorem Link.push_cases (l : Link) (n : Notice) :
    (l.notices.length < Config.noticeCapacity ∧ l.push n = { l with notices := l.notices ++ [n] }) ∨
    (Config.noticeCapacity ≤ l.notices.length ∧ l.push n = { l with lostNotice := true }) := by
  unfold Link.push
  split
  · exact .inl ⟨by assumption, rfl⟩
  · exact .inr ⟨by omega, rfl⟩

end Sys2Proof.Machine
end

