-- ==== Sys2Proof/Laws/Requests.lean ====
section
/-! SUPPORT. What the arrival of a request does, said once: taken at once with no request in hand, kept or dropped behind one.
-/

namespace Sys2Proof.Machine

variable {s : State}

/-- Only a taken SESSION_CLEAR queues a notice after its step (R195). -/
theorem State.afterStep_of_ne {b : State} {r : Request} (h : r ≠ .sessionClear) : s.afterStep b r = s := by
  simp [State.afterStep, h]

/-- A refused SESSION_CLEAR queues nothing (R195). -/
theorem State.afterStep_refused {b : State} {r : Request} {code : ResultCode} {d : Detail}
    (h : Machine.decide r b = (b, .refused code d)) : s.afterStep b r = s := by
  unfold State.afterStep
  split
  · rename_i hr
    obtain ⟨rfl, hc⟩ := hr
    simp [Machine.decide, decideSessionClear, hc] at h
  · rfl

/-- A request that arrives with RESET high and no request in hand is decided on the records as they stand, its reply is built
and goes to the transmitter, and what follows its step is queued (R188, R189, R191, R195). -/
theorem running_hostRequest_free (h : s.LinkFree) (tag : Nat) (r : Request) :
    running (State.hostRequest tag r) s =
      .next ((((Machine.decide r s.pump).1.reply (BitVec.ofNat 8 (requestKind r)) (BitVec.ofNat 8 tag)
        (Machine.decide r s.pump).2).afterStep s.pump r).pump) := by
  obtain ⟨h1, h2⟩ := h
  simp only [running, h1, State.hostRequest, State.pump_inHand, h2, Option.isNone_none, if_true]
  rfl

/-- The reply OK of a request that is taken; SESSION_CLEAR queues its notice besides. -/
theorem running_hostRequest_ok (h : s.LinkFree) {tag : Nat} {r : Request} {u : State} {data : List Byte}
    (hr : r ≠ .sessionClear) (hd : Machine.decide r s.pump = (u, .ok data)) :
    running (State.hostRequest tag r) s = .next (State.replied u (requestKind r) tag data) := by
  rw [running_hostRequest_free h, State.afterStep_of_ne hr, hd]; rfl

/-- The refusal of a request: the records stay as they were (R190). -/
theorem running_hostRequest_refused (h : s.LinkFree) {tag : Nat} {r : Request} {code : ResultCode} {detail value : Nat}
    (hd : Machine.decide r s.pump = (s.pump, .refused code { code := detail, value := value })) :
    running (State.hostRequest tag r) s = .next (s.turnedDown (requestKind r) tag code detail value) := by
  rw [running_hostRequest_free h, State.afterStep_refused hd, hd]; rfl

end Sys2Proof.Machine
end

