-- ==== Sys2Proof/Laws/Steps.lean ====
section
/-! SUPPORT. What the shared operations of a command do, each said once: running, two changes of one record, a traced change, the
tests of states, a second event under a condition, the check of a seat's reply, the notices of candidates passed
over, check 4 of FORMAT_LOAD, notices that stay told, and the close of a paper.
-/

namespace Sys2Proof.Machine

variable {s : State}

/-! ### Commands -/

/-- A command other than RESET with RESET high: its effect between two choices of the transmitter (log 6). -/
theorem running_high (f : State → State) (h : s.resetLow = false) : running f s = .next (f s.pump).pump := by
  simp [running, h]

/-- A command other than RESET with RESET low: nothing (log 7). -/
theorem running_low (f : State → State) (h : s.resetLow = true) : running f s = .next s := by
  simp [running, h]

/-- One of the labelled second events, where the event it names is due: the second event (log 3). -/
@[simp] theorem State.secondIf_true : s.secondIf true = s.secondEvent := rfl

/-- One of the labelled second events, where the event it names is not due: nothing (log 3). -/
@[simp] theorem State.secondIf_false : s.secondIf false = s := rfl

/-! ### Tables -/

/-- In a canonical table the record that is listed under a number is the one read there. -/
theorem Table.get_of_mem {α : Type} {n : Nat} {t : Table α} (hw : Table.wf n t = true) {e : Nat × α} (he : e ∈ t) :
    Table.get t e.1 = some e.2 := by
  have hp := ((Table.wf_iff n t).1 hw).1
  clear hw
  induction t with
  | nil => simp at he
  | cons a t ih =>
    obtain ⟨j, v⟩ := a
    simp only [Table.keys, List.map_cons, List.pairwise_cons] at hp
    rcases List.mem_cons.1 he with rfl | h
    · simp [Table.get]
    · have : j < e.1 := hp.1 e.1 (List.mem_map_of_mem h)
      simp only [Table.get]
      rw [if_neg (by omega)]
      exact ih h hp.2

/-- Two changes of one record are one. -/
theorem Table.modify_modify {α : Type} (t : Table α) (k : Nat) (f g : α → α) :
    Table.modify (Table.modify t k f) k g = Table.modify t k (fun x => g (f x)) := by
  simp only [Table.modify, List.map_map]
  refine List.map_congr_left fun e _ => ?_
  by_cases h : e.1 = k <;> simp [h]

/-- Two changes that agree on the record read are the same change of the table. -/
theorem Table.modify_congr {α : Type} {n : Nat} {t : Table α} (hw : Table.wf n t = true) {k : Nat} {f g : α → α}
    (h : ∀ v, Table.get t k = some v → f v = g v) : Table.modify t k f = Table.modify t k g := by
  refine List.map_congr_left fun e he => ?_
  by_cases hk : e.1 = k
  · simp only [hk, if_true]
    rw [h e.2 (hk ▸ Table.get_of_mem hw he)]
  · simp [hk]

/-! ### Two changes of one record -/

theorem State.modCand_modCand (i : Nat) (f g : Cand → Cand) :
    (s.modCand i f).modCand i g = s.modCand i (fun c => g (f c)) := by
  simp only [State.modCand, Table.modify_modify]

theorem State.modPaper_modPaper (p : Nat) (f g : Paper → Paper) :
    (s.modPaper p f).modPaper p g = s.modPaper p (fun q => g (f q)) := by
  simp only [State.modPaper, Table.modify_modify]

theorem State.modSeat_modSeat (n : Nat) (f g : Seat → Seat) :
    (s.modSeat n f).modSeat n g = s.modSeat n (fun x => g (f x)) := by
  simp only [State.modSeat, Table.modify_modify]

theorem State.modLoop_modLoop (n : Nat) (f g : LoopRec → LoopRec) :
    (s.modLoop n f).modLoop n g = s.modLoop n (fun r => g (f r)) := by
  simp only [State.modLoop, Table.modify_modify]

/-! ### A traced change of a candidate (R14) -/

/-- A traced change posts its WATCH_TRACE or does not; the records are those of the plain change. -/
theorem State.changeCand_cases (i : Nat) (f : Cand → Cand) (cause : Cause) :
    (s.cand i = none ∧ s.changeCand i f cause = s) ∨
    (∃ c, s.cand i = some c ∧ s.changeCand i f cause =
      if (f c).flags.watch && traced c (f c) then
        (s.modCand i f).post i (.watchTrace (f c).number (f c).paper c.state (f c).state (f c).seat (f c).used
          (f c).limit (f c).flags cause)
      else s.modCand i f) := by
  cases h : s.cand i with
  | none => exact .inl ⟨rfl, by simp [State.changeCand, h]⟩
  | some c =>
    refine .inr ⟨c, rfl, ?_⟩
    have hc : (s.modCand i f).cand i = some (f c) := by simp [h]
    simp only [State.changeCand, h, State.traceOne, hc, State.traceChange]

theorem State.changeCand_cands (i : Nat) (f : Cand → Cand) (cause : Cause) :
    (s.changeCand i f cause).cands = (s.modCand i f).cands := by
  rcases State.changeCand_cases (s := s) i f cause with ⟨h, e⟩ | ⟨c, h, e⟩
  · rw [e]
    simp only [State.modCand, Table.modify]
    conv => lhs; rw [← List.map_id s.cands]
    refine List.map_congr_left fun x hx => ?_
    by_cases hk : x.1 = i
    · exfalso
      have : ∀ t : Table Cand, x ∈ t → Table.get t x.1 ≠ none := by
        intro t
        induction t with
        | nil => simp
        | cons a t ih =>
          intro hm
          simp only [Table.get]
          split
          · simp
          · rcases List.mem_cons.1 hm with rfl | hm
            · simp_all
            · exact ih hm
      exact this _ hx (hk ▸ h)
    · simp [hk]
  · rw [e]; split <;> rfl

@[simp] theorem State.changeCand_cand (i j : Nat) (f : Cand → Cand) (cause : Cause) :
    (s.changeCand i f cause).cand j = if j = i then (s.cand j).map f else s.cand j := by
  rw [State.cand_congr (State.changeCand_cands i f cause), State.modCand_cand]

/-! ### The notices of one event (R14) -/

/-- An event that changes no record posts no WATCH_TRACE. -/
theorem State.traceAllBy_self {n : Nat} (h : Table.wf n s.cands = true) (cause : Cand → Cause) :
    s.traceAllBy s.cands cause = s := by
  have fold : ∀ (l : Table Cand) (t : State), (∀ e ∈ l, Table.get s.cands e.1 = some e.2) →
      l.foldl (fun t e =>
        match Table.get s.cands e.1 with
        | some old => t.traceChange e.1 old e.2 (cause e.2)
        | none => t) t = t := by
    intro l
    induction l with
    | nil => intros; rfl
    | cons e l ih =>
      intro t hl
      have he : t.traceChange e.1 e.2 e.2 (cause e.2) = t := by simp [State.traceChange, traced]
      simp only [List.foldl_cons, hl e (by simp), he]
      exact ih t (fun x hx => hl x (List.mem_cons_of_mem _ hx))
  exact fold s.cands s (fun e he => Table.get_of_mem h he)

/-! ### Passes of the seat loop (R98, R99) -/

/-- A pass begins, with its list, where the sweep is over and no pass is in progress; else nothing changes. -/
theorem State.nextPass_cases :
    (s.sweep = none ∧ s.passInProgress = false ∧ s.nextPass = { s with passList := s.pollingOrder }) ∨
    ((s.sweep ≠ none ∨ s.passInProgress = true) ∧ s.nextPass = s) := by
  unfold State.nextPass
  cases h : s.sweep <;> cases hp : s.passInProgress <;> simp

/-- The end of a window ends the sweep where its last poll had opened it, and takes the next pass's list where it ended a pass. -/
theorem State.endWindow_eq : s.endWindow = { s with
    window := none
    sweep := if s.sweep = some 512 then none else s.sweep
    passList := if s.passList = [] ∧ (s.sweep = none ∨ s.sweep = some 512) then
        (s.seats.filter (fun e => e.2.state ≠ .disabled)).map Prod.fst
      else s.passList } := by
  obtain ⟨_, _, _, _, _, sweep, _, passList, _, _⟩ := s
  rcases sweep with _ | k
  · cases passList <;> rfl
  · by_cases hk : k = 512
    · subst hk
      cases passList <;> rfl
    · cases passList <;> simp [State.endWindow, State.nextPass, Config.indexCount, hk]

/-! ### Tests of states -/

/-- READING, WRITING or RESTING (R82). -/
theorem CandState.active_iff (c : CandState) : c.active = true ↔ c = .reading ∨ c = .writing ∨ c = .resting := by
  cases c <;> simp [CandState.active]

/-- READING, WRITING or EXTENDED (R24, R87). -/
theorem PaperState.running_iff (c : PaperState) : c.running = true ↔ c = .reading ∨ c = .writing ∨ c = .extended := by
  cases c <;> simp [PaperState.running]

/-- The occupant of a defined seat. -/
theorem State.occupantOf_seat {n : Nat} {x : Seat} (h : s.seat n = some x) : s.occupantOf n = x.occupant := by
  simp [State.occupantOf, h]

/-- A good reply: the bytes sum to 0xFF, and address bits 7..0 and 8 name the seat polled (R100, R102). -/
theorem replyGood_iff (n : Nat) (b0 b1 b2 : Byte) :
    replyGood n b0 b1 b2 = true ↔ b0 + b1 + b2 = 0xFF ∧ b0.toNat + (if b1.msb then 256 else 0) = n := by
  simp only [replyGood, Bool.and_eq_true, decide_eq_true_eq]
  constructor <;> rintro ⟨h1, h2⟩ <;> refine ⟨by simpa using h1, ?_⟩ <;> omega

/-! ### The notices of a walk that passes candidates over -/

/-- A fold of steps that change nothing but the link changes nothing but the link. -/
theorem State.fold_link {α : Type} (f : State → α → State) (hf : ∀ t a, ∃ l, f t a = { t with link := l }) (as : List α)
    (s : State) : ∃ l, as.foldl f s = { s with link := l } := by
  induction as generalizing s with
  | nil => exact ⟨s.link, rfl⟩
  | cons a as ih =>
    obtain ⟨l, hl⟩ := hf s a
    obtain ⟨l', hl'⟩ := ih (f s a)
    exact ⟨l', by rw [List.foldl_cons, hl', hl]⟩

theorem State.traceChange_link (i : Nat) (o n : Cand) (c : Cause) (s : State) :
    ∃ l, s.traceChange i o n c = { s with link := l } := by
  unfold State.traceChange
  split
  · exact ⟨_, rfl⟩
  · exact ⟨s.link, rfl⟩

theorem State.traceOne_link (i : Nat) (o : Cand) (c : Cause) (s : State) :
    ∃ l, s.traceOne i o c = { s with link := l } := by
  unfold State.traceOne
  split
  · exact State.traceChange_link ..
  · exact ⟨s.link, rfl⟩

theorem State.traceAll_link (b : Table Cand) (c : Cause) (s : State) : ∃ l, s.traceAll b c = { s with link := l } := by
  unfold State.traceAll State.traceAllBy
  refine State.fold_link _ (fun t e => ?_) _ s
  dsimp only
  split
  · exact State.traceChange_link ..
  · exact ⟨t.link, rfl⟩

theorem State.postSkip_link (slot : Nat) (p : Passed) (s : State) : ∃ l, s.postSkip slot p = { s with link := l } := by
  unfold State.postSkip
  split
  · exact ⟨_, rfl⟩
  · exact ⟨s.link, rfl⟩

/-- The notices of a script's taking change nothing but the link (R127). -/
theorem State.postPassed_link (slot : Nat) (ps : List Passed) (s : State) :
    ∃ l, s.postPassed slot ps = { s with link := l } := by
  refine State.fold_link _ (fun t p => ?_) ps s
  obtain ⟨l, hl⟩ := State.postSkip_link slot p t
  obtain ⟨l', hl'⟩ := State.traceOne_link p.index p.old .collection (t.postSkip slot p)
  exact ⟨l', by rw [hl', hl]⟩

/-- The notices of a start, an expiry or a fault change nothing but the link (R14, R136). -/
theorem State.postDeferred_link (slot : Nat) (b : Table Cand) (ps : List Passed) (s : State) :
    ∃ l, s.postDeferred slot b ps = { s with link := l } := by
  obtain ⟨l, hl⟩ := State.fold_link _ (fun t p => State.postSkip_link slot p t) ps s
  obtain ⟨l', hl'⟩ := State.traceAll_link b .collection (ps.foldl (fun t p => t.postSkip slot p) s)
  exact ⟨l', by rw [State.postDeferred, hl', hl]⟩

/-! ### The checks of FORMAT_LOAD -/

/-- A format that has passed R160's check 1 fails check 4 by a question count only, never by the ranges of R45 (log 49). -/
theorem formatTaken_walksValid {a : FormatArgs} (h : formatInRange a = true) :
    (formatTaken a).walksValid = a.blocks.all (fun b => Decidable.decide (1 ≤ b.count) && Decidable.decide (b.count ≤ 64)) := by
  simp only [formatInRange, Bool.and_eq_true, List.all_eq_true] at h
  obtain ⟨⟨-, hid⟩, hb⟩ := h
  have hid' : (blockWalkTaken a.idBlock).inRange = true := hid
  simp only [Format.walksValid, formatTaken, hid', Bool.true_and, List.all_map]
  rw [Bool.eq_iff_iff, List.all_eq_true, List.all_eq_true]
  refine forall₂_congr fun b hm => ?_
  have hw : (blockWalkTaken b.walk).inRange = true := (hb b hm).2
  simp [hw]

/-! ### Notices that were posted (R191) -/

/-- A notice that is posted is told. -/
theorem State.post_told (n : Nat) (b : NoticeBody) : (s.post n b).Told ⟨s.hallTime, n, b⟩ := by
  rcases s.link.push_cases ⟨s.hallTime, n, b⟩ with ⟨-, e⟩ | ⟨-, e⟩ <;> simp [State.Told, State.post, e]

/-- A notice that was told stays so when another is posted. -/
theorem State.Told.post {m : Notice} (h : s.Told m) (n : Nat) (b : NoticeBody) : (s.post n b).Told m := by
  rcases s.link.push_cases ⟨s.hallTime, n, b⟩ with ⟨-, e⟩ | ⟨-, e⟩ <;>
    rcases h with h | h | h <;> simp [State.Told, State.post, e, h]

/-- A notice that was told stays so when the transmitter chooses: it may be the one whose sending begins. -/
theorem State.Told.pump {m : Notice} (h : s.Told m) : s.pump.Told m := by
  rcases s.link.pump_cases with ⟨h1, e⟩ | ⟨r, h1, h2, e⟩ | ⟨n, rest, h1, h2, h3, e⟩ | ⟨h1, h2, h3, e⟩ <;>
    simp only [State.Told, State.pump, e] at h ⊢
  · exact h
  · rcases h with h | h | h
    · exact .inl h
    · simp [h1] at h
    · exact .inr (.inr h)
  · rcases h with h | h | h
    · rw [h3] at h
      rcases List.mem_cons.1 h with rfl | h
      · exact .inr (.inl rfl)
      · exact .inl h
    · simp [h1] at h
    · exact .inr (.inr h)
  · exact h

theorem State.Told.traceChange {m : Notice} (h : s.Told m) (i : Nat) (o n : Cand) (c : Cause) :
    (s.traceChange i o n c).Told m := by
  unfold State.traceChange
  split
  · exact h.post _ _
  · exact h

/-- A notice that was told stays so under the WATCH_TRACE notices of an event. -/
theorem State.Told.traceAllBy {m : Notice} (h : s.Told m) (before : Table Cand) (cause : Cand → Cause) :
    (s.traceAllBy before cause).Told m := by
  unfold State.traceAllBy
  generalize s.cands = l
  induction l generalizing s with
  | nil => exact h
  | cons e l ih =>
    rw [List.foldl_cons]
    refine ih ?_
    split
    · exact h.traceChange ..
    · exact h

/-! ### The close of a paper (R76) -/

theorem Cand.toAbsent_active (c : Cand) : c.toAbsent.state.active = c.state.active := by
  unfold Cand.toAbsent
  split
  · simp_all [CandState.active]
  · rfl

theorem Cand.toAbsent_paper (c : Cand) : c.toAbsent.paper = c.paper := by
  unfold Cand.toAbsent
  split <;> rfl

/-- SEATED candidates that become ABSENT leave the number of active candidates as it was. -/
theorem State.makeAbsent_activeCount (p q : Nat) : (s.makeAbsent p).activeCount q = s.activeCount q := by
  simp only [State.activeCount, State.countCands, State.makeAbsent, State.modColl_cands, State.mapCands, Table.mapAll,
    List.countP_map]
  refine List.countP_congr fun e _ => ?_
  by_cases h : e.2.paper = p <;> simp [h, Cand.toAbsent_active, Cand.toAbsent_paper]

/-- All that the close of a paper does: its SEATED candidates become ABSENT and are counted, it becomes CLOSED, and PAPER_STATE
is posted with cause LAST_FINISH and the values after the change (R76, R77). -/
theorem State.closePaper_eq {slot : Nat} {p : Paper} (h : s.paper slot = some p) :
    s.closePaper slot = ((s.makeAbsent slot).setPaperState slot .closed).post slot
      (.paperState .extended .closed .lastFinish p.elapsed p.readingLeft p.coll.admitted
        (p.coll.absent + s.countCands slot (fun c => Decidable.decide (c.state = .seated))) (s.activeCount slot)) := by
  have hp : ((s.makeAbsent slot).setPaperState slot .closed).paper slot = some { p with
      state := .closed
      coll := { p.coll with
        absent := p.coll.absent + s.countCands slot (fun c => Decidable.decide (c.state = .seated)) } } := by
    have hm : (s.mapCands slot Cand.toAbsent).paper slot = some p := h
    simp [State.setPaperState, State.makeAbsent, State.modColl, hm]
  have ha : ((s.makeAbsent slot).setPaperState slot .closed).activeCount slot = s.activeCount slot :=
    State.makeAbsent_activeCount ..
  simp only [State.closePaper, State.postPaperState, hp, ha]

/-- A second event at which no EXTENDED paper has its last finish closes none (R76). -/
theorem State.closeFinished_none {n : Nat} {before : State} (hw : Table.wf n s.cands = true)
    (h : ∀ slot, before.activeCount slot ≠ 0 → s.lastFinished slot = false) : before.closeFinished s = s := by
  have hf : slots.filter (fun slot => before.activeCount slot != 0 && s.lastFinished slot) = [] := by
    simpa [List.filter_eq_nil_iff] using fun slot _ => h slot
  rw [State.closeFinished, hf]
  exact State.traceAllBy_self hw _

end Sys2Proof.Machine
end

