-- ==== Sys2Proof/Tests/Slice0.lean ====
section
/-! SUPPORT. Small checks of the model: the ill-formed commands that `wellFormed` refuses, the spec's worked examples, and for each
statement of Obligations.lean that has hypotheses a state and operands that meet them.
-/

namespace Sys2Proof.Tests

open Sys2Proof Sys2Proof.Machine

-- One theorem at a time: many at once need more thread stacks than the checks' memory limit allows.
set_option Elab.async false

/-! ### Small states -/

/-- A candidate of paper 0 with limit 60, in a state, with or without a seat. -/
def cd (st : CandState) (seat : Option Nat) : Cand where
  number := 0
  paper := 0
  allowance := 0
  needsAccess := false
  restBudget := 2
  restUsed := 1
  seat := seat
  state := st
  finish := none
  limit := 60
  used := 59
  flags := CandFlags.clear
  present := true
  result := none
  awayCount := 0
  awayReported := false

/-- The definition of a paper of one minute without reading time. -/
def df : PaperDef where
  code := List.replicate 8 0x41
  reading := 0
  writing := 60
  lateCutoff := 30
  noLeaveFirst := 10
  noLeaveLast := 5
  warnA := 20
  warnB := 10
  separation := .grid
  collectTimeout := 2
  start := none
  walk := none

/-- A paper in a state. -/
def pp (st : PaperState) : Paper :=
  { Paper.new df with state := st }

/-- Six candidates of one paper: 0 WRITING, 1 RESTING, 2 SEATED, 3 FINISHED, 4 COLLECTED, 5 UNSEATED; candidate `k` below 5 has
seat `k`. -/
def six : List Cand :=
  [cd .writing (some 0), cd .resting (some 1), cd .seated (some 2), cd .finished (some 3), cd .collected (some 4),
    cd .unseated none]

/-- A loop record with every input inactive. -/
def lp : LoopRec :=
  let i : InputRec := ⟨[false, false, false, false], .inactive⟩
  { misses := 0, presentIn := i, doneIn := i, callIn := i, keyIn := i, fresh := false, call := none, answered := false
    lamp := none }

/-- A hall of eight ENABLED seats in two rows of four, with the candidates given in index order and the paper in slot 0. -/
def hallOf (cs : List Cand) (p : Paper) : State :=
  { State.resetAt 3 with
    cands := cs.zipIdx.map (fun e => (e.2, { e.1 with number := 101 + e.2 }))
    papers := [(0, p)]
    hall := { Hall.reset with rows := 2, cols := 4 }
    seats := (List.range 8).map (fun n =>
      (n, ⟨n / 4, n % 4, .standard, .enabled, cs.findIdx? (fun c => c.seat == some n), none⟩))
    loops := (List.range 8).map (fun n => (n, lp))
    sweep := none }

/-- A format of three channels and four rows with two questions of two options. -/
def fm : Format where
  mask := 7#48
  subSamples := 2
  rows := 20
  refRow := 0
  tBlank := 40
  tMark := 110
  margin := 30
  faint := .asBlank
  multi := .asWrong
  sectionFloor := true
  paperFloor := -10
  idBlock := ⟨6, 6, 6⟩
  blocks := [⟨1, 2, 2, ⟨66, 2, 6⟩⟩]

/-- A paper with that format and both key entries, in a marking state. -/
def mp (m : MarkState) : Paper :=
  { pp .closed with
    format := some fm, key := [some ⟨1, 4, 1, 0⟩, some ⟨2, 4, 1, 0⟩], generation := 1, marking := m }

/-- A Sheet Record of tag 9 in a state. -/
def sr (st : SheetState) (b : Option Nat) : SheetRec where
  tag := 9
  state := st
  buffer := b
  rows := 20
  endTaken := some 0
  spoil := none
  decision := none
  staged := none

/-- A reader bound to paper 0, with that record as its only one. -/
def rd (x : SheetRec) : Reader :=
  { Reader.reset with bound := some 0, ready := true, tx := [], owner := some 9, records := [(0, x)] }

/-- A hall of the six candidates whose paper is bound, with that reader. -/
def bound (x : SheetRec) : State := { hallOf six (mp .bound) with reader := rd x }

/-- `State.Bounded` as one test. -/
def boundedTest (s : State) : Bool :=
  Table.wf 512 s.cands && Table.wf 8 s.papers && Table.wf 512 s.seats && Table.wf 512 s.loops && Table.wf 512 s.responses &&
  Table.wf 4 s.reader.records && Mem.wf s.reader.buf0.mem && Mem.wf s.reader.buf1.mem &&
  s.sweep.all (fun n => decide (n ≤ 512)) &&
  decide (s.reader.fifo.length ≤ 1024 ∧ s.reader.endCounter < 256 ∧ s.link.notices.length ≤ 64 ∧ s.hallTime ≤ 16777215 ∧
    s.holdElapsed ≤ 7200 ∧ s.link.rate < 4 ∧ (∀ e ∈ s.cands, e.2.awayCount ≤ 1800) ∧ (∀ e ∈ s.loops, e.2.misses ≤ 255) ∧
    (∀ e ∈ s.papers, e.2.coll.timer ≤ 600))

theorem bounded_of_test (s : State) (h : boundedTest s = true) : s.Bounded := by
  simp only [boundedTest, Bool.and_eq_true, decide_eq_true_eq] at h
  obtain ⟨⟨⟨⟨⟨⟨⟨⟨⟨h1, h2⟩, h3⟩, h4⟩, h5⟩, h6⟩, h7⟩, h8⟩, hs⟩, h9, h10, h11, h12, h13, h14, h15, h16, h17⟩ := h
  have hs' : ∀ n, s.sweep = some n → n ≤ Config.indexCount := fun n hn => by simpa [hn] using hs
  exact ⟨h1, h2, h3, h4, hs', h5, h6, h7, h8, h9, h10, h11, h12, h13, h14, h15, h16, h17⟩

theorem cand_all {s : State} {P : Nat → Cand → Prop} (h : ∀ e ∈ s.cands, P e.1 e.2) (i : Nat) (c : Cand)
    (hc : s.cand i = some c) : P i c := h _ (Table.get_mem hc)

theorem seat_all {s : State} {P : Nat → Seat → Prop} (h : ∀ e ∈ s.seats, P e.1 e.2) (n : Nat) (x : Seat)
    (hx : s.seat n = some x) : P n x := h _ (Table.get_mem hx)

theorem paper_all {s : State} {P : Nat → Paper → Prop} (h : ∀ e ∈ s.papers, P e.1 e.2) (n : Nat) (x : Paper)
    (hx : s.paper n = some x) : P n x := h _ (Table.get_mem hx)

/-- The next state of a command, for looking at its fields. -/
def after (c : Instr) (s : State) : State :=
  match exec c s with
  | .next t => t
  | .fault _ | .refused _ => s

/-! ### Ill-formed commands: one for each check -/

theorem test_wf_slot : (Instr.readingEnd 8).wellFormed = false ∧ (Instr.scheduledStart 7).wellFormed = true := by decide
theorem test_wf_index : (Instr.limitReached 512).wellFormed = false ∧ (Instr.awayLong 511).wellFormed = true := by decide
theorem test_wf_sheet_tag : (Instr.sheetBegin 256).wellFormed = false ∧ (Instr.atGate 256).wellFormed = false := by decide
theorem test_wf_row : (Instr.row 256 0 []).wellFormed = false ∧ (Instr.row 0 256 []).wellFormed = false ∧
    (Instr.row 0 0 (List.replicate 200 0)).wellFormed = false := by decide +kernel
theorem test_wf_sheet_end : (Instr.sheetEnd 0 256).wellFormed = false ∧ (Instr.stacked 0 256).wellFormed = false := by decide
theorem test_wf_jam : (Instr.jam (List.replicate 200 0)).wellFormed = false ∧ (Instr.jam [256]).wellFormed = false := by
  decide +kernel
theorem test_wf_reader_length : (Instr.readerLengthAbove200 1 0 200).wellFormed = false := by decide
theorem test_wf_request_tag : (Instr.identify 256).wellFormed = false ∧ (Instr.identify 255).wellFormed = true := by decide
theorem test_wf_fields : (Request.timeSet 16777216).wellFormed = false ∧ (Request.move 65536 0).wellFormed = false ∧
    (Request.move 0 65536).wellFormed = false ∧ (Request.candRead 256 0).wellFormed = false ∧
    (Request.candAdd 16777216 0 0 0 0 0).wellFormed = false ∧ (Request.candAdd 0 256 0 0 0 0).wellFormed = false ∧
    (Request.seatDefine 0 0 0 0 256).wellFormed = false ∧ (Request.seatState 0 256).wellFormed = false ∧
    (Request.seatRead 0 0 256).wellFormed = false ∧ (Request.candWatch 0 256).wellFormed = false ∧
    (Request.paperRead 256).wellFormed = false ∧ (Request.keyRead 0 0 256).wellFormed = false ∧
    (Request.collectionRead 0 65536).wellFormed = false := by decide
theorem test_wf_codes : [Request.candRemove 65536, .unseat 65536, .admitCand 65536, .finish 65536, .collectMark 65536,
    .resultRead 65536, .responsesRead 65536, .paperStart 256, .paperAbandon 256, .collectClose 256, .formatRead 256,
    .markBind 256, .rescore 256, .keyLoad 256 1 [], .keyLoad 0 256 [], .collectionRead 256 0].all
      (fun r => !r.wellFormed) = true := by decide
theorem test_wf_walk : (Request.allocate 0 ⟨0, 0, 128, 0, 0, 0, 0, 0, 1, 1, 1, 0⟩ 0).wellFormed = false ∧
    (Request.allocate 0 ⟨0, 0, -129, 0, 0, 0, 0, 0, 1, 1, 1, 0⟩ 0).wellFormed = false ∧
    (Request.allocate 0 ⟨0, 0, 0, 0, 0, 0, 0, 0, 256, 1, 1, 0⟩ 0).wellFormed = false ∧
    (Request.allocate 0 ⟨255, 255, -128, 127, 0, 0, 0, 0, 1, 1, 1, 255⟩ 255).wellFormed = true := by decide
theorem test_wf_hall : (Request.hallConfig ⟨256, 1, 0, 1, 0, 1, 0, 1, 0, 1, 0, 0, 0⟩).wellFormed = false ∧
    (Request.hallConfig ⟨1, 1, 0, 1, 0, 1, 0, 1, 0, 1, 0, 65536, 0⟩).wellFormed = false := by decide
theorem test_wf_paper :
    (Request.paperDefine 0 ⟨[], 0, 60, 0, 0, 0, 0, 0, 0, 0, 0, 0, 0, ⟨0, 0, 0, 0, 0, 0, 0, 0, 1, 1, 1, 0⟩⟩).wellFormed =
      false ∧
    (Request.paperDefine 0 ⟨List.replicate 8 0x41, 0, 65536, 0, 0, 0, 0, 0, 0, 0, 0, 0, 0,
      ⟨0, 0, 0, 0, 0, 0, 0, 0, 1, 1, 1, 0⟩⟩).wellFormed = false := by decide
theorem test_wf_format :
    (Request.formatLoad 0 ⟨7, 1, 4, 0, 40, 110, 30, 0, 0, 0, 32768, ⟨0, 0, 0⟩, []⟩).wellFormed = false ∧
    (Request.formatLoad 0 ⟨7, 1, 4, 0, 40, 110, 30, 0, 0, 0, 0, ⟨65536, 0, 0⟩, []⟩).wellFormed = false ∧
    (Request.formatLoad 0 ⟨7, 1, 4, 0, 40, 110, 30, 0, 0, 0, 0, ⟨0, 0, -32769⟩, []⟩).wellFormed = false ∧
    (Request.formatLoad 0 ⟨7, 1, 4, 0, 40, 110, 30, 0, 0, 0, 0, ⟨0, 0, 0⟩, [⟨256, 1, 2, ⟨0, 0, 0⟩⟩]⟩).wellFormed = false ∧
    (Request.formatLoad 0 ⟨7, 1, 4, 0, 40, 110, 30, 0, 0, 0, 0, ⟨0, 0, 0⟩,
      List.replicate 54 ⟨1, 1, 2, ⟨0, 0, 0⟩⟩⟩).wellFormed = false := by decide
theorem test_wf_key : (Request.keyLoad 0 1 [⟨0, 256, 0, 0⟩]).wellFormed = false ∧
    (Request.keyLoad 0 1 (List.replicate 127 ⟨0, 0, 0, 0⟩)).wellFormed = false := by decide +kernel

/-- No row of the table has bits, so no word spells a command. -/
theorem test_decodeTableWord : decodeTableWord 8 1 = none ∧ State.reset.withFetchWord 8 1 = State.reset := ⟨rfl, rfl⟩

/-! ### The spec's worked examples -/

/-- The limits of R6's table. -/
theorem test_limits : limitOf 5400 25 = 6750 ∧ limitOf 3599 33 = 4787 ∧ limitOf 28800 100 = 57600 := by decide

/-- The serpentine of 03_walks.md: three rows of four desks. -/
theorem test_serpentine :
    (List.range 12).map (fun n => (⟨0, 0, ⟨0, 1⟩, ⟨1, 0⟩, ⟨0, 0⟩, 4, 3, 1, true⟩ : SeatWalk).position
      ((Cursor.next 4 3 1 true)^[n] Cursor.start)) =
    [(0, 0), (0, 1), (0, 2), (0, 3), (1, 3), (1, 2), (1, 1), (1, 0), (2, 0), (2, 1), (2, 2), (2, 3)] := by decide

/-- The column-stride walk of 03_walks.md: advance 13 takes (0,4), and advance 24 leaves 1, 2, 3 exhausted. -/
theorem test_column_stride :
    (⟨0, 0, ⟨1, 0⟩, ⟨0, 1⟩, ⟨0, 4⟩, 4, 3, 2, false⟩ : SeatWalk).position ((Cursor.next 4 3 2 false)^[12] Cursor.start) =
      (0, 4) ∧
    (Cursor.next 4 3 2 false)^[24] Cursor.start = ⟨1, 2, 3, true⟩ := by decide

/-- The block walks of 03_walks.md: the transposed block ends at 329, the one at row 38 does not fit, the one running upwards
lies in 244..347. -/
theorem test_block_walks :
    (⟨248, 24, 2⟩ : BlockWalk).highest 2 4 5 = 329 ∧ (⟨920, 24, 2⟩ : BlockWalk).fits 2 4 5 960 = false ∧
    (⟨340, 2, -24⟩ : BlockWalk).lowest 2 4 5 = 244 ∧ (⟨340, 2, -24⟩ : BlockWalk).highest 2 4 5 = 347 := by decide

/-- The poll of R100's example: seat 300, WRITE, blink clear. -/
theorem test_poll_bytes : pollBytes 300 ⟨.write, false⟩ = [0x81, 0x2C, 0x04, 0x4E] := by decide

/-- The check of R187 over the ASCII digits 1 to 9. -/
theorem test_crc : crc16 [0x31, 0x32, 0x33, 0x34, 0x35, 0x36, 0x37, 0x38, 0x39] = 0x29B1#16 := by decide +kernel

/-- The MOVE of 11_message_reference.md on the wire, and its refusal by separation. -/
theorem test_move_frame :
    (hostFrame 0x1A 0x31 (requestBody (.move 5 20))).take 9 = [0x7E, 0, 6, 0x1A, 0x31, 0, 5, 0, 0x14] ∧
    (InHand.frame ⟨0x9A, 0x31, 0, .refused .conflict ⟨4, 19⟩⟩).take 10 =
      [0x7E, 0, 7, 0x9A, 0x31, 0, 7, 4, 0, 0x13] := by decide

/-- The classes of "Arithmetic at its limits" (09_marking.md). -/
theorem test_classes :
    classify { fm with margin := 0 } [120, 120, 3, 2] = .multi ∧ classify { fm with tBlank := 0 } [0, 0, 0, 0] = .faint ∧
    classify { fm with tBlank := 0 } [150, 0, 0, 0] = .respE 0 ∧
    numberRead [.resp 0, .resp 0, .resp 0, .resp 0, .resp 0, .resp 0] = none ∧
    numberRead [.resp 3, .resp 1, .respE 0, .resp 0, .resp 0, .resp 4] = some 310004 := by decide

/-- The darkness values and classes of the sheet of 09_marking.md. -/
theorem test_sheet_classes :
    [[4, 174, 6, 3], [72, 5, 160, 4], [150, 141, 3, 2], [3, 6, 0, 4], [88, 10, 7, 5], [5, 4, 190, 2]].map (classify fm) =
      [.resp 1, .respE 2, .multi, .blank, .faint, .resp 2] := by decide

/-- The totals of that sheet, with generation 1 of the key and with the corrected one. -/
theorem test_sheet_totals :
    let rs : List QClass := [.resp 1, .respE 2, .multi, .blank, .faint, .resp 2]
    let f := { fm with paperFloor := 0 }
    scoreSheet f [⟨2, 4, 1, 0⟩, ⟨4, 4, 1, 0⟩, ⟨1, 4, 1, 0⟩, ⟨8, 4, 1, 1⟩, ⟨1, 4, 1, 1⟩, ⟨1, 8, 2, 1⟩] rs 1 45 =
      ⟨7, 5, 7, false, false, true, ⟨2, 1, 1, 1, 1, 0, 1⟩, 1, 45⟩ ∧
    scoreSheet f [⟨2, 4, 1, 0⟩, ⟨4, 4, 1, 0⟩, ⟨1, 4, 1, 0⟩, ⟨0, 4, 1, 1⟩, ⟨1, 4, 1, 1⟩, ⟨4, 8, 2, 1⟩] rs 2 45 =
      ⟨15, 15, 15, false, false, false, ⟨3, 0, 0, 1, 1, 1, 1⟩, 2, 45⟩ := by decide

/-- NEG and CLAMPED at a floor above a negative total ("Arithmetic at its limits"). -/
theorem test_floor : scoreSheet { fm with sectionFloor := false, paperFloor := -8 } [⟨1, 4, 12, 0⟩] [.resp 1] 1 0 =
    ⟨-8, -12, -12, true, false, true, ⟨0, 1, 0, 0, 0, 0, 0⟩, 1, 0⟩ := by decide

/-- The background and darkness of rank 0 in that sheet: samples 18, 21 and 25, 22 give 19 and 4; a sample fainter than the
paper gives 0. -/
theorem test_darkness :
    backgrounds { fm with mask := 1 } [(0, 18), (1, 21)] = [19] ∧
    darkness { fm with mask := 1 } [19] [(2, 25), (3, 22)] 2 = 4 ∧
    darkness { fm with mask := 1, subSamples := 1 } [35] [(2, 30)] 2 = 0 := by decide

/-! ### Witnesses: states and operands that meet the hypotheses of each statement -/

theorem witness_ResetHeldLowStopsCommands :
    ({ State.reset with resetLow := true } : State).resetLow = true ∧ Instr.secondEvent ≠ .resetAsserted ∧
      ∀ a b, Instr.secondEvent ≠ .reset a b := ⟨rfl, by decide, fun _ _ => nofun⟩

theorem witness_RequestBodyRoundTrip :
    (Request.candRead 255 16777215).wellFormed = true ∧ (Request.keyLoad 255 255 [⟨255, 255, 255, 255⟩]).wellFormed = true ∧
    (Request.formatLoad 0 ⟨7, 1, 4, 0, 40, 110, 30, 0, 0, 0, -32768, ⟨65535, 32767, -32768⟩,
      [⟨1, 2, 2, ⟨0, 0, 0⟩⟩]⟩).wellFormed = true := by decide

theorem witness_RequestFrameReceived :
    (Instr.move 255 5 20).request? = some (255, .move 5 20) ∧ 255 < 256 ∧ (Request.move 5 20).wellFormed = true ∧
      State.reset.link.rx = HostRx.reset := by decide

theorem witness_FrameWithoutRequest :
    State.reset.LinkFree ∧ State.reset.link.rx = HostRx.reset ∧ (List.replicate 508 (0 : Byte)).length ≤ 508 ∧
    0x40 ≤ (0x40 : Byte).toNat ∧
    ((0x00 : Byte).toNat < 0x40 ∧ bodyLength (0x00 : Byte).toNat [] = none) ∧
    ((0x01 : Byte).toNat < 0x40 ∧ bodyLength (0x01 : Byte).toNat [7] = some 0 ∧ ([7] : List Byte).length ≠ 0) := by
  decide +kernel

/-- R199: six blocks by the count byte, a FORMAT_LOAD shorter than its fixed part, and a kind the table does not list. -/
theorem test_bodyLength : bodyLength 0x30 (List.replicate 24 0 ++ [6]) = some 79 ∧ bodyLength 0x30 [0] = some 25 ∧
    bodyLength 0x16 [] = none := by decide

theorem witness_BrokenFrameDiscarded :
    State.reset.resetLow = false ∧ State.reset.link.rx = HostRx.reset ∧ ([] : List Byte).length ≤ 508 ∧
    ([0x7E, 0, 2] <+: hostFrame 1 0 [] ∧ ([0x7E, 0, 2] : List Byte) ≠ [] ∧ [0x7E, 0, 2] ≠ hostFrame 1 0 []) ∧
    (1 < 65536 ∧ (1 < 2 ∨ 510 < 1)) ∧ (511 < 65536 ∧ (511 < 2 ∨ 510 < 511)) ∧
    (0 < 65536 ∧ 0 ≠ (crc16 (u16 (0 + 2) ++ [1, 0] ++ [])).toNat) := by decide +kernel

/-- A state with a request in hand. -/
def busy (tx : HostTx) (waiting : Option Frame) : State :=
  { State.reset with link := { State.reset.link with tx := tx, inHand := some ⟨0x81, 0, 0, .ok []⟩, waiting := waiting } }

theorem witness_OneRequestAtATime :
    ((busy (.reply [1]) (some ⟨2, 0, []⟩)).resetLow = false ∧
      (busy (.reply [1]) (some ⟨2, 0, []⟩)).link.tx = .reply [1]) ∧
    ((busy (.notice [1]) none).resetLow = false ∧ (busy (.notice [1]) none).link.tx = .notice [1]) ∧
    ((Instr.identify 3).request? = some (3, .identify) ∧ (busy .idle none).resetLow = false ∧
      (busy .idle none).link.inHand = some ⟨0x81, 0, 0, .ok []⟩) := by decide

/-- A reply with data, a refusal with a detail and one without. -/
theorem witness_OneRequestAtATime_frames :
    (∃ r : InHand, r.answer = .ok [7]) ∧ (∃ r : InHand, r.answer = .refused .conflict ⟨4, 19⟩) ∧
    (∃ r : InHand, r.answer = .refused .length ⟨0, 0⟩) :=
  ⟨⟨⟨0x82, 0, 0, _⟩, rfl⟩, ⟨⟨0x9A, 0x31, 0, _⟩, rfl⟩, ⟨⟨0x82, 0, 0, _⟩, rfl⟩⟩

/-- R197: the layout of a notice's frame, of a CONTROLLER_START of rate code 1 at hall time 0x012345. -/
theorem test_notice_frame : (Notice.frame ⟨0x012345, 0, .controllerStart 3 1⟩).take 12 =
    [0x7E, 0x00, 0x09, 0xC0, 0x00, 0x01, 0x23, 0x45, 0x00, 0x00, 0x03, 0x01] := by decide +kernel

theorem witness_NoticesAndTraces :
    (∃ c, (hallOf six (pp .writing)).cand 0 = some c) ∧ ∃ p, (hallOf six (pp .writing)).paper 0 = some p :=
  ⟨⟨_, rfl⟩, _, rfl⟩

/-- A queue of one second event, on a hall of a WRITING paper. -/
def ticking : State := { hallOf six (pp .writing) with pending := [.secondEvent] }

theorem witness_BoundedKeptByStep : ticking.Bounded ∧ ∃ t, step ticking = .next t :=
  ⟨bounded_of_test _ (by decide +kernel), _, rfl⟩

/-- `State.SeatsAgree` as one test. -/
def agreeTest (s : State) : Bool :=
  s.seats.all (fun e => e.2.occupant.all (fun i => (s.cand i).any (fun c => c.seat == some e.1)) &&
    (e.2.state != .disabled || e.2.occupant.isNone)) &&
  s.cands.all (fun e => e.2.seat.all (fun n => (s.seat n).any (fun x => x.occupant == some e.1)) &&
    ((e.2.state == .unseated) == e.2.seat.isNone))

theorem agree_of_test (s : State) (h : agreeTest s = true) : s.SeatsAgree := by
  simp only [agreeTest, Bool.and_eq_true, List.all_eq_true] at h
  constructor
  · intro n x i hx ho
    have := (h.1 _ (Table.get_mem hx)).1
    simp only [ho, Option.all_some, Option.any_eq_true, beq_iff_eq] at this
    exact this
  · intro i c n hc hn
    have := (h.2 _ (Table.get_mem hc)).1
    simp only [hn, Option.all_some, Option.any_eq_true, beq_iff_eq] at this
    exact this
  · intro i c hc
    have := (h.2 _ (Table.get_mem hc)).2
    rw [beq_iff_eq, Bool.eq_iff_iff, beq_iff_eq, Option.isNone_iff_eq_none] at this
    exact this
  · intro n x hx hd
    have := (h.1 _ (Table.get_mem hx)).2
    simpa [hd] using this

theorem witness_SeatsAgreeKeptByStep : ticking.SeatsAgree ∧ ∃ t, step ticking = .next t :=
  ⟨agree_of_test _ (by decide +kernel), _, rfl⟩

theorem witness_InvariantsHoldAtReset : 3 < 4 := by decide

/-- `State.Filed` as one test. -/
def filedTest (s : State) : Bool :=
  decide (s.reader.queued.countP TxMsg.isFeed ≤ 1 ∧ s.reader.queued.countP TxMsg.isGeometry ≤ 1 ∧
    s.reader.queued.countP TxMsg.isUnrecorded ≤ 9 ∧ (s.reader.tx.filterMap TxMsg.entry?).Nodup ∧
    (s.collection.map CollEntry.index).Nodup) &&
  s.reader.tx.all (fun m => m.entry?.all (fun e => (s.sheet e).any (fun x => decide (x.state = .decided)))) &&
  (s.reader.bound.isSome || s.reader.records.isEmpty) &&
  s.collection.all (fun e => (s.cand e.index).any (fun c =>
    decide (c.state = .collected ∨ c.state = .markPending ∨ c.state = .marked)))

theorem filed_of_test (s : State) (h : filedTest s = true) : s.Filed := by
  simp only [filedTest, Bool.and_eq_true, decide_eq_true_eq, List.all_eq_true] at h
  obtain ⟨⟨⟨⟨h1, h2, h3, h4, h5⟩, h6⟩, h7⟩, h8⟩ := h
  refine ⟨h1, h2, h3, h4, fun m hm e he => ?_, fun hb => ?_, h5, fun e he => ?_⟩
  · have := h6 m hm
    simpa [he, Option.any_eq_true] using this
  · simpa [hb] using h7
  · simpa only [Option.any_eq_true, decide_eq_true_eq] using h8 e he

/-- The state after paper 0 is bound, with a sheet decided and its DIVERT waiting behind a FEED that is being sent, and candidate 4
on the Collection List. -/
def filed : State :=
  { bound (sr .decided none) with
    reader := { rd (sr .decided none) with tx := [.feed true, .divert ⟨9, .accept, some 0, none⟩] }
    collection := [⟨4, 105, 0, some 4, 0, ⟨false, false, false, false, false, false⟩⟩]
    pending := [.secondEvent] }

theorem witness_QueueAndListKeptByStep :
    ∀ s ∈ [ticking, filed], s.Bounded ∧ s.Filed ∧ ∃ t, step s = .next t := by
  intro s hs
  simp only [List.mem_cons, List.not_mem_nil, or_false] at hs
  obtain rfl | rfl := hs <;>
    exact ⟨bounded_of_test _ (by decide +kernel), filed_of_test _ (by decide +kernel), _, rfl⟩

/-- The hall of the six candidates, held. -/
def held (limit elapsed : Nat) : State :=
  { hallOf six (pp .writing) with
    hall := { (hallOf six (pp .writing)).hall with holdLimit := limit }, hold := some .request, holdElapsed := elapsed }

theorem witness_HeldSecondEventCountsTheHold :
    (held 0 7200).resetLow = false ∧ (held 0 7200).hold = some .request ∧
      ((held 0 7200).hall.holdLimit = 0 ∨ min ((held 0 7200).holdElapsed + 1) 7200 < (held 0 7200).hall.holdLimit) ∧
    ((held 5 3).hall.holdLimit = 0 ∨ min ((held 5 3).holdElapsed + 1) 7200 < (held 5 3).hall.holdLimit) := by
  decide +kernel

/-- A hall with an away limit of 1 and one candidate away from its desk. -/
def awayHall : State :=
  { hallOf [{ cd .resting (some 0) with restUsed := 0, flags := { CandFlags.clear with away := true } }] (pp .writing) with
    hall := { Hall.reset with rows := 2, cols := 4, awayLimit := 1 } }

/-- Candidate 0 writes and reaches its limit, candidate 1 rests and reaches its budget, candidates 3 and 4 are done. -/
theorem witness_SecondEventCountsCandidates :
    ticking.Running ∧ ticking.Bounded ∧
    (∃ c p, ticking.cand 0 = some c ∧ c.state = .writing ∧ ticking.paper c.paper = some p ∧ p.state = .writing ∧
      c.limit ≤ c.used + 1) ∧
    (∃ c, ticking.cand 1 = some c ∧ c.state = .resting ∧ c.restBudget ≤ c.restUsed + 1) ∧
    (∃ c, ticking.cand 3 = some c ∧ c.state = .finished) :=
  ⟨by decide +kernel, bounded_of_test _ (by decide +kernel), ⟨_, _, rfl, rfl, rfl, rfl, by decide⟩, ⟨_, rfl, rfl, by decide⟩,
    _, rfl, rfl⟩

/-- A READING candidate in the last second of its paper's reading time and in the last but one, and an AWAY candidate. -/
theorem witness_SecondEventCountsCandidates_reading :
    (∀ left ∈ [1, 2], ∃ s, s = hallOf [cd .reading (some 0)] { pp .reading with readingLeft := left } ∧ s.Running ∧
      boundedTest s = true ∧ ∃ c ∈ s.cand 0, c.state = .reading ∧ ∃ p ∈ s.paper c.paper, p.state = .reading ∧
        p.readingLeft = left) ∧
    (awayHall.Running ∧ boundedTest awayHall = true ∧ ∃ c ∈ awayHall.cand 0, c.flags.away = true ∧ c.state ≠ .writing) := by
  refine ⟨fun left hl => ?_, by decide +kernel⟩
  simp only [List.mem_cons, List.not_mem_nil, or_false] at hl
  obtain rfl | rfl := hl <;> exact ⟨_, rfl, by decide +kernel⟩

/-- One paper each in the states of the ordinary second: READING with 2 s left, WRITING one second before the last, EXTENDED,
CLOSED and ABANDONED; with a target one second before its last, without a timeout, and without a target. -/
theorem witness_SecondEventCountsCandidates_papers :
    (∀ p ∈ [{ pp .reading with readingLeft := 2 }, { pp .writing with elapsed := 58 }, pp .extended, pp .closed,
        pp .abandoned],
      (hallOf six p).Running ∧ boundedTest (hallOf six p) = true ∧ (hallOf six p).paper 0 = some p ∧
        p.coll.target = none ∧ ¬ (p.state = .writing ∧ p.defn.writing ≤ p.elapsed + 1)) ∧
    (∀ timeout ∈ [0, 2, 600], ∃ s ∈ [hallOf six { pp .closed with
        defn := { df with collectTimeout := timeout }
        coll := { Collecting.new df with state := .walking, target := some 3, timer := timeout - 2 } }],
      s.Running ∧ boundedTest s = true ∧ ∃ p ∈ s.paper 0, p.coll.target ≠ none ∧
        (p.defn.collectTimeout = 0 ∨ p.coll.timer + 1 < p.defn.collectTimeout)) := by decide +kernel

/-- An EXTENDED paper whose last candidate has one second left, with a SEATED candidate and one already FINISHED. -/
def lastSecond : State := hallOf [cd .writing (some 0), cd .seated (some 1), cd .finished (some 2)] (pp .extended)

/-- An EXTENDED paper that the second event closes, one of which a RESTING candidate stays, one of which a WRITING candidate has
two seconds left, and one without an active candidate. -/
theorem witness_SecondEventCountsCandidates_extended :
    ∀ e ∈ [(lastSecond, true, true), (hallOf six (pp .extended), false, true),
        (hallOf [{ cd .writing (some 0) with used := 58 }, cd .seated (some 1)] (pp .extended), false, false),
        (hallOf [cd .seated (some 0), cd .finished (some 1)] (pp .extended), true, false)],
      e.1.Running ∧ boundedTest e.1 = true ∧ (∃ p ∈ e.1.paper 0, p.state = .extended) ∧ e.2.1 = decide (e.1.goingOn 0 = 0) ∧
        e.2.2 = decide (e.1.countCands 0 (fun c => c.state == .writing && c.limit ≤ c.used + 1) ≠ 0) := by
  decide +kernel

/-- A READING paper at its last second, and a PLANNED one whose start is due. -/
theorem witness_ReadingEndsAndScheduledStarts :
    (∀ s ∈ [hallOf [cd .reading (some 0)] { pp .reading with readingLeft := 1 },
        hallOf [cd .seated (some 0)] { pp .planned with defn := { df with start := some 1 } }],
      s.Running ∧ s.Bounded) ∧
    (({ pp .reading with readingLeft := 1 } : Paper).state = .reading ∧
      ({ pp .reading with readingLeft := 1 } : Paper).readingLeft ≤ 1) ∧
    (∃ p, (hallOf [cd .seated (some 0)] { pp .planned with defn := { df with start := some 1 } }).paper 0 = some p ∧
      p.state = .planned ∧ p.defn.start = some 1 ∧ 1 ≤ min (0 + 1) 16777215 ∧
      ∀ j, (hallOf [cd .seated (some 0)] { pp .planned with defn := { df with start := some 1 } }).job = some j →
        j.paper ≠ 0) := by
  refine ⟨?_, by decide, _, rfl, rfl, rfl, by decide, fun j h => nomatch h⟩
  intro s hs
  simp only [List.mem_cons, List.not_mem_nil, or_false] at hs
  obtain rfl | rfl := hs <;> exact ⟨by decide +kernel, bounded_of_test _ (by decide +kernel)⟩

/-- A WRITING paper whose late entry closes at its base end, with a SEATED candidate. -/
def bothEnds : State :=
  hallOf [cd .seated (some 0)] { pp .writing with elapsed := 59, defn := { df with lateCutoff := 59 } }

/-- A WRITING paper one second before its late entry closes, one second before its base end, with candidates who go on and with
none, and one second before both. -/
theorem witness_LateEntryClosesAndBaseEnds :
    ∀ s ∈ [hallOf [cd .seated (some 0)] { pp .writing with elapsed := 30 },
        hallOf [{ cd .writing (some 0) with used := 10 }, cd .seated (some 1)] { pp .writing with elapsed := 59 },
        hallOf [cd .seated (some 0)] { pp .writing with elapsed := 59 }, bothEnds],
      s.Running ∧ s.Bounded ∧ ∃ p, s.paper 0 = some p ∧ p.state = .writing ∧
        (p.elapsed = p.defn.lateCutoff ∧ p.defn.lateCutoff < p.defn.writing ∨ p.defn.writing ≤ p.elapsed + 1) := by
  intro s hs
  simp only [List.mem_cons, List.not_mem_nil, or_false] at hs
  obtain rfl | rfl | rfl | rfl := hs <;>
    exact ⟨by decide +kernel, bounded_of_test _ (by decide +kernel), _, rfl, rfl, by decide⟩

/-- Candidate 0 reaches its limit, candidate 1 its rest budget, and a RESTING candidate's absence reaches the away limit. -/
theorem witness_LimitRestAndAwayReached :
    (hallOf six (pp .extended)).Running ∧ (hallOf six (pp .extended)).Bounded ∧
    (∃ c p, (hallOf six (pp .extended)).cand 0 = some c ∧ c.state = .writing ∧
      (hallOf six (pp .extended)).paper c.paper = some p ∧ p.state = .extended ∧ c.limit ≤ c.used + 1) ∧
    (∃ c, (hallOf six (pp .extended)).cand 1 = some c ∧ c.state = .resting ∧ c.restBudget ≤ c.restUsed + 1) :=
  ⟨by decide +kernel, bounded_of_test _ (by decide +kernel), ⟨_, _, rfl, rfl, rfl, rfl, by decide⟩, _, rfl, rfl, by decide⟩

/-- The last candidate of an EXTENDED paper reaches its limit, where none stays; in `witness_LimitRestAndAwayReached` one rests. -/
theorem witness_LimitRestAndAwayReached_last :
    lastSecond.Running ∧ lastSecond.Bounded ∧ (∃ c p, lastSecond.cand 0 = some c ∧ c.state = .writing ∧
      lastSecond.paper c.paper = some p ∧ p.state = .extended ∧ c.limit ≤ c.used + 1) ∧
    lastSecond.goingOn 0 = 0 ∧ (hallOf six (pp .extended)).goingOn 0 ≠ 0 :=
  ⟨by decide +kernel, bounded_of_test _ (by decide +kernel), ⟨_, _, rfl, rfl, rfl, rfl, by decide⟩, by decide +kernel⟩

theorem witness_LimitRestAndAwayReached_away :
    awayHall.Running ∧ awayHall.Bounded ∧ ∃ c p, awayHall.cand 0 = some c ∧ c.flags.away = true ∧ c.awayReported = false ∧
      0 < awayHall.hall.awayLimit ∧ awayHall.hall.awayLimit ≤ min (c.awayCount + 1) 1800 ∧
      awayHall.paper c.paper = some p ∧ c.state ≠ .writing :=
  ⟨by decide +kernel, bounded_of_test _ (by decide +kernel), _, _, rfl, rfl, rfl, by decide, by decide, rfl, by decide⟩

theorem witness_HoldExpiryAbandonsRunningPapers :
    (held 5 4).resetLow = false ∧ (held 5 4).Bounded ∧ (held 5 4).hold = some .request ∧ 0 < (held 5 4).hall.holdLimit ∧
      (held 5 4).hall.holdLimit ≤ min ((held 5 4).holdElapsed + 1) 7200 ∧
      ∃ p, (held 5 4).paper 0 = some p ∧ p.state = .writing :=
  ⟨rfl, bounded_of_test _ (by decide +kernel), rfl, by decide, by decide, _, rfl, rfl⟩

/-- A collection whose walk waits at seat 3 for FINISHED candidate 3, one second before the timeout. -/
def waitingAt3 : State :=
  hallOf six { pp .closed with coll := { Collecting.new df with state := .walking, target := some 3, timer := 1 } }

theorem witness_CollectTimeoutPassesTheTarget :
    waitingAt3.Running ∧ waitingAt3.Bounded ∧ ∃ p x c, waitingAt3.paper 0 = some p ∧ p.state ≠ .writing ∧
      p.coll.target = some 3 ∧ p.defn.collectTimeout ≠ 0 ∧ p.defn.collectTimeout ≤ p.coll.timer + 1 ∧
      waitingAt3.seat 3 = some x ∧ x.occupant = some 3 ∧ waitingAt3.cand 3 = some c ∧ c.state = .finished :=
  ⟨by decide +kernel, bounded_of_test _ (by decide +kernel), _, _, _, rfl, by decide, rfl, by decide, by decide, rfl, rfl, rfl,
    rfl⟩

theorem witness_HoldLineAndResume :
    (State.reset.resetLow = false ∧ State.reset.holdLine = false ∧ State.reset.hold = none) ∧
    ((held 0 9).resetLow = false ∧ ((held 0 9).holdLine = true ∨ (held 0 9).hold ≠ none)) ∧
    (State.reset.LinkFree ∧ State.reset.hold = none) ∧
    ({ held 0 9 with holdLine := true }.LinkFree ∧ { held 0 9 with holdLine := true }.hold = some .request) ∧
    ((held 0 9).LinkFree ∧ (held 0 9).hold = some .request ∧ (held 0 9).holdLine = false) ∧
    (held 0 9).Bounded ∧ ∀ slot p, (held 0 9).paper slot = some p → p.state = .planned → p.defn.start = none :=
  ⟨by decide +kernel, by decide +kernel, by decide +kernel, by decide +kernel, by decide +kernel,
    bounded_of_test _ (by decide +kernel), paper_all (by decide +kernel)⟩

theorem witness_HoldRaisedByRequest :
    (State.reset.LinkFree ∧ State.reset.hold = none) ∧ ((held 0 9).LinkFree ∧ (held 0 9).hold = some .request) := by
  decide +kernel

theorem witness_IdentifyNamesThePart : State.reset.LinkFree := by decide

theorem witness_StatusAndTimeSet : (hallOf six (pp .writing)).LinkFree ∧ 16777215 ≤ 16777215 ∧ ¬ 16777216 ≤ 16777215 := by
  decide +kernel

/-- One state for each line of SESSION_CLEAR's checks. -/
theorem witness_SessionClearEmptiesTheSitting :
    (hallOf six (pp .writing)).LinkFree ∧ (held 0 0).LinkFree ∧ (bound (sr .stored (some 0))).LinkFree ∧
      (hallOf six (pp .closed)).LinkFree ∧ (hallOf six (pp .closed)).papers.any (fun e => e.2.state.running) = false := by
  decide +kernel

theorem witness_PapersAndCandidatesAreReported :
    (hallOf six (pp .writing)).LinkFree ∧ (hallOf six (pp .writing)).Bounded ∧
    8 ≤ 8 ∧ (7 < 8 ∧ (hallOf six (pp .writing)).paper 7 = none) ∧
    (∃ p, 0 < 8 ∧ (hallOf six (pp .writing)).paper 0 = some p ∧ p.defn.code.length = 8) ∧
    (512 < 65536 ∧ 512 ≤ 512) ∧ 999999 < 1000000 ∧ (511 < 512 ∧ (hallOf six (pp .writing)).cand 511 = none) ∧
    (1 ≤ 999999 ∧ ∀ j c, (hallOf six (pp .writing)).cand j = some c → c.number ≠ 999999) ∧
    (∃ c, (hallOf six (pp .writing)).cand 0 = some c ∧ c.number = 101) ∧
    ∀ j d, (hallOf six (pp .writing)).cand j = some d → d.number = 101 → j = 0 :=
  ⟨by decide +kernel, bounded_of_test _ (by decide +kernel), by decide, by decide +kernel, ⟨_, by decide, rfl, rfl⟩,
    by decide, by decide, by decide +kernel, ⟨by decide, cand_all (by decide +kernel)⟩, ⟨_, rfl, rfl⟩,
    cand_all (by decide +kernel)⟩

/-- The result of candidate 0 in `markedHall`. -/
def res : MarkResult := scoreSheet fm [⟨1, 4, 1, 0⟩, ⟨2, 4, 1, 0⟩] [.resp 0, .blank] 1 9

/-- A hall whose candidate 0 is MARKED. -/
def markedHall (m : MarkState) : State :=
  { hallOf [{ cd .marked (some 0) with result := some res }, cd .finished (some 1)] (mp m) with
    responses := [(0, [.resp 0, .blank])] }

theorem witness_ResultsAndResponsesAreReported :
    (markedHall .ready).LinkFree ∧ 512 ≤ 512 ∧ (511 < 512 ∧ (markedHall .ready).cand 511 = none) ∧
    (∃ c, (markedHall .ready).cand 1 = some c ∧ c.state ≠ .marked) ∧
    (∃ c p, (markedHall .ready).cand 0 = some c ∧ c.state = .marked ∧ c.result = some res ∧
      (markedHall .ready).paper c.paper = some p) ∧
    Table.get (markedHall .ready).responses 0 = some [.resp 0, .blank] :=
  ⟨by decide +kernel, by decide, by decide +kernel, ⟨_, rfl, by decide⟩, ⟨_, _, rfl, rfl, rfl, rfl⟩, rfl⟩

theorem witness_SeatAndCollectionReads :
    (hallOf six (pp .writing)).LinkFree ∧ (hallOf six (pp .writing)).Bounded ∧ 511 < 512 ∧ (3 ≤ 3 ∨ 3 = 0xFF) ∧
    (0xFF ≤ 3 ∨ 0xFF = 0xFF) ∧
    (∃ x, (hallOf six (pp .writing)).seat 7 = some x ∧ x.row = 1 ∧ x.col = 3 ∧ x.row < 2 ∧ x.col < 4 ∧ x.row ≤ 31 ∧
      x.col ≤ 31) ∧
    (∀ k y, (hallOf six (pp .writing)).seat k = some y → y.row = 1 → y.col = 3 → k = 7) ∧
    (31 ≤ 31 ∧ (hallOf six (pp .writing)).hall.rows ≤ 31) ∧
    ((∀ e ∈ ({ hallOf six (pp .writing) with seats := [] } : State).seats, e.2.row ≠ 0 ∨ e.2.col ≠ 0) ∧
      ({ hallOf six (pp .writing) with seats := [] } : State).LinkFree) ∧
    (0 < 8 ∧ (hallOf six (pp .writing)).paper 0 ≠ none) :=
  ⟨by decide +kernel, bounded_of_test _ (by decide +kernel), by decide, by decide, by decide,
    ⟨_, rfl, rfl, rfl, by decide, by decide, by decide, by decide⟩, seat_all (by decide +kernel), by decide +kernel,
    by decide +kernel, by decide +kernel⟩

theorem witness_FormatAndKeyReads :
    (∃ p, (hallOf six (pp .writing)).LinkFree ∧ (hallOf six (pp .writing)).paper 0 = some p ∧ p.format = none) ∧
    (∃ p, (markedHall .ready).paper 0 = some p ∧ p.format = some fm) ∧
    (1 ≤ 1 ∧ 1 ≤ 200 ∧ 1 ≤ 2 ∧ 2 ≤ 50 ∧ 1 + 2 - 1 ≤ fm.questions) ∧
    (200 ≤ 200 ∧ 1 ≤ 50 ∧ 50 ≤ 50 ∧ ¬ 200 + 50 - 1 ≤ fm.questions) :=
  ⟨⟨_, by decide +kernel, rfl, rfl⟩, ⟨_, rfl, rfl⟩, by decide, by decide⟩

/-- Slots, indices and seat numbers at the ends of their ranges, and beside them an UNDEFINED slot and a free record, which the
checks of PAPER_START, PAPER_ABANDON, COLLECT_CLOSE, FORMAT_READ, ADMIT, FINISH, COLLECT_MARK, CAND_REMOVE, MOVE, UNSEAT and
SEAT_STATE turn down. -/
theorem witness_refused_slot_and_index :
    ∃ s, s = hallOf six (pp .writing) ∧ s.LinkFree ∧ s.job = none ∧ 8 ≤ 8 ∧ (7 < 8 ∧ s.paper 7 = none) ∧ 512 ≤ 512 ∧
      (511 < 512 ∧ s.cand 511 = none ∧ s.seat 511 = none) := ⟨_, rfl, by decide +kernel⟩

/-- A mode, a selector, a seat number, a row and a column just out of range; a selector and a start position of COLLECTION_READ. -/
theorem witness_SeatAndCollectionReads_refused :
    ∃ s, s = hallOf six (pp .writing) ∧ s.LinkFree ∧ (3 < 4 ∧ 4 ≠ 0xFF) ∧ 1 < 2 ∧ 512 ≤ 512 ∧ 31 < 0x2000 / 256 ∧
      31 < 0x0020 % 256 ∧ (8 ≤ 8 ∧ 8 ≠ 0xFF) ∧ (7 < 8 ∧ 511 < 512 ∧ s.paper 7 = none) := ⟨_, rfl, by decide +kernel⟩

/-- A KEY_READ for an UNDEFINED slot and for a paper without a format, at the ends of its ranges. -/
theorem witness_FormatAndKeyReads_refused :
    ∃ s, s = hallOf six (pp .writing) ∧ s.LinkFree ∧ (1 ≤ 200 ∧ 200 ≤ 200 ∧ 1 ≤ 50 ∧ 50 ≤ 50) ∧ s.paper 7 = none ∧
      ∃ p ∈ s.paper 0, p.format = none := ⟨_, rfl, by decide +kernel⟩

/-- A closed hall with a stored walk that starts at its last position. -/
def walkHall : State :=
  hallOf six { pp .closed with defn := { df with walk := some ⟨1, 3, ⟨0, -1⟩, ⟨-1, 0⟩, ⟨0, 0⟩, 4, 2, 1, true⟩ } }

theorem witness_HallConfigReplacesTheSettings :
    walkHall.LinkFree ∧
    (1 ≤ 2 ∧ 2 ≤ 32 ∧ 1 ≤ 4 ∧ 4 ≤ 32 ∧ 1 ≤ 1 ∧ 0 ≤ 1 ∧ 1 ≤ 255) ∧ walkHall.job = none ∧
    (∀ e ∈ walkHall.papers, ¬ (e.2.state = .reading ∨ e.2.state = .writing ∨ e.2.state = .extended)) ∧
    (∀ e ∈ walkHall.seats, e.2.row < 2 ∧ e.2.col < 4) ∧
    ∀ e ∈ walkHall.papers, ∀ w, e.2.defn.walk = some w → w.startRow < 2 ∧ w.startCol < 4 := by
  refine ⟨by decide +kernel, by decide, rfl, by decide +kernel, by decide +kernel, ?_⟩
  intro e he w hw
  obtain rfl : e = _ := List.mem_singleton.1 he
  obtain rfl := Option.some.inj hw
  decide

/-- A HALL_CONFIG in range that a running paper, a seat in the last row and a walk that starts in the last column turn down. -/
theorem witness_HallConfigReplacesTheSettings_refused :
    (1 ≤ 1 ∧ 1 ≤ 32 ∧ 33 > 32) ∧ ((hallOf six (pp .writing)).LinkFree ∧ (hallOf six (pp .writing)).job = none ∧
      ∃ e ∈ (hallOf six (pp .writing)).papers, e.2.state = .writing) ∧
    (∃ e ∈ walkHall.seats, 1 ≤ e.2.row) ∧
    (∃ e ∈ ({ walkHall with seats := [] } : State).papers, ∃ w ∈ e.2.defn.walk, 3 ≤ w.startCol) := by decide +kernel

/-- A hall of three rows whose back row has no seat. -/
def threeRows : State :=
  { hallOf six (pp .planned) with hall := { Hall.reset with rows := 3, cols := 4 } }

theorem witness_SeatsAreDefinedAndRemoved :
    threeRows.LinkFree ∧ 8 < 512 ∧ threeRows.job = none ∧
    (2 < threeRows.hall.rows ∧ 3 < threeRows.hall.cols ∧ 1 ≤ 1 ∧
      (∀ e ∈ threeRows.seats, e.1 = 8 ∨ e.2.row ≠ 2 ∨ e.2.col ≠ 3) ∧ threeRows.seat 8 = none) ∧
    ((∀ e ∈ threeRows.seats, e.1 = 7 ∨ e.2.row ≠ 1 ∨ e.2.col ≠ 3) ∧
      ∃ x, threeRows.seat 7 = some x ∧ x.occupant = none) ∧
    (boundedTest threeRows = true ∧ ∃ x ∈ threeRows.seat 0, x.occupant = some 0 ∧ x.row = 0 ∧ x.col = 0 ∧ x.cls = .standard ∧
      (∀ e ∈ threeRows.seats, e.1 = 0 ∨ e.2.row ≠ 0 ∨ e.2.col ≠ 0) ∧
      ∀ e ∈ threeRows.seats, e.1 = 0 ∨ e.2.row ≠ 2 ∨ e.2.col ≠ 3) :=
  ⟨by decide +kernel, by decide, rfl, by decide +kernel, ⟨by decide +kernel, _, rfl, rfl⟩, by decide +kernel⟩

/-- A row just outside the grid, and a position that another seat has. -/
theorem witness_SeatsAreDefinedAndRemoved_refused :
    threeRows.LinkFree ∧ threeRows.job = none ∧ 512 ≤ 512 ∧ 1 < 2 ∧ threeRows.hall.rows ≤ 3 ∧ threeRows.hall.cols ≤ 4 ∧
    (8 < 512 ∧ 1 < threeRows.hall.rows ∧ 3 < threeRows.hall.cols ∧
      ∃ e ∈ threeRows.seats, e.1 ≠ 8 ∧ e.2.row = 1 ∧ e.2.col = 3) := by decide +kernel

/-- Seats 0 to 2 of the hall as ENABLED, DISABLED and FAULTY. -/
def threeStates : State :=
  { hallOf [] (pp .planned) with
    seats := [(0, ⟨0, 0, .standard, .enabled, none, none⟩), (1, ⟨0, 1, .access, .disabled, none, none⟩),
      (2, ⟨0, 2, .standard, .faulty, none, some .noReply⟩)] }

theorem witness_SeatStateFollowsItsTable :
    threeStates.LinkFree ∧ threeStates.job = none ∧ (∃ x, threeStates.seat 0 = some x ∧ x.state = .enabled) ∧
    (∃ x, threeStates.seat 1 = some x ∧ x.state = .disabled) ∧ (∃ x, threeStates.seat 2 = some x ∧ x.state = .faulty) ∧
    (511 < 512 ∧ threeStates.seat 511 = none) :=
  ⟨by decide +kernel, rfl, ⟨_, rfl, rfl⟩, ⟨_, rfl, rfl⟩, ⟨_, rfl, rfl⟩, by decide, rfl⟩

theorem witness_TargetTestFollowsItsTable :
    threeStates.Bounded ∧ (∃ x, threeStates.seat 2 = some x ∧ x.state ≠ .enabled) ∧
    (∃ x, threeStates.seat 0 = some x ∧ x.state = .enabled ∧ x.occupant = none ∧ x.cls = .standard) ∧
    (hallOf six (pp .planned)).Bounded ∧
    (∃ x, (hallOf six (pp .planned)).seat 0 = some x ∧ x.state = .enabled ∧ x.occupant = some 0) ∧
    (∃ x y, (hallOf six (pp .planned)).seat 5 = some x ∧ x.state = .enabled ∧ x.occupant = none ∧
      (hallOf six (pp .planned)).seat 1 = some y ∧ y.occupant = some 1 ∧ x.col = y.col ∧ x.row = y.row + 1 ∧
      ∃ c ∈ (hallOf six (pp .planned)).cand 1, c.paper = 0) :=
  ⟨bounded_of_test _ (by decide +kernel), ⟨_, rfl, by decide⟩, ⟨_, rfl, rfl, rfl, rfl⟩,
    bounded_of_test _ (by decide +kernel), ⟨_, rfl, rfl, rfl⟩, _, _, rfl, rfl, rfl, rfl, rfl, rfl, rfl, by decide +kernel⟩

/-- A definition in range, with every clamped value above its bound, and a walk from the last position. -/
def pargs (walkPresent : Nat) : PaperArgs :=
  ⟨List.replicate 8 0x42, 65535, 28800, 65535, 65535, 65535, 65535, 65535, 3, 65535, 1, 16777215, walkPresent,
    ⟨1, 3, 0, -1, -1, 0, 0, 0, 4, 2, 1, 1⟩⟩

theorem witness_PaperDefineTakesTheDefinition :
    (hallOf [cd .unseated none] (pp .planned)).LinkFree ∧ 7 < 8 ∧ 60 ≤ (pargs 1).writing ∧ (pargs 1).writing ≤ 28800 ∧
    (pargs 1).separation ≤ 3 ∧ (∀ b ∈ (pargs 1).code, 0x20 ≤ b.toNat ∧ b.toNat ≤ 0x7E) ∧ (pargs 1).startPresent ≤ 1 ∧
    (pargs 1).start ≤ 16777215 ∧ (pargs 0).walkPresent = 0 ∧
    ((pargs 1).walkPresent = 1 ∧ seatWalkValid (pargs 1).walk (hallOf [cd .unseated none] (pp .planned)).hall = true) ∧
    (∀ j, (hallOf [cd .unseated none] (pp .planned)).job = some j → j.paper ≠ 7) ∧
    (∀ e ∈ (hallOf [cd .unseated none] (pp .planned)).papers, e.1 = 7 ∨ e.2.defn.code ≠ (pargs 1).code) ∧
    (hallOf [cd .unseated none] (pp .planned)).paper 7 = none ∧
    (∃ p, (hallOf [cd .unseated none] (pp .planned)).paper 0 = some p ∧ p.state = .planned) ∧
    (∀ e ∈ (hallOf [cd .unseated none] (pp .planned)).cands, e.2.paper = 0 → e.2.seat = none) :=
  ⟨by decide +kernel, by decide, by decide, by decide, by decide, by decide, by decide, by decide, rfl, by decide +kernel,
    (fun _ h => nomatch h), by decide +kernel, rfl, ⟨_, rfl, rfl⟩, by decide +kernel⟩

/-- The grid that a PAPER_DEFINE below is checked against is 2 x 4: walks that start at its last position and just outside it. -/
theorem witness_PaperDefineTakesTheDefinition_refused :
    ∃ s, s = hallOf [cd .seated (some 0)] (pp .planned) ∧ s.LinkFree ∧ s.hall.rows = 2 ∧ s.hall.cols = 4 ∧ 8 ≤ 8 ∧
      (pargs 1).walkPresent = 1 ∧ seatWalkValid (pargs 1).walk s.hall = true ∧
      seatWalkValid { (pargs 1).walk with startRow := 2 } s.hall = false ∧
      seatWalkValid { (pargs 1).walk with countL := 64, countM := 64, countH := 1 } s.hall = true ∧
      seatWalkValid { (pargs 1).walk with countL := 64, countM := 64, countH := 2 } s.hall = false ∧
      seatWalkValid { (pargs 1).walk with o2Row := -31 } s.hall = true ∧
      seatWalkValid { (pargs 1).walk with o2Row := -32 } s.hall = false ∧
      (∀ j, s.job = some j → j.paper ≠ 7) ∧
      (∃ e ∈ s.papers, e.1 ≠ 7 ∧ e.2.defn.code = ({ pargs 1 with code := df.code } : PaperArgs).code) ∧
      (∃ p ∈ s.paper 0, p.state = .planned) ∧ (∃ e ∈ s.cands, e.2.paper = 0 ∧ e.2.seat ≠ none) :=
  ⟨_, rfl, by decide +kernel, rfl, rfl, by decide, rfl, by decide +kernel, by decide +kernel, by decide +kernel,
    by decide +kernel, by decide +kernel, by decide +kernel, (fun _ h => nomatch h), by decide +kernel, by decide +kernel,
    by decide +kernel⟩

theorem witness_CandAddTakesTheLowestIndex :
    ∀ p ∈ [pp .planned, { pp .writing with elapsed := 30 }],
      (hallOf [cd .seated (some 0)] p).LinkFree ∧ (hallOf [cd .seated (some 0)] p).job = none ∧ 999999 ≤ 999999 ∧ 0 < 8 ∧
      100 ≤ 100 ∧ (hallOf [cd .seated (some 0)] p).paper 0 = some p ∧
      (∀ e ∈ (hallOf [cd .seated (some 0)] p).cands, e.2.number ≠ 999999) ∧
      (hallOf [cd .seated (some 0)] p).cand 1 = none ∧
      (∀ j, j < 1 → (hallOf [cd .seated (some 0)] p).cand j ≠ none) ∧
      (p.state = .planned ∨ p.state = .reading ∨ (p.state = .writing ∨ p.state = .extended) ∧
        p.elapsed ≤ p.defn.lateCutoff) ∧
      (hallOf [cd .seated (some 0)] p).targetFailure 7 0 p.defn.separation false none = none := by decide +kernel

/-- Every index in use. -/
def fullTable : State :=
  { hallOf six (pp .planned) with cands := (List.range 512).map (fun i => (i, { cd .unseated none with number := 1000 + i })) }

/-- Each check of R8 turned down: a number in use; all records in use; a CLOSED paper, a READING one without a seat and a WRITING
one past its cutoff; a seat that is taken and one that is not defined. -/
theorem witness_CandAddTakesTheLowestIndex_refused :
    (∃ s, s = hallOf six (pp .planned) ∧ s.LinkFree ∧ s.job = none ∧ s.paper 7 = none ∧
      (∃ e ∈ s.cands, e.2.number = 101) ∧ (∀ e ∈ s.cands, e.2.number ≠ 999999) ∧ s.cand 6 = none ∧
      s.targetFailure 0 0 .grid false none = some (.conflict, ⟨2, 0⟩) ∧ s.seat 511 = none) ∧
    ¬ 0 ≥ 1 ∧ ¬ 1000000 ≤ 999999 ∧ ¬ 101 ≤ 100 ∧ ¬ (512 < 512 ∨ 512 = 0xFFFF) ∧
    ((pp .closed).state ≠ .planned ∧ (pp .closed).state ≠ .reading) ∧ ((pp .reading).state ≠ .planned ∧ ¬ 0xFFFF < 512) ∧
    ¬ ({ pp .writing with elapsed := 31 } : Paper).elapsed ≤ df.lateCutoff := by
  exact ⟨⟨_, rfl, by decide +kernel⟩, by decide⟩

theorem full_get : ∀ (n k i : Nat), k ≤ i → i < k + n →
    Table.get ((List.range' k n).map (fun i => (i, ({ cd .unseated none with number := 1000 + i } : Cand)))) i ≠ none
  | 0, _, _, _, _ => by omega
  | n + 1, k, i, h1, h2 => by
    rw [List.range'_succ, List.map_cons]
    by_cases h : k = i
    · simp [Table.get, h]
    · simpa [Table.get, h] using full_get n (k + 1) i (by omega) (by omega)

theorem witness_CandAddTakesTheLowestIndex_full :
    fullTable.LinkFree ∧ fullTable.job = none ∧ fullTable.paper 0 = some (pp .planned) ∧
    (∀ e ∈ fullTable.cands, e.2.number ≠ 999) ∧ ∀ i, i < 512 → fullTable.cand i ≠ none := by
  refine ⟨⟨rfl, rfl⟩, rfl, rfl, fun e he => ?_, fun i hi h => ?_⟩
  · simp only [fullTable, List.mem_map] at he
    obtain ⟨i, _, rfl⟩ := he
    show 1000 + i ≠ 999
    omega
  · exact full_get 512 0 i (by omega) (by omega) (by simpa [fullTable, State.cand, List.range_eq_range'] using h)

theorem witness_CandRemoveAndWatch :
    (hallOf six (pp .writing)).LinkFree ∧ 5 < 512 ∧ (hallOf six (pp .writing)).job = none ∧
    (∃ c, (hallOf six (pp .writing)).cand 5 = some c ∧ c.state = .unseated) ∧
    (∃ c, (hallOf six (pp .writing)).cand 0 = some c ∧ c.state ≠ .unseated ∧ c.flags.watch = false) :=
  ⟨by decide +kernel, by decide, rfl, ⟨_, rfl, rfl⟩, _, rfl, by decide, rfl⟩

theorem witness_CandRemoveAndWatch_refused :
    (hallOf six (pp .writing)).LinkFree ∧ 512 ≤ 512 ∧ 1 < 2 ∧ 1 ≤ 1 ∧ (511 < 512 ∧ (hallOf six (pp .writing)).cand 511 = none) := by
  decide +kernel

/-- A PLANNED paper with two waiting candidates of each kind. -/
def waitHall : State :=
  hallOf [cd .unseated none, cd .unseated none, { cd .unseated none with needsAccess := true },
    { cd .unseated none with needsAccess := true }] (pp .planned)

/-- A walk of the whole hall from seat 0. -/
def wholeWalk : SeatWalkArgs := ⟨0, 0, 0, 1, 1, 0, 0, 0, 4, 2, 1, 0⟩

/-- A running job on `waitHall`. -/
def someJob (pass : Pass) : Job where
  paper := 0
  spill := false
  walk := seatWalkTaken wholeWalk
  cursor := Cursor.start
  pass := pass
  waiting := [0, 1]
  generalCount := 0
  placed := 0
  unplacedAccess := 0

/-- A running job on a hall whose paper's scheduled start is due. -/
def dueHall : State :=
  { hallOf [cd .unseated none, cd .unseated none] { pp .planned with defn := { df with start := some 0 } } with
    job := some (someJob .general) }

theorem witness_AllocateAndAbort :
    (∀ s ∈ [waitHall, hallOf [cd .unseated none] (pp .planned), hallOf [] (pp .planned)],
      s.LinkFree ∧ s.paper 0 = some (pp .planned) ∧ seatWalkValid wholeWalk s.hall = true ∧ s.job = none ∧ s.Bounded) ∧
    waitHall.waitingList 0 true = [2, 3] ∧
    ((hallOf [cd .unseated none] (pp .planned)).waitingList 0 true = [] ∧
      (hallOf [cd .unseated none] (pp .planned)).waitingList 0 false = [0]) ∧
    ((hallOf [] (pp .planned)).waitingList 0 true = [] ∧ (hallOf [] (pp .planned)).waitingList 0 false = []) ∧
    (∀ pass, ({ waitHall with job := some (someJob pass) } : State).LinkFree) ∧
    (dueHall.LinkFree ∧ dueHall.job = some (someJob .general) ∧ dueHall.hold = none ∧
      ∃ p ∈ dueHall.paper 0, p.state = .planned ∧ p.defn.start = some 0) := by
  refine ⟨?_, by decide +kernel, by decide +kernel, by decide +kernel, fun pass => ⟨rfl, rfl⟩, by decide +kernel⟩
  intro s hs
  simp only [List.mem_cons, List.not_mem_nil, or_false] at hs
  obtain rfl | rfl | rfl := hs <;>
    exact ⟨by decide +kernel, rfl, by decide +kernel, rfl, bounded_of_test _ (by decide +kernel)⟩

/-- One scheduled start that is due, and none: hall time 0 is the start of `dueHall`'s paper, whose job is left out here. -/
theorem witness_HoldLineAndResume_due :
    ∃ s : State, s = { dueHall with job := none } ∧ s.Bounded ∧ s.hold = none ∧ s.job = none ∧
      (∃ p ∈ s.paper 0, p.state = .planned ∧ p.defn.start = some s.hallTime) ∧ (∀ e ∈ s.papers, e.1 = 0) ∧
      State.reset.Bounded ∧ State.reset.papers = [] :=
  ⟨_, rfl, bounded_of_test _ (by decide +kernel), rfl, rfl, by decide +kernel, by decide +kernel,
    bounded_of_test _ (by decide +kernel), rfl⟩

/-- ALLOCATE for an UNDEFINED slot, with a walk that starts outside the grid, and for a WRITING paper. -/
theorem witness_AllocateAndAbort_refused :
    ∃ s, s = hallOf six (pp .writing) ∧ s.LinkFree ∧ s.paper 7 = none ∧ s.paper 0 = some (pp .writing) ∧
      ¬ { wholeWalk with startCol := 4 }.startCol < s.hall.cols ∧ seatWalkValid wholeWalk s.hall = true ∧ s.job = none ∧
      (pp .writing).state ≠ .planned :=
  ⟨_, rfl, by decide +kernel, rfl, rfl, by decide +kernel, by decide +kernel, rfl, by decide⟩

/-- A running job, with requests that its BUSY answers. -/
theorem witness_AllocateAndAbort_busy :
    ∃ s, s = ({ waitHall with job := some (someJob .access) } : State) ∧ s.LinkFree ∧ s.job = some (someJob .access) ∧
      (0 < 8 ∧ 1 ≤ 1 ∧ s.paper 0 ≠ none ∧ seatWalkValid wholeWalk s.hall = true) ∧
      (511 < 512 ∧ 1 < s.hall.rows ∧ 3 < s.hall.cols) ∧
      ((someJob .access).paper < 8 ∧ 60 ≤ (pargs 1).writing ∧ (pargs 1).writing ≤ 28800 ∧ (pargs 1).separation ≤ 3 ∧
        (∀ b ∈ (pargs 1).code, 0x20 ≤ b.toNat ∧ b.toNat ≤ 0x7E) ∧ (pargs 1).startPresent ≤ 1 ∧
        (pargs 1).start ≤ 16777215 ∧ (pargs 1).walkPresent = 1 ∧ seatWalkValid (pargs 1).walk s.hall = true) ∧
      ∃ a : HallConfigArgs, a = ⟨32, 1, 0, 1, 0, 1, 0, 255, 1, 4, 1, 0, 0⟩ ∧ 1 ≤ a.rows ∧ a.rows ≤ 32 ∧ 1 ≤ a.cols ∧
        a.cols ≤ 32 ∧ a.presentPolarity ≤ 1 ∧ a.donePolarity ≤ 1 ∧ a.callPolarity ≤ 1 ∧ a.keyPolarity ≤ 1 ∧
        1 ≤ a.presentDebounce ∧ 1 ≤ a.doneDebounce ∧ 1 ≤ a.callDebounce ∧ 1 ≤ a.keyDebounce ∧ a.callSense ≤ 1 :=
  ⟨_, rfl, by decide +kernel, rfl, by decide +kernel, by decide +kernel, by decide +kernel, _, rfl, by decide⟩

theorem witness_AllocAdvancePlacesOrDeclines :
    ({ waitHall with job := some (someJob .general) } : State).resetLow = false ∧
    (someJob .general).waiting = 0 :: [1] ∧
    waitHall.advanceSeatWalk (someJob .general).walk 4096 ⟨0, 1, 3, true⟩ = (⟨0, 1, 3, true⟩, none) ∧
    waitHall.waitingList 0 false ≠ [] ∧ dueHall.paper 0 = some { pp .planned with defn := { df with start := some 0 } } ∧
    (∃ x c, waitHall.advanceSeatWalk (someJob .general).walk 4096 (someJob .general).cursor = (⟨0, 0, 1, false⟩, some 0) ∧
      waitHall.seat 0 = some x ∧ waitHall.cand 0 = some c ∧ c.state = .unseated ∧ x.state = .enabled ∧ x.occupant = none) ∧
    waitHall.paper 0 = some (pp .planned) :=
  ⟨rfl, rfl, by decide +kernel, by decide +kernel, rfl, ⟨_, _, by decide +kernel, rfl, rfl, rfl, rfl, rfl⟩, rfl⟩

/-- Walks of one and of twelve positions; of the walk of the hall's eight seats the last position, a position outside the grid and
an aisle, which are passed over, and the cursor before and at the end. -/
theorem witness_WalkTakesPositionsInOrder :
    (1 ≤ 1 ∧ 0 < 1 * 1 * 1 ∧ 1 * 1 * 1 ≤ 1 ∧ 1 ≤ 4 ∧ 11 < 4 * 3 * 1) ∧
    (seatWalkTaken wholeWalk = ⟨0, 0, ⟨0, 1⟩, ⟨1, 0⟩, ⟨0, 0⟩, 4, 2, 1, false⟩ ∧ boundedTest waitHall = true ∧
      ∃ x ∈ waitHall.seat 7, x.row = 1 ∧ x.col = 3 ∧ x.row < waitHall.hall.rows ∧ x.col < waitHall.hall.cols ∧
        ((x.row : Nat) : Int) = 0 + 1 * 1 + 3 * 0 ∧ ((x.col : Nat) : Int) = 0 + 1 * 0 + 3 * 1 ∧
        ∀ e ∈ waitHall.seats, e.2.row = 1 → e.2.col = 3 → e.1 = 7) ∧
    ((0 : Int) + 0 * 1 + 0 * 0 = 0 ∧ (waitHall.hall.cols : Int) ≤ 0 + 4 * 1) ∧
    (2 < threeRows.hall.rows ∧ ∀ e ∈ threeRows.seats, (e.2.row : Int) ≠ 2 ∨ (e.2.col : Int) ≠ 0) ∧
    (waitHall.advanceSeatWalk (seatWalkTaken wholeWalk) 4096 ⟨0, 1, 3, true⟩ = (⟨0, 1, 3, true⟩, none)) ∧
    ((Cursor.next 4 2 1 false)^[8] Cursor.start = ⟨0, 1, 3, true⟩ ∧ 4 * 2 * 1 ≤ 4096) := by decide +kernel

theorem witness_MoveAndUnseatChangeSeats :
    (hallOf six (pp .planned)).LinkFree ∧ (hallOf six (pp .planned)).job = none ∧ 2 < 512 ∧ 7 < 512 ∧
    (∃ c x p, (hallOf six (pp .planned)).cand 2 = some c ∧ (hallOf six (pp .planned)).seat 7 = some x ∧
      (hallOf six (pp .planned)).paper c.paper = some p ∧ c.seat = some 2 ∧ c.state = .seated ∧ p.coll.state ≠ .walking) ∧
    (∃ c x p, (hallOf six (pp .planned)).cand 3 = some c ∧ (hallOf six (pp .planned)).seat 2 = some x ∧
      (hallOf six (pp .planned)).paper c.paper = some p ∧ c.seat = some 3 ∧ c.state = .finished ∧ x.occupant = some 2) :=
  ⟨by decide +kernel, rfl, by decide, by decide, ⟨_, _, _, rfl, rfl, rfl, rfl, rfl, by decide⟩, _, _, _, rfl, rfl, rfl, rfl,
    rfl, rfl⟩

/-- A MOVE of an UNSEATED and of a COLLECTED candidate, and of one whose paper's walk runs. -/
theorem witness_MoveAndUnseatChangeSeats_refused :
    (∃ s, s = hallOf six (pp .writing) ∧ s.LinkFree ∧ s.job = none ∧ (s.seat 7).isSome ∧
      (∃ c ∈ s.cand 5, c.state = .unseated ∧ c.seat = none) ∧ (∃ c ∈ s.cand 4, c.state = .collected)) ∧
    (∃ c ∈ waitingAt3.cand 3, ∃ p ∈ waitingAt3.paper c.paper, p.coll.state = .walking) :=
  ⟨⟨_, rfl, by decide +kernel⟩, by decide +kernel⟩

theorem witness_PaperStartAdmitsThosePresent :
    (hallOf six { pp .planned with defn := { df with reading := 1 } }).LinkFree ∧
    (∃ p, (hallOf six { pp .planned with defn := { df with reading := 1 } }).paper 0 = some p ∧ p.state = .planned) ∧
    (waitHall.LinkFree ∧ waitHall.paper 0 = some (pp .planned) ∧
      ∃ j, ({ waitHall with job := some (someJob .access) } : State).job = some j ∧ j.paper = 0) ∧
    ((held 0 0).LinkFree ∧ (held 0 0).paper 0 = some (pp .writing)) :=
  ⟨by decide +kernel, ⟨_, rfl, rfl⟩, ⟨by decide +kernel, rfl, _, rfl, rfl⟩, by decide +kernel, rfl⟩

theorem witness_PaperAbandonFinishesEveryone :
    ∀ p ∈ [pp .writing, pp .closed], (hallOf six p).LinkFree ∧ (hallOf six p).paper 0 = some p := by decide +kernel

/-- A SEATED candidate of a paper before and at the candidate's limit, which E_p reaches only beyond D. -/
theorem witness_AdmitCreditsTheLateCandidate :
    ∀ p ∈ [pp .reading, { pp .writing with elapsed := 59 }, { pp .extended with elapsed := 60 }, pp .planned],
      (hallOf six p).LinkFree ∧ (hallOf six p).paper 0 = some p ∧
      ∃ c ∈ (hallOf six p).cand 2, c.state = .seated ∧ c.paper = 0 ∧
        (p.state = .writing → p.elapsed < c.limit) ∧ (p.state = .extended → c.limit ≤ p.elapsed) := by decide +kernel

/-- The last active candidate of an EXTENDED paper, one of several, and one that has finished. -/
theorem witness_FinishEndsTheCandidate :
    (∀ s ∈ [hallOf [cd .writing (some 0), cd .seated (some 1)] (pp .extended), hallOf six (pp .extended)],
      s.LinkFree ∧ s.Bounded ∧ ∃ c, s.cand 0 = some c ∧ c.state = .writing ∧ c.paper = 0 ∧
        ∃ p, s.paper 0 = some p ∧ p.state = .extended) ∧
    (∀ j d, j ≠ 0 → (hallOf [cd .writing (some 0), cd .seated (some 1)] (pp .extended)).cand j = some d → d.paper = 0 →
      ¬ (d.state = .reading ∨ d.state = .writing ∨ d.state = .resting)) ∧
    (∃ j d, j ≠ 0 ∧ (hallOf six (pp .extended)).cand j = some d ∧ d.paper = 0 ∧ d.state = .resting) ∧
    (∃ c, (hallOf six (pp .extended)).cand 3 = some c ∧ c.state = .finished) := by
  refine ⟨?_, fun j d hj hd => ?_, ⟨1, _, by decide, rfl, rfl, rfl⟩, _, rfl, rfl⟩
  · intro s hs
    simp only [List.mem_cons, List.not_mem_nil, or_false] at hs
    obtain rfl | rfl := hs <;>
      exact ⟨by decide +kernel, bounded_of_test _ (by decide +kernel), _, rfl, rfl, rfl, _, rfl, rfl⟩
  · exact cand_all (s := hallOf [cd .writing (some 0), cd .seated (some 1)] (pp .extended))
      (P := fun k c => k ≠ 0 → c.paper = 0 → ¬ (c.state = .reading ∨ c.state = .writing ∨ c.state = .resting))
      (by decide +kernel) j d hd hj

/-- A hall whose paper's collection walk is of one seat, and the seat that its first advance offers. -/
def walkingFrom (n : Nat) : State × Option Nat :=
  let w : SeatWalk := ⟨n / 4, n % 4, ⟨0, 1⟩, ⟨0, 0⟩, ⟨0, 0⟩, 1, 1, 1, false⟩
  let s := hallOf six { pp .closed with defn := { df with walk := some w } }
  (s, (s.advanceSeatWalk w 4096 Cursor.start).2)

theorem witness_CollectMarkTakesTheScript :
    (∀ p ∈ [pp .extended, { pp .closed with coll := { Collecting.new df with state := .outstanding } }],
      (hallOf six p).LinkFree ∧ (hallOf six p).paper 0 = some p ∧ p.coll.target = none ∧
        ∃ c ∈ (hallOf six p).cand 3, c.state = .finished ∧ c.paper = 0) ∧
    (∃ c ∈ (hallOf [cd .missing (some 0)] (pp .closed)).cand 0, c.state = .missing) ∧
    (∃ c ∈ (hallOf six (pp .closed)).cand 4, c.state ≠ .finished ∧ c.state ≠ .missing) ∧
    (waitingAt3.LinkFree ∧ (∃ p ∈ waitingAt3.paper 0, p.coll.target = some 3) ∧ (waitingAt3.loop 3).isSome ∧
      (∃ c ∈ waitingAt3.cand 3, c.state = .finished ∧ c.paper = 0 ∧ c.seat = some 3) ∧
      ∃ x ∈ waitingAt3.seat 3, x.occupant = some 3) ∧
    (∀ n ∈ [0, 3, 4, 7], (walkingFrom n).2 = some n) ∧ (∃ x ∈ (walkingFrom 3).1.seat 3, x.state = .enabled) ∧
    (∃ x ∈ threeStates.seat 2, x.state = .faulty) := by decide +kernel

/-- The collection state to be settled: with a target, with every script in, and with one still out. -/
theorem witness_CollectMarkTakesTheScript_settle :
    ∀ k ∈ [{ Collecting.new df with target := some 3 }, { Collecting.new df with admitted := 2, collected := 1, missing := 1 },
        { Collecting.new df with admitted := 2, collected := 1 }],
      ∃ p, (hallOf six { pp .closed with coll := k }).paper 0 = some p ∧ p.coll = k := by
  intro k _; exact ⟨_, rfl, rfl⟩

/-- A KEY at a desk that is not the target: with no target, and with the target elsewhere. -/
theorem witness_CollectMarkTakesTheScript_away :
    ∀ p ∈ [pp .writing, { pp .closed with coll := { Collecting.new df with state := .outstanding } },
        { pp .closed with coll := { Collecting.new df with state := .walking, target := some 2 } }],
      ∃ c ∈ (hallOf six p).cand 3, c.state = .finished ∧ c.seat = some 3 ∧ (hallOf six p).paper c.paper = some p ∧
        p.coll.target ≠ some 3 ∧ (∃ x ∈ (hallOf six p).seat 3, x.occupant = some 3) ∧ (hallOf six p).loop 3 ≠ none := by
  decide +kernel

theorem witness_CollectCloseMakesTheRestMissing :
    ∀ p ∈ [pp .writing, { pp .closed with coll := { Collecting.new df with state := .complete } },
        { pp .closed with coll := { Collecting.new df with state := .outstanding } }],
      (hallOf [cd .finished (some 0)] p).LinkFree ∧ (hallOf [cd .finished (some 0)] p).paper 0 = some p := by decide +kernel

/-- An IDLE collection of a paper without a walk and of one with, and one that runs. -/
theorem witness_CollectCloseMakesTheRestMissing_start :
    ((hallOf six (pp .closed)).Bounded ∧ (pp .closed).defn.walk = none ∧ (pp .closed).coll.target = none) ∧
    (∀ p ∈ [pp .closed, { pp .closed with defn := { df with walk := some (seatWalkTaken wholeWalk) } },
        { pp .closed with coll := { Collecting.new df with state := .outstanding } }],
      (hallOf six p).paper 0 = some p ∧ ∃ t passed, (hallOf six p).findTarget 0 = (t, passed)) := by
  refine ⟨⟨bounded_of_test _ (by decide +kernel), rfl, rfl⟩, fun p _ => ⟨rfl, _, _, rfl⟩⟩

/-- A hall whose pass's list holds a seat, and one with nothing to poll. -/
theorem witness_SeatPollSendsTheLamp :
    (∀ s ∈ [{ hallOf six (pp .writing) with passList := [7] }, hallOf six (pp .writing)],
      s.resetLow = false ∧ s.window = none ∧ s.sweep = none ∧ s.closing = []) ∧
    ({ hallOf six (pp .writing) with passList := [7] } : State).passList = [7] ∧
    (hallOf six (pp .writing)).passList = [] ∧
    (∃ x r, threeStates.seat 2 = some x ∧ threeStates.loop 2 = some r ∧ x.state = .faulty) ∧
    (∃ x r, (held 0 0).seat 0 = some x ∧ (held 0 0).loop 0 = some r ∧ x.state = .enabled ∧ r.call = none ∧
      (held 0 0).hold ≠ none) ∧
    (∃ x r, ({ hallOf six (pp .writing) with loops := [(0, { lp with call := some .latch })] } : State).seat 0 = some x ∧
      ({ hallOf six (pp .writing) with loops := [(0, { lp with call := some .latch })] } : State).loop 0 = some r ∧
      r.call ≠ none) ∧
    (waitingAt3.hold = none ∧ ∃ e ∈ waitingAt3.papers, e.2.coll.target = some 3) ∧
    (∃ x i c, (hallOf six (pp .writing)).hold = none ∧
      (∀ e ∈ (hallOf six (pp .writing)).papers, e.2.coll.target ≠ some 0) ∧ (hallOf six (pp .writing)).seat 0 = some x ∧
      x.occupant = some i ∧ (hallOf six (pp .writing)).cand i = some c ∧ c.paper = 0 ∧ c.state = .writing) :=
  ⟨by decide +kernel, rfl, rfl, ⟨_, _, rfl, rfl, rfl⟩, ⟨_, _, rfl, rfl, rfl, rfl, by decide⟩,
    ⟨_, _, rfl, rfl, by decide⟩, by decide +kernel, ⟨_, _, _, rfl, by decide +kernel, rfl, rfl, rfl, rfl, rfl⟩⟩

/-- The hall of the six candidates with the window of a poll to a seat open, and that seat's miss count. -/
def polled (n misses : Nat) (p : Paper) : State :=
  { hallOf six p with
    window := some ⟨n, false, false⟩, loops := Table.insert (hallOf six p).loops n { lp with misses := misses } }

theorem witness_ClosingPollsAndMissedReplies :
    (State.reset.resetLow = false ∧ State.reset.window = none ∧ State.reset.sweep = some 0) ∧
    ((∀ n ∈ [510, 511], ({ State.reset with sweep := some n } : State).sweep = some n)) ∧
    (({ hallOf six (pp .writing) with closing := [9] } : State).sweep = none ∧
      ({ hallOf six (pp .writing) with closing := [9] } : State).closing = [9]) ∧
    ({ State.reset with window := some ⟨0, true, false⟩ } : State).window = some ⟨0, true, false⟩ ∧
    (∀ spoiled : Bool, ({ polled 0 2 (pp .closed) with window := some ⟨0, false, spoiled⟩ } : State).window =
      some ⟨0, false, spoiled⟩) ∧
    ({ State.reset with window := some ⟨511, true, false⟩, sweep := some 512 } : State).sweep = some 512 ∧
    (∀ n ∈ [0, 3, 7], ∃ x ∈ (polled n 2 (pp .closed)).seat n, ∃ r ∈ (polled n 2 (pp .closed)).loop n,
      (polled n 2 (pp .closed)).resetLow = false ∧ (polled n 2 (pp .closed)).window = some ⟨n, false, false⟩ ∧
      x.state = .enabled ∧ r.misses = 2 ∧ x.occupant = (if n = 7 then none else some n)) ∧
    (∃ r ∈ (polled 0 255 (pp .closed)).loop 0, r.misses ≠ 2) ∧
    (∃ p, waitingAt3.paper 0 = some p ∧ p.coll.target = some 3 ∧
      ∀ e ∈ waitingAt3.papers, e.2.coll.target = some 3 → e.1 = 0) :=
  ⟨by decide, by decide +kernel, by decide +kernel, rfl, fun _ => rfl, rfl, by decide +kernel, by decide +kernel, _, rfl, rfl, by decide +kernel⟩

theorem witness_GoodReplySamplesTheInputs :
    (polled 0 2 (pp .writing)).resetLow = false ∧ (polled 0 2 (pp .writing)).Bounded ∧
    (0x00 : Byte) + 0x05 + 0xFA = 0xFF ∧ (0x00 : Byte).toNat + (if (0x05 : Byte).msb then 256 else 0) = 0 ∧
    ({ State.reset with window := some ⟨0, true, false⟩ } : State).window = some ⟨0, true, false⟩ ∧
    ({ polled 0 2 (pp .writing) with window := some ⟨0, false, true⟩ } : State).window = some ⟨0, false, true⟩ ∧
    (∃ x r i c, (polled 0 2 (pp .writing)).window = some ⟨0, false, false⟩ ∧ (polled 0 2 (pp .writing)).seat 0 = some x ∧
      (polled 0 2 (pp .writing)).loop 0 = some r ∧ x.state = .enabled ∧ r.fresh = false ∧ x.occupant = some i ∧
      (polled 0 2 (pp .writing)).cand i = some c) ∧
    (∃ x r, ({ threeStates with window := some ⟨2, false, false⟩ } : State).seat 2 = some x ∧
      ({ threeStates with window := some ⟨2, false, false⟩ } : State).loop 2 = some r ∧ x.state = .faulty) ∧
    ((0x00 : Byte) + 0x05 + 0xFB ≠ 0xFF ∧ (0x00 : Byte).toNat + (if (0x85 : Byte).msb then 256 else 0) ≠ 0) :=
  ⟨rfl, bounded_of_test _ (by decide +kernel), by decide, by decide, rfl, rfl,
    ⟨_, _, _, _, rfl, rfl, rfl, rfl, rfl, rfl, rfl⟩,
    ⟨_, _, rfl, rfl, rfl⟩, by decide⟩

/-- Each seat of the six has a seat, a loop record, an occupant with its paper: in turn WRITING, RESTING, SEATED, FINISHED. -/
theorem witness_EdgesFollowTheirTables :
    (∀ n ∈ [0, 1, 2, 3], ∃ x ∈ (hallOf six (pp .writing)).seat n, ∃ r ∈ (hallOf six (pp .writing)).loop n,
      x.occupant = some n ∧ r.call = none ∧ ∃ c ∈ (hallOf six (pp .writing)).cand n,
        c.state = [CandState.writing, .resting, .seated, .finished].getD n .absent ∧
        ∃ p ∈ (hallOf six (pp .writing)).paper c.paper, p.state = .writing) ∧
    (∃ c ∈ (hallOf [cd .absent (some 0)] (pp .closed)).cand 0, c.state = .absent) ∧
    (∃ c ∈ awayHall.cand 0, c.state = .resting ∧ c.flags.away = true) ∧
    -- a reply with a rising edge of every input kind, at the RESTING candidate's seat
    (∃ s : State, s = hallOf six (pp .writing) ∧ (s.seat 1).bind Seat.occupant = some 1 ∧
      ∃ i : InputRec, i.cond = .active ∧ lp.presentIn.cond = .inactive ∧ lp.doneIn.cond = .inactive ∧
        lp.callIn.cond = .inactive ∧ lp.keyIn.cond = .inactive) :=
  ⟨by decide +kernel, by decide +kernel, by decide +kernel, _, rfl, by decide +kernel, ⟨[], .active⟩, rfl, rfl, rfl, rfl, rfl⟩

/-- SEATED candidate 2 with a paper of each state, of E_p below its limit of 60 and at it; and the only active candidate of an
EXTENDED paper, one of two, and one of a WRITING paper. -/
theorem witness_EdgesFollowTheirTables_admission :
    (∀ p ∈ [pp .planned, pp .closed, pp .abandoned, pp .reading, { pp .writing with elapsed := 59 },
        { pp .extended with elapsed := 59 }, { pp .extended with elapsed := 60 }],
      ∃ c ∈ (hallOf six p).cand 2, c.state = .seated ∧ (hallOf six p).paper c.paper = some p ∧
        (∃ x ∈ (hallOf six p).seat 2, x.occupant = some 2) ∧ (hallOf six p).loop 2 ≠ none ∧
        (p.elapsed < c.limit ∨ c.limit ≤ p.elapsed)) ∧
    (∀ s ∈ [hallOf [cd .writing (some 0), cd .seated (some 1)] (pp .extended), hallOf six (pp .extended),
        hallOf [cd .reading (some 0)] (pp .reading)],
      boundedTest s = true ∧ (∃ x ∈ s.seat 0, x.occupant = some 0) ∧ s.loop 0 ≠ none ∧
        ∃ c ∈ s.cand 0, c.state = .reading ∨ c.state = .writing) := by decide +kernel

theorem witness_ReaderFramesAreTakenOrDropped :
    State.reset.resetLow = false ∧ State.reset.reader.frame = none ∧ (List.replicate 200 (0 : Byte)).length ≤ 200 ∧
    (0 : Byte) = 0 ∧ 8 < (9 : Byte).toNat ∧
    (1 : Byte) + 9 + BitVec.ofNat 8 ([] : List Byte).length + ([] : List Byte).sum + 0 ≠ 0xFF ∧
    (([0xA5, 1] : List Byte) ≠ [] ∧ [0xA5, 1] <+: readerFrame 1 9 [] ∧ [0xA5, 1] ≠ readerFrame 1 9 []) ∧
    200 < (201 : Byte).toNat := by decide +kernel

/-- A reader bound to paper 0 with no open record, and one that has four. -/
def fullReader : State :=
  { bound (sr .receiving none) with reader := { rd (sr .receiving none) with
      records := [(0, { sr .decided none with tag := 1 }), (1, { sr .decided none with tag := 2 }),
        (2, { sr .decided none with tag := 3 }), (3, { sr .decided none with tag := 4 })] } }

theorem witness_SheetsArriveByTheirTables_begin :
    ((bound (sr .receiving (some 0))).sheet 0 = some (sr .receiving (some 0)) ∧
      (sr .receiving (some 0)).spoil = none ∧ (bound (sr .receiving (some 0))).reader.owner = some 9) ∧
    (State.reset.resetLow = false ∧ State.reset.reader.bound = none) ∧
    (fullReader.sheetOf 9 = none ∧ ∀ e, e < 4 → fullReader.sheet e ≠ none) ∧
    ((bound (sr .receiving none)).reader.bound ≠ none ∧
      (bound (sr .receiving none)).sheetOf 9 = some (0, sr .receiving none)) ∧
    ((bound (sr .receiving none)).sheetOf 8 = none ∧ (bound (sr .receiving none)).sheet 1 = none ∧
      (∀ k, k < 1 → (bound (sr .receiving none)).sheet k ≠ none) ∧ (bound (sr .receiving none)).reader.owner ≠ none ∧
      (bound (sr .receiving none)).reader.owner ≠ some 8) ∧
    ({ bound (sr .decided none) with reader := { rd (sr .decided none) with owner := none } } : State).reader.owner =
      none := by decide +kernel

/-- A RECEIVING record before its SHEET_END, with a number of rows counted. -/
def arriving (rows : Nat) (b : Option Nat) : State :=
  bound { sr .receiving b with rows := rows, endTaken := none }

theorem witness_SheetsArriveByTheirTables_rows :
    (bound (sr .decided none)).sheetOf 8 = none ∧
    (∀ x ∈ [sr .decided none, sr .diverted none, sr .stored (some 0), sr .marking (some 0), sr .receiving (some 0)],
      (bound x).resetLow = false ∧ (bound x).sheetOf 9 = some (0, x) ∧ (bound x).boundFormat = some fm) ∧
    (∀ rows ∈ [0, 19, 20], ∀ b ∈ [none, some 0], ∃ x ∈ (arriving rows b).sheetOf 9,
      x.2.state = .receiving ∧ x.2.endTaken = none ∧ x.2.spoil = none ∧ x.2.rows = rows ∧ x.2.buffer = b ∧
      (arriving rows b).reader.owner = some 9 ∧ (arriving rows b).reader.fifo = []) ∧
    (List.replicate 6 (0 : Byte)).length = fm.channels * fm.subSamples ∧ 19 < fm.rows ∧ 20 = fm.rows ∧
    (∃ x ∈ (bound { sr .receiving none with endTaken := none, spoil := some .overrun }).sheetOf 9,
      x.2.spoil = some .overrun) ∧
    ((sr .receiving (some 0)).endTaken ≠ none ∧ (bound (sr .receiving (some 0))).reader.owner = some 9) := by
  decide +kernel

/-- The sheet of a record of candidate 0 accepted and diverted, with candidate 0 MARK_PENDING. -/
def accepted (st : SheetState) (reason : Option Reason) : State :=
  let x : SheetRec := { sr st none with
    decision := some (match reason with | none => .accept | some r => .reject r)
    staged := some ⟨0, [.resp 0, .blank], res⟩ }
  { hallOf [cd .markPending (some 0)] (mp .bound) with reader := rd x }

theorem witness_GateStackersAndStops :
    (∀ st ∈ [SheetState.receiving, .stored, .marking, .decided, .diverted],
      (bound (sr st (some 0))).resetLow = false ∧ (bound (sr st (some 0))).sheetOf 9 = some (0, sr st (some 0))) ∧
    (∃ x ∈ (accepted .diverted none).sheetOf 9, x.2.state = .diverted ∧ x.2.decision = some .accept ∧
      x.2.staged = some ⟨0, [.resp 0, .blank], res⟩ ∧
      ∃ c ∈ (accepted .diverted none).cand 0, c.state = .markPending) ∧
    (∃ x ∈ (accepted .diverted (some .geometry)).sheetOf 9, x.2.decision = some (.reject .geometry)) ∧
    (1 ≤ 1 ∧ 1 < 2) ∧
    ((List.replicate 16 9).length ≤ 16 ∧ 16 < (List.replicate 17 9).length) ∧
    ([9].Perm ((accepted .diverted none).reader.records.map (fun y => y.2.tag)) ∧ [9].Pairwise (· ≤ ·)) ∧
    (∃ x ∈ (accepted .diverted none).sheet 0, x.decision = some .accept) ∧
    (∃ x ∈ (bound (sr .stored none)).sheet 0, x.decision ≠ some .accept) := by decide +kernel

/-- Records 0 and 1 of tags 9 and 8, record 1 waiting for a buffer, with the owner given and record 0's buffer in a state. -/
def twoRecords (owner : Option Nat) (b : BufState) : State :=
  { bound (sr .stored (some 0)) with
    reader := { rd (sr .stored (some 0)) with
      records := [(0, sr .stored (some 0)), (1, { sr .receiving none with tag := 8 })], owner := owner, buf0 := ⟨b, []⟩ } }

/-- Closes as lost: of the FIFO's owner, with no owner, with a waiting owner, of a buffer being marked, of a record without one. -/
theorem witness_GateStackersAndStops_lost :
    (∀ owner ∈ [some 9, none, some 8], ∀ b ∈ [BufState.full, .marking],
      ((twoRecords owner b).sheet 0 = some (sr .stored (some 0)) ∧ (twoRecords owner b).sheet 1 =
        some { sr .receiving none with tag := 8 } ∧ ((twoRecords owner b).reader.buffer 0).state = b) ∧
      ((sr .receiving none).endTaken ≠ none ∧ (sr .receiving none).spoil = none ∧ 1 ≠ 0 ∧ 8 ≠ (sr .stored (some 0)).tag ∧
        ∀ z ∈ (twoRecords owner b).reader.records, z.2.tag = 8 → z = (1, { sr .receiving none with tag := 8 }))) ∧
    ((bound (sr .decided none)).sheet 0 = some (sr .decided none) ∧ (bound (sr .decided none)).reader.owner = some 9) ∧
    -- the marker reads the record that closes
    (∃ s : State, s = { bound (sr .marking (some 0)) with
        marker := .marking ⟨0, true, 0, 9, 1, [], Cursor.start, [], []⟩ } ∧ s.sheet 0 = some (sr .marking (some 0))) :=
  ⟨by decide +kernel, by decide +kernel, _, rfl, rfl⟩

theorem witness_ReaderMessagesAndTheFeed :
    State.reset.resetLow = false ∧ State.reset.reader.tx.any TxMsg.isGeometry = false ∧
    ({ State.reset with reader := { Reader.reset with tx := [.geometry 7 2 20] } } : State).reader.tx.any
      TxMsg.isGeometry = true ∧
    ({ State.reset with reader := { Reader.reset with tx := [.divert ⟨9, .accept, some 0, none⟩] } } : State).reader.tx =
      .divert ⟨9, .accept, some 0, none⟩ :: [] ∧
    State.reset.reader.tx = .feed false :: [] := by decide

/-- The marker with the sheet of entry 0 in hand, its digits as given. -/
def inHand (number : List QClass) (c : Cand) : State :=
  { hallOf [c] (mp .bound) with
    reader := { rd (sr .marking (some 0)) with buf0 := ⟨.marking, []⟩ }
    marker := .marking
      { entry := 0, same := true, buffer := 0, tag := 9, generation := 1, backgrounds := [], cursor := Cursor.start
        digits := number, readings := [] } }

theorem witness_MarkerTakesAndDecides_take :
    (bound (sr .stored (some 0))).resetLow = false ∧ (bound (sr .stored (some 0))).marker = .idle ∧
    (bound (sr .stored (some 0))).reader.bound = some 0 ∧
    (∃ p ∈ (bound (sr .stored (some 0))).paper 0, p.format = some fm) ∧
    (0, sr .stored (some 0)) ∈ (bound (sr .stored (some 0))).reader.records ∧
    (∀ y ∈ (bound (sr .stored (some 0))).reader.records, y = (0, sr .stored (some 0))) ∧
    (∀ y ∈ (bound (sr .decided none)).reader.records, y.2.state ≠ .stored) := by decide +kernel

theorem witness_MarkerTakesAndDecides_end :
    (∀ digits ∈ [[], List.replicate 6 (QClass.resp 0), [.resp 0, .resp 0, .resp 0, .resp 1, .resp 0, .resp 1]],
      ∀ st ∈ [CandState.collected, .finished, .marked],
      (inHand digits (cd st (some 0))).resetLow = false ∧ (inHand digits (cd st (some 0))).reader.bound = some 0 ∧
      (∃ p ∈ (inHand digits (cd st (some 0))).paper 0, p.format = some fm) ∧
      ∃ c ∈ (inHand digits (cd st (some 0))).cand 0, c.number = 101 ∧ c.state = st ∧ c.paper = 0) ∧
    numberRead (List.replicate 6 (QClass.resp 0)) = none ∧
    numberRead [.resp 0, .resp 0, .resp 0, .resp 1, .resp 0, .resp 1] = some 101 ∧
    (∃ j, (inHand [] (cd .collected (some 0))).marker = .marking j ∧
      j.same = true ∧ ∃ x ∈ (inHand [] (cd .collected (some 0))).sheet j.entry, x.state = .marking) ∧
    (∃ j, ({ inHand [] (cd .collected (some 0)) with reader := rd (sr .decided none) } : State).marker = .marking j ∧
      ∃ x ∈ ({ inHand [] (cd .collected (some 0)) with reader := rd (sr .decided none) } : State).sheet j.entry,
        x.state ≠ .marking) ∧
    (inHand [] (cd .collected (some 0))).Bounded ∧
    (∀ k d, (inHand [] (cd .collected (some 0))).cand k = some d → d.number = 101 → k = 0) ∧
    (∀ k d, (inHand [] (cd .collected (some 0))).cand k = some d → d.number ≠ 999999) :=
  ⟨by decide +kernel, by decide, by decide, ⟨_, rfl, by decide +kernel⟩, ⟨_, rfl, by decide +kernel⟩,
    bounded_of_test _ (by decide +kernel), cand_all (by decide +kernel), cand_all (by decide +kernel)⟩

/-- The end of a marking with no record that waits for a buffer, and with one, of entry 1. -/
theorem witness_MarkerTakesAndDecides_free :
    (∀ y ∈ (inHand [] (cd .collected (some 0))).reader.records, y.2.state ≠ .receiving) ∧
    (∃ s y, s = twoRecords (some 8) .marking ∧ y = { sr .receiving none with tag := 8 } ∧ s.sheet 1 = some y ∧
      y.state = .receiving ∧ s.reader.owner = some y.tag ∧ y.spoil = none ∧ y.buffer = none ∧
      ∀ z ∈ s.reader.records, z.2.tag = y.tag → z = (1, y)) :=
  ⟨by decide +kernel, _, _, rfl, rfl, by decide +kernel⟩

/-- The format with a further block, of question 3, that stands first. -/
def turned : Format := { fm with blocks := [⟨3, 1, 2, ⟨90, 2, 6⟩⟩, ⟨1, 2, 2, ⟨66, 2, 6⟩⟩] }

theorem witness_QuestionsAreClassified :
    [3, 174, 6, 4].Perm (174 :: 6 :: [3, 4]) ∧ 6 ≤ 174 ∧ (∀ d ∈ [3, 4], d ≤ 6) ∧ fm.tBlank < fm.tMark ∧
    classify fm [3, 174, 6, 4] = .resp 1 ∧
    -- the last bubble of the block 66, 2, 6 of two questions of two options, and digits with and without a number
    (1 < 2 ∧ 1 < 2 ∧ ((74 : Nat) : Int) = 66 + 1 * 6 + 1 * 2) ∧
    (([.resp 9, .respE 9, .resp 9, .resp 9, .resp 9, .resp 9] : List QClass).length = 6 ∧ [9, 9, 9, 9, 9, 9].length = 6 ∧
      ∀ k, k < 6 → ([9, 9, 9, 9, 9, 9] : List Nat)[k]? = some 9 ∧
        (([.resp 9, .respE 9, .resp 9, .resp 9, .resp 9, .resp 9] : List QClass)[k]? = some (.resp 9) ∨
        ([.resp 9, .respE 9, .resp 9, .resp 9, .resp 9, .resp 9] : List QClass)[k]? = some (.respE 9))) ∧
    (([.resp 9, .blank, .resp 9, .resp 9, .resp 9, .multi] : List QClass).length = 6 ∧
      QClass.blank ∈ ([.resp 9, .blank, .resp 9, .resp 9, .resp 9, .multi] : List QClass)) ∧
    -- blocks given in descending question order
    (turned.questionsValid = true ∧ (⟨1, 2, 2, ⟨66, 2, 6⟩⟩ : AnswerBlock) ∈ turned.blocks ∧ 1 < 2) := by decide +kernel

/-- R160, R167, R176: the block of question 3 is read first, and its class stands third in the responses. -/
theorem test_responses : turned.responses [⟨[], .multi⟩, ⟨[], .blank⟩, ⟨[], .resp 1⟩] = [.blank, .resp 1, .multi] := by
  decide +kernel

/-- R169, R45: the bubble of option 1 of question 1 of a walk that starts at 66 is at 66 + 6 + 2 = 74; of its samples 100 and 60 the
mean is 80, and over the background 20 of rank ⌊74 / 2⌋ mod 3 = 1 that is 60. -/
theorem test_readBlock :
    (readBlock fm [0, 20, 0] [(74, 100), (75, 60)] ⟨66, 2, 6⟩ 2 2).map Reading.darkness = [[0, 0], [0, 60]] := by decide +kernel

/-- R171: digit 0 is the most significant. -/
theorem test_numberRead :
    numberRead [.resp 1, .resp 2, .respE 3, .resp 4, .resp 5, .resp 6] = some 123456 ∧
    numberRead [.resp 1, .resp 2, .faint, .resp 4, .resp 5, .resp 6] = none := by decide

theorem witness_ResultsKeepTheirBounds :
    ([.resp 0, .blank] : List QClass).length = ([⟨1, 40, 40, 7⟩, ⟨2, 4, 1, 0⟩] : List KeyEntry).length ∧
    (List.replicate 200 (⟨1, 40, 40, 7⟩ : KeyEntry)).length ≤ 200 ∧
    (∀ e ∈ ([⟨1, 40, 40, 7⟩, ⟨2, 4, 1, 0⟩] : List KeyEntry), e.weight ≤ 40 ∧ e.penalty ≤ 40 ∧ e.sect ≤ 7) ∧
    fm.paperFloor ≤ 0 := by decide +kernel

/-- The arguments that give `fm`. -/
def fargs : FormatArgs :=
  ⟨7, 2, 20, 0, 40, 110, 30, 0, 1, 1, -10, ⟨6, 6, 6⟩, [⟨1, 2, 2, ⟨66, 2, 6⟩⟩]⟩

/-- The result code of a FORMAT_LOAD. -/
def formatAnswer (s : State) (a : FormatArgs) : Option ResultCode :=
  (after (.formatLoad 1 0 a) s).link.inHand.map (fun r =>
    match r.answer with
    | .ok _ => .ok
    | .refused code _ => code)

theorem witness_FormatsAndKeysAreLoaded :
    (markedHall .ready).LinkFree ∧ (hallOf six (mp .ready)).LinkFree ∧ (hallOf six (mp .ready)).Bounded ∧
    (hallOf six (mp .ready)).paper 0 = some (mp .ready) ∧ fargs.mask ≠ 0 ∧ 1 ≤ fargs.subSamples ∧ fargs.subSamples ≤ 4 ∧
    4 ≤ fargs.rows ∧ fargs.rows ≤ 64 ∧ fargs.refRow < fargs.rows ∧ fargs.faintPolicy ≤ 1 ∧ fargs.multiPolicy ≤ 1 ∧
    fargs.sectionFloor ≤ 1 ∧ fargs.paperFloor ≤ 0 ∧ 1 ≤ fargs.blocks.length ∧ fargs.blocks.length ≤ 5 ∧
    (∀ b ∈ fargs.blocks, 1 ≤ b.first ∧ b.first ≤ 200 ∧ 2 ≤ b.options ∧ b.options ≤ 8 ∧ 1 ≤ b.count ∧ b.count ≤ 64) ∧
    (fargs.idBlock.start ≤ 8191 ∧ fargs.idBlock.o1 ≤ 8191 ∧ fargs.idBlock.o2 ≤ 8191) ∧ fargs.tBlank < fargs.tMark ∧
    fm.questionsValid = true ∧ fm.fits = true ∧ (mp .ready).marking = .ready ∧
    (∀ e ∈ (hallOf six (mp .ready)).cands, e.2.paper = 0 → e.2.state ≠ .marked) ∧
    (mp .ready).key.length = fm.questions ∧ (mp .ready).format = some fm ∧ 2 + 1 - 1 ≤ fm.questions ∧
    (3 : Byte).toNat < 2 ^ fm.optionsOf (2 + 0) ∧ (hallOf six (mp .ready)).marker = .idle :=
  ⟨by decide +kernel, by decide +kernel, bounded_of_test _ (by decide +kernel), by decide +kernel⟩

/-- A FORMAT_LOAD that passes every check (R160), and one that fails each of checks 3 to 7 alone: thresholds equal, a question
count of 0 and of 65, a gap before the second block, the sheet above 8192 samples, a walk beyond the sheet, a BOUND paper, a
MARKED candidate. -/
theorem witness_FormatsAndKeysAreLoaded_format :
    (∀ st ∈ [MarkState.notReady, .ready], formatAnswer (hallOf six (mp st)) fargs = some .ok) ∧
    (∀ a ∈ [{ fargs with tBlank := 110 }, { fargs with blocks := [⟨1, 0, 2, ⟨66, 2, 6⟩⟩] },
        { fargs with blocks := [⟨1, 65, 2, ⟨0, 0, 0⟩⟩] },
        { fargs with blocks := [⟨1, 2, 2, ⟨66, 2, 6⟩⟩, ⟨4, 1, 2, ⟨66, 2, 6⟩⟩] }, { fargs with mask := -1, subSamples := 4, rows := 64 },
        { fargs with blocks := [⟨1, 2, 2, ⟨111, 2, 6⟩⟩] }, { fargs with idBlock := ⟨6, -1, 6⟩ }],
      formatAnswer (hallOf six (mp .ready)) a = some .format) ∧
    formatAnswer (hallOf six (mp .bound)) fargs = some .state ∧ formatAnswer (markedHall .ready) fargs = some .state := by
  decide +kernel

theorem witness_BindingAndRescoring :
    (hallOf six (mp .ready)).LinkFree ∧ (hallOf six (mp .ready)).paper 0 = some (mp .ready) ∧
    (hallOf six (mp .ready)).reader.bound = none ∧ (hallOf six (mp .ready)).marker = .idle ∧
    (hallOf six (mp .ready)).reader.records = [] ∧ (hallOf six (mp .ready)).reader.buf0.state = .free ∧
    (hallOf six (mp .ready)).reader.buf1.state = .free ∧
    ((bound (sr .decided none)).LinkFree ∧ (bound (sr .decided none)).reader.bound = some 0 ∧
      (bound (sr .decided none)).reader.records ≠ []) ∧
    ((markedHall .ready).cands.countP (fun e : Nat × Cand => e.2.paper = 0 ∧ e.2.state = CandState.marked) = 1 ∧
      (hallOf six (mp .ready)).cands.countP (fun e : Nat × Cand => e.2.paper = 0 ∧ e.2.state = CandState.marked) = 0) ∧
    (({ markedHall .rescoring with marker := .rescoring 0 0 0 } : State).resetLow = false ∧
      ∃ c ∈ (markedHall .rescoring).cand 0, c.paper = 0 ∧ c.state = .marked ∧ c.result = some res ∧
        Table.get (markedHall .rescoring).responses 0 = some [.resp 0, .blank] ∧
        ∀ e ∈ (markedHall .rescoring).cands, 0 < e.1 → e.2.state ≠ .marked) := by decide +kernel

/-- Each check turned down: no format; beyond Q and an option the block does not have; a sheet of the paper being marked; a
rescore of it; and the two questions of `fm`'s block. -/
theorem witness_FormatsAndKeysAreLoaded_refused :
    (∃ s, s = hallOf six (pp .closed) ∧ s.LinkFree ∧ s.paper 7 = none ∧ ∃ p ∈ s.paper 0, p.format = none) ∧
    (fm.blocks = [⟨1, 2, 2, ⟨66, 2, 6⟩⟩] ∧ 1 ≤ 2 ∧ 2 < 1 + 2) ∧ (1 ≤ 3 ∧ 3 ≤ 200 ∧ ¬ 3 + 1 - 1 ≤ fm.questions) ∧
    (2 + 1 - 1 ≤ fm.questions ∧ ¬ (4 : Byte).toNat < 2 ^ fm.optionsOf 2 ∧ (3 : Byte).toNat < 2 ^ fm.optionsOf 2) ∧
    ((bound (sr .marking (some 0))).LinkFree ∧ (bound (sr .marking (some 0))).reader.bound = some 0) ∧
    (∃ s, s = ({ markedHall .rescoring with marker := .rescoring 0 0 0 } : State) ∧ s.LinkFree ∧
      s.marker = .rescoring 0 0 0 ∧ ∃ p ∈ s.paper 0, p.format = some fm) :=
  ⟨⟨_, rfl, by decide +kernel⟩, by decide, by decide, by decide, by decide +kernel, _, rfl, by decide +kernel⟩

/-- A paper bound with an open record, a paper that is not READY at an idle reader, and a READY one beside a rescore. -/
theorem witness_BindingAndRescoring_refused :
    ((bound (sr .stored (some 0))).LinkFree ∧ (bound (sr .stored (some 0))).reader.bound ≠ none ∧
      (bound (sr .stored (some 0))).reader.records ≠ []) ∧
    (∃ s, s = hallOf six (pp .closed) ∧ s.LinkFree ∧ s.reader.bound = none ∧ s.marker = .idle ∧ s.reader.records = [] ∧
      s.reader.buf0.state = .free ∧ s.reader.buf1.state = .free ∧ ∃ p ∈ s.paper 0, p.marking ≠ .ready) ∧
    (∃ s, s = ({ markedHall .ready with marker := .rescoring 1 0 0 } : State) ∧ s.LinkFree ∧ s.marker ≠ .idle ∧
      ∃ p ∈ s.paper 0, p.marking = .ready) :=
  ⟨by decide +kernel, ⟨_, rfl, by decide +kernel⟩, _, rfl, by decide +kernel⟩

theorem witness_BindingAndRescoring_bounded : ({ markedHall .rescoring with marker := .rescoring 0 0 0 } : State).Bounded :=
  bounded_of_test _ (by decide +kernel)

/-! ### One step each, with the outcome the rule gives -/

/-- R98: after reset the first closing poll goes to seat 0 with lamp OFF. -/
theorem test_closingPoll_sweep : (after .closingPoll State.reset).pollFrame = some [0x80, 0x00, 0x00, 0x7F] ∧
    (after .closingPoll State.reset).sweep = some 1 := by decide +kernel

/-- R194, R197: the IDENTIFY reply at straps high, high; the widths of its codes are log 62's. -/
theorem test_identify_reply :
    ((after (.identify 0x31) (State.resetAt 3)).link.inHand.map InHand.frame).map (List.take 13) =
      some [0x7E, 0, 10, 0x81, 0x31, 0, 0, 0x56, 0x4B, 0x05, 0x12, 0x03, 0x03] := by decide +kernel

/-- R68: hall time above 16,777,215 is RANGE. -/
theorem test_timeSet_range : (after (.timeSet 1 16777216) State.reset).link.inHand.map InHand.answer =
    some (.refused .range ⟨0, 0⟩) := by decide +kernel

/-- R81, R82: the candidate at its last second finishes with TIME at the new hall time. -/
theorem test_secondEvent_limit : ((after .secondEvent ticking).cand 0).map (fun c => (c.state, c.used, c.finish)) =
    some (.finished, 60, some ⟨.time, 1⟩) := by decide +kernel

/-- R76, R77: the last limit of an EXTENDED paper closes it, with its SEATED candidate ABSENT, counted and reported. -/
theorem test_limitReached_closes :
    (after (.limitReached 0) lastSecond).link.notices =
      [⟨1, 0, .paperState .extended .closed .lastFinish 0 0 0 1 0⟩] ∧
    ((after (.limitReached 0) lastSecond).paper 0).map (fun p => (p.state, p.coll.absent)) = some (.closed, 1) ∧
    ((after (.limitReached 0) lastSecond).cand 1).map (fun c => c.state) = some .absent := by decide +kernel

/-- R76: while a candidate of it stays active, the EXTENDED paper stays so. -/
theorem test_limitReached_stays :
    ((after (.limitReached 0) (hallOf six (pp .extended))).paper 0).map (fun p => p.state) = some .extended := by
  decide +kernel

/-- R89: the rest budget of 2 is reached, and the candidate writes again, its used unchanged by this event. -/
theorem test_secondEvent_rest : ((after .secondEvent ticking).cand 1).map (fun c => (c.state, c.restUsed, c.used)) =
    some (.writing, 2, 59) := by decide +kernel

/-- R75, R76: at base end with nobody active the paper closes, and its SEATED candidate is ABSENT. -/
theorem test_baseEnd_closes :
    ((after (.baseEnd 0) (hallOf [cd .seated (some 0)] { pp .writing with elapsed := 59 })).paper 0).map
      (fun p => (p.state, p.elapsed, p.coll.absent)) = some (.closed, 60, 1) := by decide +kernel

/-- R74: late entry closes at one more than the cutoff. -/
theorem test_lateEntryClose :
    ((after (.lateEntryClose 0) (hallOf [cd .seated (some 0)] { pp .writing with elapsed := 30 })).cand 0).map
      (fun c => c.state) = some .absent ∧
    ((after (.lateEntryClose 0) bothEnds).cand 0).map (fun c => c.state) = some .absent := by decide +kernel

/-- R14: at one second event candidate 1 finishes with TIME and candidate 0 becomes ABSENT; their traces ascend by index. -/
theorem test_secondEvent_traces :
    ((after .secondEvent (hallOf [{ cd .seated (some 0) with flags := { CandFlags.clear with watch := true } },
        { cd .writing (some 1) with flags := { CandFlags.clear with watch := true } }]
        { pp .writing with elapsed := 30 })).link.notices.map (fun n => n.subject)) = [0, 1] := by decide +kernel

/-- R14, R122: a walk from seat 1 to seat 0 passes over a FINISHED candidate at a FAULTY seat and then a WRITING one; the
COLLECT_SKIPPED comes first, then the traces in ascending index. -/
theorem test_walkStart_traces :
    let w : CandFlags := { CandFlags.clear with watch := true }
    let s := hallOf [{ cd .writing (some 0) with flags := w }, { cd .finished (some 1) with flags := w }]
      { Paper.new { df with walk := some ⟨0, 1, ⟨0, -1⟩, ⟨0, 0⟩, ⟨0, 0⟩, 2, 1, 1, false⟩ } with state := .writing }
    ((s.modSeat 1 (fun x => { x with state := .faulty })).startCollection 0 .baseEnd).link.notices.tail.map
      (fun n => (n.subject, match n.body with | .collectSkipped _ n _ _ _ _ => some n | _ => none)) =
      [(0, some 1), (0, none), (1, none), (0, none)] := by decide +kernel

/-- R161, R198: the worked sheet of chapter 9, whose ID block reaches from 48 to 275 and whose answer block from 336 to 463, as a
list of two (log 15). -/
theorem test_format_addresses :
    ({ fm with idBlock := ⟨48, 24, 2⟩, blocks := [⟨1, 6, 4, ⟨336, 2, 24⟩⟩] } : Format).addressBytes =
      [2, 0x00, 0x30, 0x01, 0x13, 0x01, 0x50, 0x01, 0xCF] := by decide +kernel

/-- R189: the data of FORMAT_READ begin with hall time. -/
theorem test_formatRead_time :
    (after (.formatRead 0x31 0) { hallOf six (pp .writing) with hallTime := 0x012345 }).link.inHand.map InHand.answer =
      some (.ok [0x01, 0x23, 0x45, 0]) := by decide +kernel

/-- R103, R36: the third miss in a row makes the ENABLED seat FAULTY and sets SEAT_FAULT. -/
theorem test_missedReply_third :
    ((after .missedReply (polled 0 2 (pp .closed))).seat 0).map (fun x => (x.state, x.fault)) =
      some (.faulty, some .noReply) ∧
    ((after .missedReply (polled 0 2 (pp .closed))).cand 0).map (fun c => c.flags.seatFault) = some true := by
  decide +kernel

/-- R103: the second miss does not. -/
theorem test_missedReply_second : ((after .missedReply (polled 0 1 (pp .closed))).seat 0).map (fun x => x.state) =
    some .enabled := by decide +kernel

/-- R102: three bytes that are no good reply leave the window open, and the miss is counted at its end. -/
theorem test_goodReply_bad :
    (after (.goodReply 0x00 0x02 0xFC) (polled 0 0 (pp .writing))).window = some ⟨0, false, true⟩ ∧
    ((after .missedReply (after (.goodReply 0x00 0x02 0xFC) (polled 0 0 (pp .writing)))).loop 0).map (fun r => r.misses) =
      some 1 := by decide +kernel

/-- R99: the end of the last seat's window begins the next pass. -/
theorem test_nextPass : (after .missedReply (polled 7 0 (pp .writing))).passList = [0, 1, 2, 3, 4, 5, 6, 7] := by
  decide +kernel

/-- R106: with debounce 2 a single active sample changes no conditioned state. -/
theorem test_goodReply_debounce :
    ((after (.goodReply 0x00 0x02 0xFD) (polled 0 0 (pp .writing))).loop 0).map (fun r => (r.doneIn.cond, r.doneIn.hist)) =
      some (.inactive, [true, false, false, false]) := by decide +kernel

/-- R114, R127: with one earlier active KEY sample, KEY at the target takes the script. -/
theorem test_goodReply_key :
    ((after (.goodReply 0x03 0x08 0xF4) { waitingAt3 with
        window := some ⟨3, false, false⟩
        loops := [(3, { lp with keyIn := ⟨[true, false, false, false], .inactive⟩ })] }).collection).map
      (fun e => (e.index, e.flags.walk)) = [(3, true)] := by decide +kernel

/-- R52 to R54: the first advance places candidate 0 at seat 0 of an empty hall. -/
theorem test_allocAdvance :
    ((after .allocAdvance { waitHall with job := some (someJob .general) }).cand 0).map (fun c => (c.state, c.seat)) =
      some (.seated, some 0) := by decide +kernel

/-- R33, R98: a removed seat is owed a closing poll. -/
theorem test_seatDefineRemove : (after (.seatDefineRemove 0 7) threeRows).closing = [7] ∧
    (after (.seatDefineRemove 0 7) threeRows).seat 7 = none := by decide +kernel

/-- R153: at the gate before a decision, the sheet is rejected with NO_DECISION, ahead of a queued GEOMETRY. -/
theorem test_atGate :
    ((after (.atGate 9) { bound (sr .stored (some 0)) with reader := { rd (sr .stored (some 0)) with
        tx := [.feed false, .geometry 7 2 20] } }).reader.tx.drop 1).take 2 =
      [.divert ⟨9, .reject .noDecision, some 0, none⟩, .geometry 7 2 20] := by decide +kernel

/-- R172, R176: a COLLECTED candidate's sheet is accepted. -/
theorem test_markingEnd :
    ((after .markingEnd (inHand [.resp 0, .resp 0, .resp 0, .resp 1, .resp 0, .resp 1] (cd .collected (some 0)))).cand 0).map
      (fun c => c.state) = some .markPending ∧
    ((after .markingEnd (inHand [.resp 0, .resp 0, .resp 0, .resp 1, .resp 0, .resp 1] (cd .collected (some 0)))).sheet 0).map
      (fun x => (x.state, x.decision)) = some (.decided, some .accept) := by decide +kernel

/-- R154, R177: the accepted sheet in the ACCEPT stacker commits the result. -/
theorem test_stacked_commit :
    ((after (.stacked 9 0) (accepted .diverted none)).cand 0).map (fun c => (c.state, c.result)) =
      some (.marked, some res) ∧
    (after (.stacked 9 0) (accepted .diverted none)).reader.records = [] := by decide +kernel

/-- R154, R144: in the other stacker it is lost, and the candidate is COLLECTED again. -/
theorem test_stacked_misrouted :
    ((after (.stacked 9 1) (accepted .diverted none)).cand 0).map (fun c => (c.state, c.result)) =
      some (.collected, none) := by decide +kernel

/-- R152, R158: a record decided at the gate and stacked while the marker reads it leaves the marker without it. -/
theorem test_stacked_marking :
    (match (after (.stacked 9 1) { accepted .diverted (some .noDecision) with
        marker := (inHand [] (cd .collected (some 0))).marker }).marker with
      | .marking j => j.same
      | .idle => true
      | .rescoring _ _ _ => true) = false := by decide +kernel

/-- The reset state with a notice being sent and a full Notice Queue. -/
def fullQueue : State :=
  { State.reset with link :=
    { State.reset.link with tx := .notice [], notices := List.replicate 64 ⟨0, 0, .holdBegin .line⟩ } }

/-- R195, R192: SESSION_CLEARED is queued after the reply is built, so its loss at a full queue shows in the next one. -/
theorem test_sessionClear_lost :
    (after (.sessionClear 0) fullQueue).link.lostNotice = true ∧
    (after (.sessionClear 0) fullQueue).link.inHand.map (fun r => r.status) = some 0 := by decide +kernel

/-- R149: a row of a wrong length spoils the record with GEOMETRY. -/
theorem test_row_spoiled : ((after (.row 9 0 [1]) (arriving 0 (some 0))).sheet 0).map (fun x => (x.spoil, x.rows)) =
    some (some .geometry, 1) := by decide +kernel

/-- R93, R96: the HOLD line holds the hall, and RESUME is refused while it is asserted. -/
theorem test_holdLine : (after .holdLineAsserted State.reset).hold = some .line ∧
    ((after (.resume 0) (after .holdLineAsserted State.reset)).link.inHand).map InHand.answer =
      some (.refused .state ⟨5, 0⟩) := by decide +kernel

/-- R182: a rescore takes the key as it stands. -/
theorem test_rescoreStep :
    ((after .rescoreStep { hallOf [{ cd .marked (some 0) with result := some res }]
          { mp .rescoring with key := [some ⟨2, 4, 1, 0⟩, some ⟨2, 4, 1, 0⟩], generation := 2 } with
        responses := [(0, [.resp 0, .blank])], marker := .rescoring 0 0 0 }).cand 0).map
      (fun c => c.result.map (fun r => (r.raw, r.generation, r.tag))) = some (some (-1, 2, 9)) := by decide +kernel
end Sys2Proof.Tests
end

section
/-! PROOF. What every step keeps, said once for each operation of the model: where both invariants hold of a state, they
hold of the state after it (R1, R2, R15, R26, R28, R137, R191).
-/

namespace Sys2Proof.Machine

/-! ### Tables whose records all pass a test -/

theorem Table.forall_modify {α : Type} {P : α → Prop} {n : Nat} {t : Table α} {k : Nat} {f : α → α}
    (hw : Table.wf n t = true) (h : ∀ e ∈ t, P e.2) (hf : ∀ v, Table.get t k = some v → P v → P (f v)) :
    ∀ e ∈ Table.modify t k f, P e.2 := by
  simp only [Table.modify, List.mem_map]
  rintro _ ⟨e, he, rfl⟩
  split
  next hk => exact hf e.2 (hk ▸ Table.get_of_mem hw he) (h e he)
  next => exact h e he

theorem Table.forall_mapAll {α : Type} {P : α → Prop} {t : Table α} {f : α → α}
    (h : ∀ e ∈ t, P e.2) (hf : ∀ v, P v → P (f v)) : ∀ e ∈ Table.mapAll t f, P e.2 := by
  simp only [Table.mapAll, List.mem_map]
  rintro _ ⟨e, he, rfl⟩
  exact hf e.2 (h e he)

theorem Table.forall_insert {α : Type} {P : α → Prop} {t : Table α} {k : Nat} {v : α}
    (h : ∀ e ∈ t, P e.2) (hv : P v) : ∀ e ∈ Table.insert t k v, P e.2 := by
  induction t with
  | nil => simpa [Table.insert] using hv
  | cons a t ih =>
    have ht : ∀ e ∈ t, P e.2 := fun e he => h e (List.mem_cons_of_mem _ he)
    have ha : P a.2 := h a List.mem_cons_self
    simp only [Table.insert]
    split_ifs
    · simpa [hv] using ⟨ha, fun i v => ht (i, v)⟩
    · simpa [hv] using fun i v => ht (i, v)
    · simpa [ha] using fun i v => ih ht (i, v)

theorem Table.forall_erase {α : Type} {P : α → Prop} {t : Table α} {k : Nat} (h : ∀ e ∈ t, P e.2) :
    ∀ e ∈ Table.erase t k, P e.2 :=
  fun e he => h e (List.mem_of_mem_filter he)

/-! ### The parts of the invariants that belong to one record, the reader and the link -/

/-- What a change of a candidate record from `c` to `d` keeps: its seat, whether it is UNSEATED, and the bound of its away
count. -/
structure Cand.Fits (c d : Cand) : Prop where
  seat : d.seat = c.seat
  unseated : d.state = .unseated ↔ c.state = .unseated
  away : c.awayCount ≤ Config.maxAway → d.awayCount ≤ Config.maxAway

theorem Cand.Fits.refl (c : Cand) : c.Fits c := ⟨rfl, Iff.rfl, id⟩

/-- A change from one state that holds a seat to another. -/
theorem Cand.Fits.of_seated {c d : Cand} (seat : d.seat = c.seat) (hc : c.state ≠ .unseated) (hd : d.state ≠ .unseated)
    (away : c.awayCount ≤ Config.maxAway → d.awayCount ≤ Config.maxAway) : c.Fits d :=
  ⟨seat, by simp [hc, hd], away⟩

/-- What a change of a seat keeps: its occupant, and an occupied seat does not become DISABLED. -/
structure Seat.Fits (x y : Seat) : Prop where
  occupant : y.occupant = x.occupant
  disabled : y.state = .disabled → x.state = .disabled ∨ x.occupant = none

/-- The bounds of the reader: its records and buffers are canonical, and the FIFO and the end order counter within their
sizes (R137, R143, R147). -/
structure Reader.Sound (r : Reader) : Prop where
  records : Table.wf Config.sheetRecords r.records = true
  buf0 : Mem.wf r.buf0.mem = true
  buf1 : Mem.wf r.buf1.mem = true
  fifo : r.fifo.length ≤ Config.fifoCapacity
  endCounter : r.endCounter < 256

/-- The bounds of the host link: the Notice Queue and the rate code (R191, R196). -/
structure Link.Sound (l : Link) : Prop where
  notices : l.notices.length ≤ Config.noticeCapacity
  rate : l.rate < 4

theorem State.Bounded.readerSound {s : State} (h : s.Bounded) : s.reader.Sound :=
  ⟨h.records, h.buf0, h.buf1, h.fifo, h.endCounter⟩

theorem State.Bounded.linkSound {s : State} (h : s.Bounded) : s.link.Sound := ⟨h.notices, h.rate⟩

/-! ### Agreement of seats and candidates under changes that seat nobody -/

/-- Candidates change, and each keeps its seat. -/
theorem State.SeatsAgree.of_cands {s t : State} (h : s.SeatsAgree) (hs : t.seats = s.seats)
    (hc : ∀ i, ∃ f : Cand → Cand, t.cand i = (s.cand i).map f ∧ ∀ c, s.cand i = some c → c.Fits (f c)) :
    t.SeatsAgree := by
  have hseat := State.seat_congr hs
  refine ⟨fun n x i hx hi => ?_, fun i d n hd hn => ?_, fun i d hd => ?_, fun n x hx => h.disabled n x (hseat n ▸ hx)⟩
  · obtain ⟨c, hc', hn⟩ := h.occupied n x i (hseat n ▸ hx) hi
    obtain ⟨f, hf, hfit⟩ := hc i
    exact ⟨f c, by rw [hf, hc']; rfl, (hfit c hc').seat.trans hn⟩
  · obtain ⟨f, hf, hfit⟩ := hc i
    obtain ⟨c, hc', rfl⟩ := Option.map_eq_some_iff.1 (hf ▸ hd)
    rw [hseat]
    exact h.seated i c n hc' ((hfit c hc').seat ▸ hn)
  · obtain ⟨f, hf, hfit⟩ := hc i
    obtain ⟨c, hc', rfl⟩ := Option.map_eq_some_iff.1 (hf ▸ hd)
    rw [(hfit c hc').unseated, (hfit c hc').seat]
    exact h.unseated i c hc'

/-- Seats change, and each keeps its occupant. -/
theorem State.SeatsAgree.of_seats {s t : State} (h : s.SeatsAgree) (hc : t.cands = s.cands)
    (hs : ∀ n, ∃ f : Seat → Seat, t.seat n = (s.seat n).map f ∧ ∀ x, s.seat n = some x → x.Fits (f x)) :
    t.SeatsAgree := by
  have hcand := State.cand_congr hc
  refine ⟨fun n y i hy hi => ?_, fun i c n hc' hn => ?_, fun i c hc' => h.unseated i c (hcand i ▸ hc'),
    fun n y hy hd => ?_⟩
  · obtain ⟨f, hf, hfit⟩ := hs n
    obtain ⟨x, hx, rfl⟩ := Option.map_eq_some_iff.1 (hf ▸ hy)
    rw [hcand]
    exact h.occupied n x i hx ((hfit x hx).occupant ▸ hi)
  · obtain ⟨f, hf, hfit⟩ := hs n
    obtain ⟨x, hx, ho⟩ := h.seated i c n (hcand i ▸ hc') hn
    exact ⟨f x, by rw [hf, hx]; rfl, (hfit x hx).occupant.trans ho⟩
  · obtain ⟨f, hf, hfit⟩ := hs n
    obtain ⟨x, hx, rfl⟩ := Option.map_eq_some_iff.1 (hf ▸ hy)
    rw [(hfit x hx).occupant]
    rcases (hfit x hx).disabled hd with hd | ho
    · exact h.disabled n x hx hd
    · exact ho

/-! ### The relation, and the updates of one part of the state -/

/-- Each of the two invariants holds of `t` where it holds of `s`. -/
structure State.Keeps (s t : State) : Prop where
  bounded : s.Bounded → t.Bounded
  agrees : s.SeatsAgree → t.SeatsAgree

variable {s t : State}

theorem State.Keeps.refl (s : State) : s.Keeps s := ⟨id, id⟩

theorem State.Keeps.trans {u : State} (h : s.Keeps t) (h' : t.Keeps u) : s.Keeps u :=
  ⟨h'.bounded ∘ h.bounded, h'.agrees ∘ h.agrees⟩

/-- A choice between two continuations. -/
theorem State.Keeps.ite {u : State} {p : Prop} [Decidable p] (ht : p → s.Keeps t) (hu : ¬ p → s.Keeps u) :
    s.Keeps (if p then t else u) := by
  split
  · exact ht ‹_›
  · exact hu ‹_›

theorem State.Keeps.foldl {α : Type} {f : State → α → State} (hf : ∀ t a, s.Keeps t → s.Keeps (f t a))
    (h : s.Keeps t) (l : List α) : s.Keeps (l.foldl f t) := by
  induction l generalizing t with
  | nil => exact h
  | cons a l ih => exact ih (hf t a h)

namespace State.Keeps

variable (h : s.Keeps t)
include h

theorem modCand (i : Nat) {f : Cand → Cand}
    (hf : ∀ c, t.cand i = some c → c.Fits (f c) := by exact fun _ _ => ⟨rfl, Iff.rfl, fun h => h⟩) :
    s.Keeps (t.modCand i f) := by
  refine ⟨fun b => ?_, fun a => (h.agrees a).of_cands rfl fun j => ?_⟩
  · have hb := h.bounded b
    exact { hb with
      cands := Table.wf_modify i f hb.cands
      away := Table.forall_modify hb.cands hb.away fun c hc => (hf c hc).away }
  · rw [State.modCand_cand]
    by_cases hj : j = i
    · exact ⟨f, by simp [hj], fun c hc => hf c (hj ▸ hc)⟩
    · exact ⟨id, by simp [hj], fun c _ => .refl c⟩

theorem mapCands (p : Nat) {f : Cand → Cand} (hf : ∀ c : Cand, c.Fits (f c)) : s.Keeps (t.mapCands p f) := by
  have hg : ∀ c : Cand, c.Fits (if c.paper = p then f c else c) := fun c => by
    split
    · exact hf c
    · exact Cand.Fits.refl c
  refine ⟨fun b => ?_, fun a => (h.agrees a).of_cands rfl fun j => ⟨_, State.mapCands_cand t p j f, fun c _ => hg c⟩⟩
  have hb := h.bounded b
  exact { hb with
    cands := Table.wf_mapAll (fun c : Cand => if c.paper = p then f c else c) hb.cands
    away := Table.forall_mapAll hb.away fun c => (hg c).away }

theorem modPaper (p : Nat) {f : Paper → Paper}
    (hf : ∀ q, q.coll.timer ≤ Config.maxTimeout → (f q).coll.timer ≤ Config.maxTimeout := by exact fun _ hq => hq) :
    s.Keeps (t.modPaper p f) := by
  refine ⟨fun b => ?_, fun a => { h.agrees a with }⟩
  have hb := h.bounded b
  exact { hb with
    papers := Table.wf_modify p f hb.papers
    timer := Table.forall_modify hb.papers hb.timer fun q _ => hf q }

theorem modColl (p : Nat) {f : Collecting → Collecting}
    (hf : ∀ k, k.timer ≤ Config.maxTimeout → (f k).timer ≤ Config.maxTimeout := by exact fun _ hk => hk) :
    s.Keeps (t.modColl p f) :=
  h.modPaper p fun q => hf q.coll

theorem insertPaper {p : Nat} {q : Paper} (hp : p < Config.slotCount) (hq : q.coll.timer ≤ Config.maxTimeout) :
    s.Keeps { t with papers := Table.insert t.papers p q } := by
  refine ⟨fun b => ?_, fun a => { h.agrees a with }⟩
  have hb := h.bounded b
  exact { hb with
    papers := Table.wf_insert q hp hb.papers
    timer := Table.forall_insert (P := fun q : Paper => q.coll.timer ≤ Config.maxTimeout) hb.timer hq }

theorem modSeat (n : Nat) {f : Seat → Seat} (hf : ∀ x, t.seat n = some x → x.Fits (f x)) : s.Keeps (t.modSeat n f) := by
  refine ⟨fun b => ?_, fun a => (h.agrees a).of_seats rfl fun m => ?_⟩
  · have hb := h.bounded b
    exact { hb with seats := Table.wf_modify n f hb.seats }
  · rw [State.modSeat_seat]
    by_cases hm : m = n
    · exact ⟨f, by simp [hm], fun x hx => hf x (hm ▸ hx)⟩
    · exact ⟨id, by simp [hm], fun x _ => ⟨rfl, .inl⟩⟩

theorem modLoop (n : Nat) {f : LoopRec → LoopRec}
    (hf : ∀ r, r.misses ≤ Config.maxMisses → (f r).misses ≤ Config.maxMisses := by exact fun _ hr => hr) :
    s.Keeps (t.modLoop n f) := by
  refine ⟨fun b => ?_, fun a => { h.agrees a with }⟩
  have hb := h.bounded b
  exact { hb with
    loops := Table.wf_modify n f hb.loops
    misses := Table.forall_modify hb.loops hb.misses fun r _ => hf r }

theorem withReader {r : Reader} (hr : t.reader.Sound → r.Sound) : s.Keeps { t with reader := r } :=
  ⟨fun b =>
    have hr := hr (h.bounded b).readerSound
    { h.bounded b with
      records := hr.records, buf0 := hr.buf0, buf1 := hr.buf1, fifo := hr.fifo, endCounter := hr.endCounter },
    fun a => { h.agrees a with }⟩

theorem modReader {f : Reader → Reader} (hf : t.reader.Sound → (f t.reader).Sound) : s.Keeps (t.modReader f) :=
  h.withReader hf

theorem withLink {l : Link} (hl : t.link.Sound → l.Sound) : s.Keeps { t with link := l } :=
  ⟨fun b =>
    have hl := hl (h.bounded b).linkSound
    { h.bounded b with notices := hl.notices, rate := hl.rate },
    fun a => { h.agrees a with }⟩

theorem withMarker (m : Marker) : s.Keeps { t with marker := m } :=
  ⟨fun b => { h.bounded b with }, fun a => { h.agrees a with }⟩

theorem withCollection (l : List CollEntry) : s.Keeps { t with collection := l } :=
  ⟨fun b => { h.bounded b with }, fun a => { h.agrees a with }⟩

theorem withJob (j : Option Job) : s.Keeps { t with job := j } :=
  ⟨fun b => { h.bounded b with }, fun a => { h.agrees a with }⟩

theorem withHold (c : Option HoldCause) : s.Keeps { t with hold := c } :=
  ⟨fun b => { h.bounded b with }, fun a => { h.agrees a with }⟩

theorem withHoldLine (b : Bool) : s.Keeps { t with holdLine := b } :=
  ⟨fun b => { h.bounded b with }, fun a => { h.agrees a with }⟩

theorem withHallTime {n : Nat} (hn : n ≤ Config.maxTime) : s.Keeps { t with hallTime := n } :=
  ⟨fun b => { h.bounded b with hallTime := hn }, fun a => { h.agrees a with }⟩

theorem withHoldElapsed {n : Nat} (hn : n ≤ Config.maxHold) : s.Keeps { t with holdElapsed := n } :=
  ⟨fun b => { h.bounded b with holdElapsed := hn }, fun a => { h.agrees a with }⟩

end State.Keeps

/-! ### Notices and their traces -/

theorem Link.Sound.push {l : Link} (h : l.Sound) (n : Notice) : (l.push n).Sound := by
  rcases l.push_cases n with ⟨hl, e⟩ | ⟨-, e⟩ <;> rw [e]
  · exact ⟨by simpa using hl, h.rate⟩
  · exact ⟨h.notices, h.rate⟩

namespace State.Keeps

theorem post (h : s.Keeps t) (n : Nat) (b : NoticeBody) : s.Keeps (t.post n b) := h.withLink fun hl => hl.push _

theorem traceChange (h : s.Keeps t) (i : Nat) (o n : Cand) (c : Cause) : s.Keeps (t.traceChange i o n c) :=
  .ite (fun _ => h.post ..) fun _ => h

theorem traceOne (h : s.Keeps t) (i : Nat) (o : Cand) (c : Cause) : s.Keeps (t.traceOne i o c) := by
  unfold State.traceOne
  split
  · exact h.traceChange ..
  · exact h

theorem traceAllBy (h : s.Keeps t) (b : Table Cand) (c : Cand → Cause) : s.Keeps (t.traceAllBy b c) := by
  refine .foldl (fun u e hu => ?_) h _
  split
  · exact hu.traceChange ..
  · exact hu

theorem traceAll (h : s.Keeps t) (b : Table Cand) (c : Cause) : s.Keeps (t.traceAll b c) := h.traceAllBy ..

theorem changeCand (h : s.Keeps t) (i : Nat) {f : Cand → Cand} (c : Cause)
    (hf : ∀ c, t.cand i = some c → c.Fits (f c)) : s.Keeps (t.changeCand i f c) := by
  unfold State.changeCand
  split
  · exact (h.modCand i hf).traceOne ..
  · exact h

theorem readerError (h : s.Keeps t) (r : ReaderErr) (k : Option Nat) (g : Nat) : s.Keeps (t.readerError r k g) :=
  h.post ..

end State.Keeps

end Sys2Proof.Machine
end

section
/-! PROOF. The candidate changes that fit both invariants, and that the Seat Map's and the Collection Unit's operations keep them
(R28, R97 to R99, R120 to R136).
-/

namespace Sys2Proof.Machine

variable {s t : State}

/-! ### Kept changes of a candidate record -/

theorem Cand.fits_setSeatFault (c : Cand) (b : Bool) : c.Fits (c.setSeatFault b) := ⟨rfl, Iff.rfl, id⟩

theorem Cand.fits_setCall (c : Cand) (b : Bool) : c.Fits (c.setCall b) := ⟨rfl, Iff.rfl, id⟩

theorem Cand.fits_setDeferred (c : Cand) : c.Fits c.setDeferred := ⟨rfl, Iff.rfl, id⟩

theorem Cand.fits_back (c : Cand) : c.Fits c.back := ⟨rfl, Iff.rfl, fun _ => Nat.zero_le _⟩

theorem Cand.fits_left (c : Cand) : c.Fits c.left := ⟨rfl, Iff.rfl, fun _ => Nat.zero_le _⟩

theorem Cand.fits_toAbsent (c : Cand) : c.Fits c.toAbsent := by
  unfold Cand.toAbsent
  split
  next h => exact .of_seated rfl (by simp [h]) (by simp) id
  next => exact .refl c

theorem Cand.fits_toMissing (c : Cand) : c.Fits c.toMissing := by
  unfold Cand.toMissing
  split
  next h => exact .of_seated rfl (by simp [h]) (by simp) id
  next => exact .refl c

theorem Cand.fits_returned (c : Cand) : c.Fits c.returned := by
  unfold Cand.returned
  split
  next h => exact .of_seated rfl (by simp [h]) (by simp) id
  next => exact .refl c

/-- An active candidate has a seat (R2). -/
theorem CandState.ne_unseated_of_active {c : CandState} (h : c.active = true) : c ≠ .unseated := by
  rintro rfl
  simp [CandState.active] at h

theorem Cand.fits_toFinished {c : Cand} (r : FinishReason) (n : Nat) (h : c.state ≠ .unseated) :
    c.Fits (c.toFinished r n) :=
  .of_seated rfl h (by simp [Cand.toFinished]) fun _ => Nat.zero_le _

theorem Cand.fits_abandoned (n : Nat) (c : Cand) : c.Fits (c.abandoned n) := by
  unfold Cand.abandoned
  split
  next h => exact Cand.fits_toFinished _ _ (CandState.ne_unseated_of_active h)
  next => exact c.fits_toAbsent

theorem Cand.fits_started (n : Nat) (c : Cand) : c.Fits (c.started n) := by
  unfold Cand.started
  split
  next h =>
    have hs : c.state = .seated := by simp_all [Cand.atDesk]
    exact .of_seated rfl (by simp [hs]) (by dsimp only; split <;> simp) id
  next => exact .refl c

/-! ### The Seat Map and the seat loop's lists (R97 to R99) -/

namespace State.Keeps

variable (h : s.Keeps t)
include h

theorem nextPass : s.Keeps t.nextPass :=
  .ite (fun _ => ⟨fun b => { h.bounded b with }, fun a => { h.agrees a with }⟩) fun _ => h

theorem endWindow : s.Keeps t.endWindow := by
  refine nextPass ⟨fun b => { h.bounded b with sweep := fun n hn => ?_ }, fun a => { h.agrees a with }⟩
  dsimp only at hn
  split at hn
  · cases hn
  · exact (h.bounded b).sweep n hn

theorem insertLoop {n : Nat} (hn : s.Bounded → n < Config.indexCount) :
    s.Keeps { t with loops := Table.insert t.loops n LoopRec.new } := by
  refine ⟨fun b => ?_, fun a => { h.agrees a with }⟩
  have hb := h.bounded b
  exact { hb with
    loops := Table.wf_insert LoopRec.new (hn b) hb.loops
    misses := Table.forall_insert (P := fun r : LoopRec => r.misses ≤ Config.maxMisses) hb.misses (Nat.zero_le _) }

theorem joinLoop {n : Nat} (hn : n < Config.indexCount) : s.Keeps (t.joinLoop n) := by
  have hl := h.insertLoop fun _ => hn
  exact nextPass ⟨fun b => { hl.bounded b with }, fun a => { hl.agrees a with }⟩

theorem leaveLoop (n : Nat) : s.Keeps (t.leaveLoop n) := by
  refine nextPass ⟨fun b => ?_, fun a => { h.agrees a with }⟩
  have hb := h.bounded b
  exact { hb with loops := Table.wf_erase n hb.loops, misses := Table.forall_erase (P := fun r : LoopRec => r.misses ≤ Config.maxMisses) hb.misses }

theorem freshTakes : s.Keeps t.freshTakes := by
  refine ⟨fun b => ?_, fun a => { h.agrees a with }⟩
  have hb := h.bounded b
  refine { hb with loops := ?_, misses := ?_ }
  · have hk : Table.keys t.freshTakes.loops = Table.keys t.loops := by
      simp only [State.freshTakes, Table.keys, List.map_map]
      refine List.map_congr_left fun e _ => ?_
      simp only [Function.comp]
      split
      · split <;> rfl
      · rfl
    simpa only [Table.wf, hk] using hb.loops
  · simp only [State.freshTakes, List.mem_map]
    rintro _ ⟨e, he, rfl⟩
    split
    · split <;> exact hb.misses e he
    · exact hb.misses e he

theorem clearMisses (n : Nat) : s.Keeps (t.clearMisses n) := h.modLoop n fun _ _ => Nat.zero_le _

theorem clearFault (n : Nat) (x : Seat) : s.Keeps (t.clearFault n x) := by
  have hl := (h.modSeat n fun x _ => Seat.Fits.mk (y := { x with state := .enabled, fault := none }) rfl (by simp)).modLoop n
    (f := fun r => { r.toFresh with misses := 0 }) fun _ _ => Nat.zero_le _
  unfold State.clearFault
  split
  · exact hl.changeCand _ _ fun c _ => c.fits_setSeatFault false
  · exact hl

/-! ### The Collection Unit (R120 to R136) -/

theorem setTarget (p n : Nat) : s.Keeps (t.setTarget p n) := h.modColl p fun _ _ => Nat.zero_le _

theorem resolveTarget (p : Nat) : s.Keeps (t.resolveTarget p) := h.modColl p fun _ _ => Nat.zero_le _

theorem passOver (i n : Nat) (b : Bool) (ps : List Passed) : s.Keeps (t.passOver i n b ps).1 := by
  unfold State.passOver
  split
  · exact h.modCand i fun c _ => c.fits_setDeferred
  · exact h

omit h in
theorem walkOn (slot fuel : Nat) (r : State × List Passed) (h : s.Keeps r.1) : s.Keeps (State.walkOn slot fuel r).1 := by
  induction fuel generalizing r with
  | zero => exact h
  | succ fuel ih =>
    have hc : ∀ cursor, s.Keeps (r.1.modColl slot fun c => { c with cursor := cursor }) := fun _ => h.modColl slot
    unfold State.walkOn
    split
    · exact h
    · split
      · exact h
      · dsimp only
        split
        · exact hc _
        · split
          · exact (hc _).setTarget ..
          · exact ih _ (hc _)
          · exact ih _ ((hc _).passOver ..)
          · exact ih _ ((hc _).passOver ..)

theorem findTarget (slot : Nat) : s.Keeps (t.findTarget slot).1 := walkOn slot _ (t, []) h

theorem postSkip (slot : Nat) (p : Passed) : s.Keeps (t.postSkip slot p) := .ite (fun _ => h.post ..) fun _ => h

theorem postPassed (slot : Nat) (ps : List Passed) : s.Keeps (t.postPassed slot ps) :=
  .foldl (fun _ p hu => (hu.postSkip slot p).traceOne ..) h ps

theorem postDeferred (slot : Nat) (b : Table Cand) (ps : List Passed) : s.Keeps (t.postDeferred slot b ps) :=
  (foldl (fun _ p hu => hu.postSkip slot p) h ps).traceAll ..

theorem setColl (slot : Nat) (new : CollState) (c : CollCause) : s.Keeps (t.setColl slot new c) := by
  unfold State.setColl
  split
  · exact h
  · exact .ite (fun _ => h) fun _ => (h.modColl slot).post ..

theorem settle (slot : Nat) (c : CollCause) : s.Keeps (t.settle slot c) := by
  unfold State.settle
  split
  · exact h
  · exact .ite (fun _ => h.setColl ..) fun _ => h.setColl ..

theorem startCollection (slot : Nat) (c : CollCause) : s.Keeps (t.startCollection slot c) := by
  unfold State.startCollection
  split
  · exact h
  · exact .ite (fun _ => h) fun _ => ((h.findTarget slot).postDeferred ..).settle ..

theorem skipTarget (slot : Nat) (r : SkipReason) : s.Keeps (t.skipTarget slot r) := by
  unfold State.skipTarget
  split
  · exact h
  next n hn =>
  split
  · exact h
  next i hi =>
  split
  · exact h
  · have hd := (h.modCand i fun c _ => c.fits_setDeferred).resolveTarget slot
    exact (((hd.findTarget slot).post ..).postDeferred ..).settle ..

theorem tickTarget (slot : Nat) : s.Keeps (t.tickTarget slot) := by
  unfold State.tickTarget
  split
  · exact h
  · have ht := h.modColl slot (f := fun c => { c with timer := min (c.timer + 1) Config.maxTimeout })
      fun _ _ => Nat.min_le_right ..
    exact .ite (fun _ => h) fun _ => .ite (fun _ => ht.skipTarget ..) fun _ => ht

theorem recordScript (i : Nat) (c : Cand) (f : EntryFlags) (hc : t.cand i = some c) (hs : c.state ≠ .unseated) :
    s.Keeps (t.recordScript i c f) := by
  refine ((h.modCand i fun d hd => ?_).modColl c.paper).withCollection _
  obtain rfl : c = d := Option.some.inj (hc.symm.trans hd)
  exact .of_seated rfl hs (by simp) id

theorem takeScript (i : Nat) (how : Taking) (cause : Cause) : s.Keeps (t.takeScript i how cause) := by
  unfold State.takeScript
  split
  · exact h
  next c hc =>
  split
  · exact h
  next p _ =>
  refine .ite (fun _ => h) fun hst => ?_
  have hr : s.Keeps (t.recordScript i c (entryFlags p c how)) := h.recordScript i c _ hc (by
    rintro he
    simp [he] at hst)
  have hw : ∀ r : State × List Passed, s.Keeps r.1 → ∀ x y,
      s.Keeps (((r.1.post x y).traceOne i c cause).postPassed c.paper r.2) :=
    fun r hr' x y => ((hr'.post ..).traceOne ..).postPassed ..
  cases p.coll.target.isSome && Decidable.decide (p.coll.target = c.seat) with
  | true => exact (hw _ ((hr.resolveTarget _).findTarget _) ..).settle ..
  | false =>
    have hw := hw (t.recordScript i c (entryFlags p c how), []) hr
    simp only [Bool.false_eq_true, if_false]
    exact .ite (fun _ => (hw ..).settle ..) fun _ => hw ..

theorem closeCollection (slot : Nat) : s.Keeps (t.closeCollection slot) :=
  (((h.mapCands slot Cand.fits_toMissing).modColl slot fun _ _ => Nat.zero_le _).traceAll ..).setColl ..

end State.Keeps
end Sys2Proof.Machine
end

section
/-! PROOF. The Session Timer's operations keep both invariants (R67 to R96).
-/

namespace Sys2Proof.Machine

variable {s t : State}

namespace State.Keeps

variable (h : s.Keeps t)
include h

/-! ### The Session Timer (R67 to R96) -/

theorem postPaperState (p : Nat) (x : PaperState) (c : PaperCause) : s.Keeps (t.postPaperState p x c) := by
  unfold State.postPaperState
  split
  · exact h
  · exact h.post ..

theorem setPaperState (p : Nat) (x : PaperState) : s.Keeps (t.setPaperState p x) := h.modPaper p

theorem makeAbsent (p : Nat) : s.Keeps (t.makeAbsent p) := (h.mapCands p Cand.fits_toAbsent).modColl p

theorem closePaper (p : Nat) : s.Keeps (t.closePaper p) := ((h.makeAbsent p).setPaperState ..).postPaperState ..

theorem closeIfDone (p : Nat) (c : Cause) : s.Keeps (t.closeIfDone p c) :=
  .ite (fun _ => (h.closePaper p).traceAll ..) fun _ => h

theorem finishCand (i : Nat) (r : FinishReason) (cause : Cause) : s.Keeps (t.finishCand i r cause) := by
  unfold State.finishCand
  split
  · exact h
  next c hc =>
  refine .ite (fun _ => h) fun ha => (h.changeCand i cause fun d hd => ?_).closeIfDone ..
  obtain rfl : c = d := Option.some.inj (hc.symm.trans hd)
  exact Cand.fits_toFinished _ _ (CandState.ne_unseated_of_active (by simpa using ha))

theorem countAdmitted (p n : Nat) : s.Keeps (t.countAdmitted p n) := h.modColl p

theorem admitCand (i : Nat) (cause : Cause) : s.Keeps (t.admitCand i cause) := by
  have hcount : ∀ c : Cand, t.cand i = some c → c.state = .seated → ∀ f : Cand → Cand,
      (f c).seat = c.seat → (f c).state ≠ .unseated → (f c).awayCount = c.awayCount →
      s.Keeps ((t.countAdmitted c.paper 1).changeCand i f cause) := fun c hc hs f hseat hst ha => by
    refine (h.countAdmitted c.paper 1).changeCand i cause fun d hd => ?_
    obtain rfl : c = d := Option.some.inj (hc.symm.trans hd)
    exact .of_seated hseat (by simp [hs]) hst ha.le.trans
  unfold State.admitCand
  split
  · exact h
  next c hc =>
  split
  · exact h
  refine .ite (fun _ => h) fun hs => ?_
  have hcount := hcount c hc (by simpa using hs)
  split
  · exact hcount _ rfl (by simp) rfl
  · exact .ite (fun _ => (hcount (Cand.admittedLate _) rfl (by simp [Cand.admittedLate]) rfl).finishCand ..)
      fun _ => hcount (Cand.admittedLate _) rfl (by simp [Cand.admittedLate]) rfl
  · exact .ite (fun _ => (hcount (Cand.admittedLate _) rfl (by simp [Cand.admittedLate]) rfl).finishCand ..)
      fun _ => hcount (Cand.admittedLate _) rfl (by simp [Cand.admittedLate]) rfl
  all_goals exact h

theorem startRecords (p : Nat) (c : PaperCause) : s.Keeps (t.startRecords p c) := by
  unfold State.startRecords
  split
  · exact h
  · exact ((h.mapCands p (Cand.fits_started _)).modPaper p).postPaperState ..

theorem startPaper (p : Nat) (c : PaperCause) : s.Keeps (t.startPaper p c) := (h.startRecords p c).traceAll ..

theorem runScheduledStart (p : Nat) : s.Keeps (t.runScheduledStart p) :=
  .ite (fun _ => h.startPaper ..) fun _ => h

theorem scheduledRecords : s.Keeps t.scheduledRecords := foldl (fun _ p hu => hu.startRecords p _) h _

theorem runScheduled : s.Keeps t.runScheduled := h.scheduledRecords.traceAll ..

theorem abandonRecords (p : Nat) (c : PaperCause) : s.Keeps (t.abandonRecords p c) := by
  unfold State.abandonRecords
  split
  · exact h
  · exact (((h.mapCands p (Cand.fits_abandoned _)).modColl p).setPaperState ..).postPaperState ..

theorem abandonPaper (p : Nat) : s.Keeps (t.abandonPaper p) := (h.abandonRecords ..).traceAll ..

theorem presentRise (i : Nat) : s.Keeps (t.presentRise i) := by
  unfold State.presentRise
  split
  · exact h
  split
  · exact h.admitCand ..
  · split
    case h_1 | h_2 | h_3 => exact h.post ..
    all_goals exact h
  · exact .ite (fun _ => h.changeCand i _ fun c _ => c.fits_back) fun _ => h

theorem presentFall (i : Nat) : s.Keeps (t.presentFall i) := by
  unfold State.presentFall
  split
  · exact h
  · exact .ite (fun _ => h.changeCand i _ fun c _ => c.fits_left) fun _ => h

theorem leaveRequest (i : Nat) : s.Keeps (t.leaveRequest i) := by
  unfold State.leaveRequest
  split
  · exact h
  split
  · exact h
  refine .ite (fun _ => h) fun _ => ?_
  split
  · exact h.post ..
  · exact h.finishCand ..

/-- A rest begins or ends: a candidate with a seat moves between WRITING and RESTING (R88, R89). -/
theorem changeState (i : Nat) (cause : Cause) {c : Cand} (hc : t.cand i = some c) (hs : c.state ≠ .unseated)
    {new : CandState} (hn : new ≠ .unseated) : s.Keeps (t.changeCand i (fun x => { x with state := new }) cause) := by
  refine h.changeCand i cause fun d hd => ?_
  obtain rfl : c = d := Option.some.inj (hc.symm.trans hd)
  exact .of_seated rfl hs hn id

theorem beginHold (c : HoldCause) : s.Keeps (t.beginHold c) :=
  ((h.withHold (some c)).withHoldElapsed (Nat.zero_le _)).post ..

theorem holdAsserted : s.Keeps t.holdAsserted :=
  .ite (fun _ => h) fun _ => .ite (fun _ => (h.withHoldLine true).beginHold _) fun _ => h.withHoldLine true

theorem holdReleased : s.Keeps t.holdReleased := h.withHoldLine false

theorem expireHold (c : HoldCause) : s.Keeps (t.expireHold c) :=
  foldl (fun _ p hu => hu.startCollection p _)
    (((foldl (fun _ p hu => hu.abandonRecords p _) (h.post ..) _).withHold none).scheduledRecords.traceAllBy ..) _

theorem tickClock (i : Nat) : s.Keeps (t.tickClock i) := by
  unfold State.tickClock
  split
  · exact h
  next c hc =>
  split
  next hs =>
    refine .ite (fun _ => .ite (fun _ => ?_) fun _ => h.modCand i) fun _ => h
    refine (h.modCand i).modCand i fun d hd => Cand.fits_toFinished _ _ ?_
    simp only [State.modCand_cand, hc, if_true, Option.map_some, Option.some.injEq] at hd
    simp [← hd, hs]
  next hs =>
    refine .ite (fun _ => post (modCand (h.modCand i) i fun d hd => ?_) _ _) fun _ => h.modCand i
    simp only [State.modCand_cand, hc, if_true, Option.map_some, Option.some.injEq] at hd
    exact .of_seated rfl (by simp [← hd, hs]) (by simp) id
  all_goals exact h

theorem tickAway (i : Nat) : s.Keeps (t.tickAway i) := by
  unfold State.tickAway
  split
  · exact h
  next c _ =>
  have hm : s.Keeps (t.modCand i fun x => { x with awayCount := min (c.awayCount + 1) Config.maxAway }) :=
    h.modCand i fun _ _ => ⟨rfl, Iff.rfl, fun _ => Nat.min_le_right ..⟩
  exact .ite (fun _ => h) fun _ => .ite (fun _ => (hm.modCand i).post ..) fun _ => hm

theorem tickCand (i : Nat) : s.Keeps (t.tickCand i) := (h.tickClock i).tickAway i

theorem endReading (p : Nat) : s.Keeps (t.endReading p) := by
  refine ((h.mapCands p fun c => ?_).modPaper p).postPaperState ..
  split
  next hs => exact .of_seated rfl (by simp [hs]) (by simp) id
  next => exact .refl c

theorem endBase (p : Nat) : s.Keeps (t.endBase p) := ((h.makeAbsent p).setPaperState ..).postPaperState ..

theorem tickPaper (p : Nat) : s.Keeps (t.tickPaper p) := by
  unfold State.tickPaper
  split
  · exact h
  split
  · exact .ite (fun _ => h.endReading p) fun _ => h.modPaper p
  · exact .ite (fun _ => (h.modPaper p).endBase p) fun _ =>
      .ite (fun _ => (h.modPaper p).makeAbsent p) fun _ => h.modPaper p
  all_goals exact h

theorem tickCollection (b : State) (p : Nat) : s.Keeps (b.tickCollection t p) :=
  .ite (fun _ => h.startCollection ..) fun _ => h.tickTarget p

theorem tickRecords : s.Keeps t.tickRecords :=
  (foldl (fun _ p hu => hu.tickPaper p) (foldl (fun _ i hu => hu.tickCand i) h _) _).scheduledRecords

theorem closeFinished (b : State) : s.Keeps (b.closeFinished t) :=
  (foldl (fun _ p hu => hu.closePaper p) h _).traceAll ..

theorem runSecond : s.Keeps t.runSecond :=
  foldl (fun _ p hu => hu.tickCollection t p) ((h.tickRecords.traceAllBy ..).closeFinished t) _

theorem heldSecond (c : HoldCause) : s.Keeps (t.heldSecond c) := by
  have hm := h.withHoldElapsed (Nat.min_le_right (t.holdElapsed + 1) Config.maxHold)
  exact .ite (fun _ => hm.expireHold c) fun _ => hm

theorem secondEvent : s.Keeps t.secondEvent := by
  have hm := h.withHallTime (Nat.min_le_right (t.hallTime + 1) Config.maxTime)
  unfold State.secondEvent
  split
  · exact hm.heldSecond _
  · exact hm.runSecond

theorem secondIf (b : Bool) : s.Keeps (t.secondIf b) := .ite (fun _ => h.secondEvent) fun _ => h

end State.Keeps
end Sys2Proof.Machine
end

section
/-! PROOF. Seating and unseating keep both invariants, and so do the Candidate Table and the Allocation Engine (R1, R2, R8 to R11,
R28, R48 to R66).
-/

namespace Sys2Proof.Machine

variable {s t : State}

/-! ### Agreement where somebody is seated or unseated (R2, R28) -/

/-- The seat numbered `n` after candidate `i` has gone from seat `old` to seat `new`. -/
def Seat.reseat (i : Nat) (old new : Option Nat) (n : Nat) (x : Seat) : Seat :=
  { x with occupant := if new = some n then some i else if old = some n then none else x.occupant }

@[simp] theorem Seat.reseat_new (i n : Nat) (old : Option Nat) :
    Seat.reseat i old (some n) n = fun x => { x with occupant := some i } := by
  funext x
  simp [Seat.reseat]

theorem Seat.reseat_old {i n : Nat} {new : Option Nat} (h : new ≠ some n) :
    Seat.reseat i (some n) new n = fun x => { x with occupant := none } := by
  funext x
  simp [Seat.reseat, h]

theorem Seat.reseat_other {i n : Nat} {old new : Option Nat} (ho : old ≠ some n) (hn : new ≠ some n) :
    Seat.reseat i old new n = id := by
  funext x
  simp [Seat.reseat, ho, hn]

/-- Candidate `i` takes the record `d`: it leaves the seat it had, and sits at the seat `d` names, which was free. This is what
CAND_ADD, a placement, MOVE and UNSEAT do to the records (R10, R54, R63, R65). -/
theorem State.SeatsAgree.reseat (h : s.SeatsAgree) {i : Nat} {d : Cand}
    (hcand : ∀ j, t.cand j = if j = i then some d else s.cand j)
    (hseat : ∀ n, t.seat n = (s.seat n).map (Seat.reseat i ((s.cand i).bind Cand.seat) d.seat n))
    (hd : d.state = .unseated ↔ d.seat = none)
    (hfree : ∀ n, d.seat = some n → ∃ x, s.seat n = some x ∧ x.occupant = none ∧ x.state ≠ .disabled) :
    t.SeatsAgree := by
  refine ⟨fun n y j hy hj => ?_, fun j e n he hn => ?_, fun j e he => ?_, fun n y hy hdis => ?_⟩
  · rw [hseat] at hy
    obtain ⟨x, hx, rfl⟩ := Option.map_eq_some_iff.1 hy
    simp only [Seat.reseat] at hj
    rw [hcand]
    split_ifs at hj with h1 h2
    · obtain rfl : i = j := Option.some.inj hj
      exact ⟨d, if_pos rfl, h1⟩
    · obtain ⟨c, hc, hn⟩ := h.occupied n x j hx hj
      have hji : j ≠ i := by
        rintro rfl
        exact h2 (by simp [hc, hn])
      exact ⟨c, by rw [if_neg hji, hc], hn⟩
  · rw [hcand] at he
    rw [hseat]
    split_ifs at he with hji
    · obtain rfl : d = e := Option.some.inj he
      obtain ⟨x, hx, -, -⟩ := hfree n hn
      exact ⟨_, by rw [hx]; rfl, by simp [Seat.reseat, hn, hji]⟩
    · obtain ⟨x, hx, ho⟩ := h.seated j e n he hn
      have h1 : d.seat ≠ some n := fun h1 => by
        obtain ⟨x', hx', ho', -⟩ := hfree n h1
        obtain rfl : x = x' := Option.some.inj (hx.symm.trans hx')
        simp [ho] at ho'
      have h2 : (s.cand i).bind Cand.seat ≠ some n := fun h2 => by
        obtain ⟨c, hc, hcn⟩ := Option.bind_eq_some_iff.1 h2
        obtain ⟨x', hx', ho'⟩ := h.seated i c n hc hcn
        obtain rfl : x = x' := Option.some.inj (hx.symm.trans hx')
        exact hji (Option.some.inj (ho.symm.trans ho'))
      exact ⟨_, by rw [hx]; rfl, by simp [Seat.reseat, h1, h2, ho]⟩
  · rw [hcand] at he
    split_ifs at he
    · exact Option.some.inj he ▸ hd
    · exact h.unseated j e he
  · rw [hseat] at hy
    obtain ⟨x, hx, rfl⟩ := Option.map_eq_some_iff.1 hy
    have hno := h.disabled n x hx hdis
    have h1 : d.seat ≠ some n := fun h1 => by
      obtain ⟨x', hx', -, hne⟩ := hfree n h1
      obtain rfl : x = x' := Option.some.inj (hx.symm.trans hx')
      exact hne hdis
    simp [Seat.reseat, h1, hno]

/-- A candidate without a seat leaves the table (R11). -/
theorem State.SeatsAgree.eraseCand (h : s.SeatsAgree) {i : Nat} {c : Cand} (hc : s.cand i = some c)
    (hs : c.state = .unseated) : ({ s with cands := Table.erase s.cands i } : State).SeatsAgree := by
  have hno : c.seat = none := (h.unseated i c hc).1 hs
  have hcand : ∀ j, ({ s with cands := Table.erase s.cands i } : State).cand j = if j = i then none else s.cand j :=
    fun j => Table.get_erase s.cands i j
  refine ⟨fun n x j hx hj => ?_, fun j e n he hn => ?_, fun j e he => ?_, h.disabled⟩
  · obtain ⟨e, he, hn⟩ := h.occupied n x j hx hj
    refine ⟨e, ?_, hn⟩
    rw [hcand, if_neg, he]
    rintro rfl
    obtain rfl : c = e := Option.some.inj (hc.symm.trans he)
    simp [hno] at hn
  · rw [hcand] at he
    split_ifs at he
    exact h.seated j e n he hn
  · rw [hcand] at he
    split_ifs at he
    exact h.unseated j e he

/-- An unoccupied seat enters the map, at a number that had none (R32). -/
theorem State.SeatsAgree.insertSeat (h : s.SeatsAgree) {n : Nat} {y : Seat} (hn : s.seat n = none)
    (hy : y.occupant = none) : ({ s with seats := Table.insert s.seats n y } : State).SeatsAgree := by
  have hseat : ∀ m, ({ s with seats := Table.insert s.seats n y } : State).seat m = if m = n then some y else s.seat m :=
    fun m => Table.get_insert s.seats n y m
  refine ⟨fun m x j hx hj => ?_, fun j e m he hm => ?_, h.unseated, fun m x hx hd => ?_⟩
  · rw [hseat] at hx
    split_ifs at hx
    · rw [← Option.some.inj hx, hy] at hj
      cases hj
    · exact h.occupied m x j hx hj
  · obtain ⟨x, hx, ho⟩ := h.seated j e m he hm
    refine ⟨x, ?_, ho⟩
    rw [hseat, if_neg, hx]
    rintro rfl
    simp [hn] at hx
  · rw [hseat] at hx
    split_ifs at hx
    · rw [← Option.some.inj hx, hy]
    · exact h.disabled m x hx hd

/-- An unoccupied seat leaves the map (R33). -/
theorem State.SeatsAgree.eraseSeat (h : s.SeatsAgree) {n : Nat} {y : Seat} (hn : s.seat n = some y)
    (hy : y.occupant = none) : ({ s with seats := Table.erase s.seats n } : State).SeatsAgree := by
  have hseat : ∀ m, ({ s with seats := Table.erase s.seats n } : State).seat m = if m = n then none else s.seat m :=
    fun m => Table.get_erase s.seats n m
  refine ⟨fun m x j hx hj => ?_, fun j e m he hm => ?_, h.unseated, fun m x hx hd => ?_⟩
  · rw [hseat] at hx
    split_ifs at hx
    exact h.occupied m x j hx hj
  · obtain ⟨x, hx, ho⟩ := h.seated j e m he hm
    refine ⟨x, ?_, ho⟩
    rw [hseat, if_neg, hx]
    rintro rfl
    obtain rfl : y = x := Option.some.inj (hn.symm.trans hx)
    simp [hy] at ho
  · rw [hseat] at hx
    split_ifs at hx
    exact h.disabled m x hx hd

/-- What a seat that passes MOVE's target checks is: ENABLED and free (R61, R62). -/
theorem State.seat_of_targetFailure_none {n slot : Nat} {m : Separation} {a : Bool} {own : Option Nat}
    (h : s.targetFailure n slot m a own = none) :
    ∃ x, s.seat n = some x ∧ x.occupant = none ∧ x.state ≠ .disabled := by
  unfold State.targetFailure at h
  split at h
  · cases h
  next x hx =>
  by_cases he : x.state = .enabled
  · simp only [he, ne_eq, not_true_eq_false, if_false] at h
    split at h
    · cases h
    next ho => exact ⟨x, hx, ho, by simp [he]⟩
  · simp [he] at h

/-- Whom a placement seats, and where: an UNSEATED candidate at a free ENABLED seat (R51, R52). -/
theorem State.placeable_some {j : Job} {n i : Nat} {c : Cand} (h : s.placeable j n = some (i, c)) :
    s.cand i = some c ∧ c.state = .unseated ∧ ∃ x, s.seat n = some x ∧ x.occupant = none ∧ x.state = .enabled := by
  unfold State.placeable at h
  split at h
  next x k ks hx hw =>
    split at h
    next d hd =>
      split_ifs at h with he
      simp only [Option.some.injEq, Prod.mk.injEq] at h
      obtain ⟨rfl, rfl⟩ := h
      simp only [Job.eligible, Bool.and_eq_true, decide_eq_true_eq, Option.isNone_iff_eq_none] at he
      obtain ⟨⟨⟨⟨hen, hfree⟩, -⟩, -⟩, hs⟩ := he
      exact ⟨hd, hs, x, hx, hfree, hen⟩
    next => cases h
  next => cases h

/-! ### The bounds where a record enters or leaves the tables -/

theorem State.Bounded.insertCand (h : s.Bounded) {i : Nat} {c : Cand} (hi : i < Config.indexCount)
    (hc : c.awayCount ≤ Config.maxAway) : ({ s with cands := Table.insert s.cands i c } : State).Bounded :=
  { h with
    cands := Table.wf_insert c hi h.cands
    away := Table.forall_insert (P := fun c : Cand => c.awayCount ≤ Config.maxAway) h.away hc }

theorem State.Bounded.eraseCand (h : s.Bounded) (i : Nat) :
    ({ s with cands := Table.erase s.cands i } : State).Bounded :=
  { h with
    cands := Table.wf_erase i h.cands
    away := Table.forall_erase (P := fun c : Cand => c.awayCount ≤ Config.maxAway) h.away }

theorem State.Bounded.modCand (h : s.Bounded) (i : Nat) {f : Cand → Cand}
    (hf : ∀ c, c.awayCount ≤ Config.maxAway → (f c).awayCount ≤ Config.maxAway := by exact fun _ h => h) :
    (s.modCand i f).Bounded :=
  { h with
    cands := Table.wf_modify i f h.cands
    away := Table.forall_modify (P := fun c : Cand => c.awayCount ≤ Config.maxAway) h.cands h.away fun c _ => hf c }

theorem State.Bounded.modSeat (h : s.Bounded) (n : Nat) (f : Seat → Seat) : (s.modSeat n f).Bounded :=
  { h with seats := Table.wf_modify n f h.seats }

/-- The record read at `j` after a change of the one at `i`. -/
theorem State.modCand_cand_some {i : Nat} {c : Cand} (hc : s.cand i = some c) (f : Cand → Cand) (j : Nat) :
    (s.modCand i f).cand j = if j = i then some (f c) else s.cand j := by
  rw [State.modCand_cand]
  split
  next hj => rw [hj, hc]; rfl
  next => rfl

namespace State.Keeps

variable (h : s.Keeps t)
include h

/-! ### Candidates (R8 to R11) -/

theorem addCand {i : Nat} {c : Cand} (hi : i < Config.indexCount) (hfree : t.cand i = none)
    (haway : c.awayCount ≤ Config.maxAway) (hst : c.state = .unseated ↔ c.seat = none)
    (hseat : ∀ n, c.seat = some n → ∃ x, t.seat n = some x ∧ x.occupant = none ∧ x.state ≠ .disabled) :
    s.Keeps (t.addCand i c) := by
  refine h.trans ⟨fun hb => ?_, fun ha => ha.reseat (i := i) (d := c) (fun j => ?_) (fun n => ?_) hst hseat⟩
  · unfold State.addCand
    split
    · exact (hb.insertCand hi haway).modSeat _ _
    · exact hb.insertCand hi haway
  · unfold State.addCand
    split <;> exact Table.get_insert t.cands i c j
  · rw [hfree, Option.bind_none]
    cases hs : c.seat with
    | none =>
      rw [Seat.reseat_other (by simp) (by simp), Option.map_id]
      simp [State.addCand, hs, State.seat]
    | some m =>
      simp only [State.addCand, hs, State.modSeat_seat]
      by_cases hm : n = m
      · simp [hm, State.seat]
      · rw [Seat.reseat_other (by simp) (by simpa using Ne.symm hm), Option.map_id]
        simp [hm, State.seat]

/-! ### The Allocation Engine (R48 to R66) -/

theorem endJob (j : Job) (o : JobOutcome) (a g : Nat) : s.Keeps (t.endJob j o a g) := by
  have hj : s.Keeps { t with
      job := none
      lastOutcome := some
        { paper := j.paper, outcome := o, placed := j.placed, unplacedAccess := a, unplacedGeneral := g,
          time := t.hallTime } } := ⟨fun b => { h.bounded b with }, fun a => { h.agrees a with }⟩
  exact (hj.post ..).runScheduledStart ..

theorem checkGeneral (j : Job) : s.Keeps (t.checkGeneral j) := .ite (fun _ => h.endJob ..) fun _ => h.withJob _

theorem checkPass (j : Job) : s.Keeps (t.checkPass j) := by
  unfold State.checkPass
  split
  · exact h.checkGeneral j
  · exact .ite (fun _ => h.checkGeneral _) fun _ => h.withJob _

theorem occupy {i n : Nat} {c : Cand} {x : Seat} (hc : t.cand i = some c) (hs : c.state = .unseated)
    (hx : t.seat n = some x) (hfree : x.occupant = none) (hen : x.state = .enabled) : s.Keeps (t.occupy i n) := by
  refine h.trans ⟨fun hb => (hb.modSeat n _).modCand i, fun ha => ?_⟩
  have hno : c.seat = none := (ha.unseated i c hc).1 hs
  refine ha.reseat (i := i) (fun j => State.modCand_cand_some (s := t.modSeat n _) hc _ j) (fun m => ?_) (by simp)
    fun m hm => ⟨x, by rw [← hx, Option.some.inj hm], hfree, by simp [hen]⟩
  simp only [State.occupy, State.seat_congr (State.modCand_seats ..), State.modSeat_seat, hc, Option.bind_some, hno]
  by_cases hm : m = n
  · simp [hm]
  · rw [Seat.reseat_other (by simp) (by simpa using Ne.symm hm)]
    simp [hm]

theorem offer (j : Job) (n : Nat) : s.Keeps (t.offer j n) := by
  unfold State.offer
  split
  next i c hp =>
    obtain ⟨hc, hs, x, hx, hfree, hen⟩ := State.placeable_some hp
    exact ((h.occupy hc hs hx hfree hen).traceOne ..).checkPass _
  next => exact h.checkPass j

end State.Keeps
end Sys2Proof.Machine
end

section
/-! PROOF. The seat loop's operations and rescoring keep both invariants (R97 to R119, R181, R182).
-/

namespace Sys2Proof.Machine

variable {s t : State}

namespace State.Keeps

variable (h : s.Keeps t)
include h

theorem dropCall (n : Nat) : s.Keeps (t.dropCall n) := .ite (fun _ => (h.modLoop n).post ..) fun _ => h.modLoop n

theorem moveCand {i old new : Nat} {c : Cand} {x : Seat} (hc : t.cand i = some c) (hold : c.seat = some old)
    (hne : old ≠ new) (hx : t.seat new = some x) (hfree : x.occupant = none) (hen : x.state ≠ .disabled) :
    s.Keeps (t.moveCand i old new) := by
  refine h.trans ⟨fun hb => ((hb.modSeat old _).modSeat new _).modCand i, fun ha => ?_⟩
  have hst : c.state ≠ .unseated := fun hs => by simp [(ha.unseated i c hc).1 hs] at hold
  refine ha.reseat (i := i) (fun j => State.modCand_cand_some (s := (t.modSeat old _).modSeat new _) hc _ j)
    (fun m => ?_) (by simpa [Cand.moved, Cand.setSeatFault] using hst)
    fun m hm => ⟨x, by rw [← hx, Option.some.inj hm], hfree, hen⟩
  simp only [State.moveCand, State.seat_congr (State.modCand_seats ..), State.modSeat_seat, hc, Option.bind_some, hold,
    Cand.moved]
  by_cases hm : m = new
  · subst hm
    simp [hne.symm]
  · by_cases hmo : m = old
    · rw [hmo, Seat.reseat_old (by simpa using Ne.symm hne)]
      simp [hne]
    · rw [Seat.reseat_other (by simpa using Ne.symm hmo) (by simpa using Ne.symm hm)]
      simp [hm, hmo]

theorem unseat {i old : Nat} {c : Cand} (hc : t.cand i = some c) (hold : c.seat = some old) :
    s.Keeps ((t.modSeat old fun x => { x with occupant := none }).modCand i Cand.unseat) := by
  refine h.trans ⟨fun hb => (hb.modSeat old _).modCand i, fun ha => ?_⟩
  refine ha.reseat (i := i) (fun j => State.modCand_cand_some (s := t.modSeat old _) hc _ j) (fun m => ?_)
    (by simp [Cand.unseat]) (by simp [Cand.unseat])
  simp only [State.seat_congr (State.modCand_seats ..), State.modSeat_seat, hc, Option.bind_some, hold, Cand.unseat]
  by_cases hm : m = old
  · rw [hm, Seat.reseat_old (by simp)]
    simp
  · rw [Seat.reseat_other (by simpa using Ne.symm hm) (by simp)]
    simp [hm]

/-! ### The seat loop (R97 to R119) -/

theorem withWindow (w : Option Window) : s.Keeps { t with window := w } :=
  ⟨fun b => { h.bounded b with }, fun a => { h.agrees a with }⟩

theorem sendPoll (n : Nat) (rest : List Nat) : s.Keeps (t.sendPoll n rest) := by
  have hl := h.modLoop n (f := fun r => { r with lamp := some (t.pollLamp n) })
  exact ⟨fun b => { hl.bounded b with }, fun a => { hl.agrees a with }⟩

theorem seatPoll : s.Keeps t.seatPoll := by
  refine .ite (fun _ => h) fun _ => ?_
  split
  · exact h.sendPoll ..
  · exact h

theorem closingPoll : s.Keeps t.closingPoll := by
  refine .ite (fun _ => h) fun _ => ?_
  split
  next n _ =>
    refine .ite (fun hn => ⟨fun b => { h.bounded b with sweep := fun m hm => ?_ }, fun a => { h.agrees a with }⟩) fun _ => h
    obtain rfl : n + 1 = m := Option.some.inj hm
    exact hn
  next =>
    split
    · exact ⟨fun b => { h.bounded b with }, fun a => { h.agrees a with }⟩
    · exact h

theorem callRise (n : Nat) : s.Keeps (t.callRise n) := by
  unfold State.callRise
  split
  · refine .ite (fun _ => h) fun _ => ?_
    split
    · exact ((modCand (h.modLoop n) _ fun c _ => c.fits_setCall true).post ..).traceOne ..
    · exact h
  · exact h

theorem endCall (n : Nat) (b : Bool) (how : CallEnd) (cause : Cause) : s.Keeps (t.endCall n b how cause) := by
  unfold State.endCall
  split
  · split
    · exact ((modCand (h.modLoop n) _ fun c _ => c.fits_setCall false).post ..).traceOne ..
    · exact (h.modLoop n).post ..
  · exact (h.modLoop n).post ..

theorem callFall (n : Nat) : s.Keeps (t.callFall n) := by
  unfold State.callFall
  split
  · exact h
  · exact .ite (fun _ => h.endCall ..) fun _ => h.modLoop n

theorem answerCall (n : Nat) (r : LoopRec) : s.Keeps (t.answerCall n r) := h.endCall ..

theorem forOccupant (n : Nat) {f : Nat → State} (hf : ∀ i, s.Keeps (f i)) : s.Keeps (t.forOccupant n f) := by
  unfold State.forOccupant
  split
  · exact hf _
  · exact h

theorem clearStaleCall (n : Nat) : s.Keeps (t.clearStaleCall n) :=
  .ite (fun _ => h) fun _ => h.forOccupant n fun i => h.changeCand i _ fun c _ => c.fits_setCall false

theorem keyPress (n : Nat) : s.Keeps (t.keyPress n) := by
  unfold State.keyPress
  split
  next r i _ _ =>
    split
    · exact h
    next c hc =>
      refine .ite (fun _ => h.takeScript ..) fun _ => .ite (fun _ => h.takeScript ..) fun _ =>
        .ite (fun _ => h.answerCall ..) fun _ => .ite (fun hw => ?_) fun _ => .ite (fun hr => ?_) fun _ => h
      · exact h.changeState i _ hc (by simp [hw.1]) (by simp)
      · exact h.changeState i _ hc (by simp [hr]) (by simp)
  next => exact h

theorem writePresent (n : Nat) : s.Keeps (t.writePresent n) := h.forOccupant n fun i => h.modCand i

theorem decodeEdges (n : Nat) (old new : LoopRec) : s.Keeps (t.decodeEdges n old new) := by
  have presentEdge : s.Keeps (if rising old.presentIn new.presentIn then t.forOccupant n t.presentRise
      else if falling old.presentIn new.presentIn then t.forOccupant n t.presentFall else t) :=
    .ite (fun _ => h.forOccupant n h.presentRise) fun _ =>
      .ite (fun _ => h.forOccupant n h.presentFall) fun _ => h
  have doneEdge : ∀ {a : State}, s.Keeps a →
      s.Keeps (if rising old.doneIn new.doneIn then a.forOccupant n a.leaveRequest else a) := fun ha =>
    .ite (fun _ => ha.forOccupant n ha.leaveRequest) fun _ => ha
  have callEdge : ∀ {b : State}, s.Keeps b → s.Keeps (if rising old.callIn new.callIn then b.callRise n
      else if falling old.callIn new.callIn then b.callFall n else b) := fun hb =>
    .ite (fun _ => hb.callRise n) fun _ => .ite (fun _ => hb.callFall n) fun _ => hb
  have hc := callEdge (doneEdge presentEdge)
  exact .ite (fun _ => hc.keyPress n) fun _ => hc

theorem enabledReply (n : Nat) (r : LoopRec) (raw : RawInputs) : s.Keeps (t.enabledReply n r raw) := by
  have hs : s.Keeps (t.modLoop n (LoopRec.sampled t.hall raw)) := h.modLoop n fun _ _ => Nat.zero_le _
  refine .ite (fun _ => ((h.modLoop n fun _ _ => Nat.zero_le _).writePresent n).clearStaleCall n) fun _ =>
    (clearStaleCall (.ite (fun _ => hs.writePresent n) fun _ => hs) n).decodeEdges ..

theorem takeReply (n : Nat) (raw : RawInputs) : s.Keeps (t.takeReply n raw) := by
  unfold State.takeReply
  split
  · split
    · exact h.enabledReply ..
    · exact h.clearMisses n
    · exact h
  · exact h

theorem faultSeat (n : Nat) (x : Seat) : s.Keeps (t.faultSeat n x) := by
  have hm : s.Keeps (t.modSeat n fun x => { x with state := .faulty, fault := some .noReply }) :=
    h.modSeat n fun _ _ => ⟨rfl, by simp⟩
  have hu : ∀ {u}, s.Keeps u → s.Keeps (match t.targetOf n with
      | some slot => u.skipTarget slot .seatFault
      | none => u) := fun hu => by
    split
    · exact hu.skipTarget ..
    · exact hu
  refine hu ?_
  split
  · exact hm.post ..
  split
  · exact hm.post ..
  · exact ((hm.modCand _ fun c _ => c.fits_setSeatFault true).post ..).traceOne ..

theorem miss (n : Nat) : s.Keeps (t.miss n) := by
  unfold State.miss
  split
  next x r _ _ =>
    have hm : s.Keeps (t.modLoop n fun r => { r with misses := min (r.misses + 1) Config.maxMisses }) :=
      h.modLoop n fun _ _ => Nat.min_le_right ..
    exact .ite (fun _ => hm.faultSeat n x) fun _ => hm
  next => exact h

theorem missedReply : s.Keeps t.missedReply := by
  unfold State.missedReply
  split
  · exact h
  · exact .ite (fun _ => h.endWindow) fun _ => h.endWindow.miss _

theorem goodReply (b0 b1 b2 : Byte) : s.Keeps (t.goodReply b0 b1 b2) := by
  unfold State.goodReply
  split
  · exact h
  · exact .ite (fun _ => h) fun _ => .ite (fun _ => h.endWindow.takeReply ..) fun _ => h.withWindow _

/-! ### Rescoring (R181, R182) -/

theorem setMarking (p : Nat) (m : MarkState) : s.Keeps (t.setMarking p m) := h.modPaper p

theorem endRescore (p n : Nat) : s.Keeps (t.endRescore p n) := ((h.withMarker .idle).setMarking ..).post ..

theorem continueRescore (p i n : Nat) : s.Keeps (t.continueRescore p i n) :=
  .ite (fun _ => h.withMarker _) fun _ => h.endRescore ..

theorem rescoreStep : s.Keeps t.rescoreStep := by
  unfold State.rescoreStep
  split
  · split
    · exact (h.modCand _).continueRescore ..
    · exact h.endRescore ..
  all_goals exact h

theorem allocAdvance : s.Keeps t.allocAdvance := by
  unfold State.allocAdvance
  split
  · exact h
  · dsimp only
    split
    · exact h.offer ..
    · exact h.checkPass _

end State.Keeps
end Sys2Proof.Machine
end

section
/-! PROOF. The reader's and the marker's operations keep both invariants (R137 to R157, R172).
-/

namespace Sys2Proof.Machine

variable {s t : State}

/-! ### The reader's operations (R137 to R157) -/

namespace Reader.Sound

variable {r : Reader} (h : r.Sound)
include h

theorem withTx (ms : List TxMsg) : ({ r with tx := ms } : Reader).Sound := { h with }

theorem push (m : TxMsg) : (r.push m).Sound := h.withTx _

theorem modQueued (f : List TxMsg → List TxMsg) : (r.modQueued f).Sound := by
  unfold Reader.modQueued
  split
  · exact h
  · exact h.withTx _

theorem updateFeed : r.updateFeed.Sound := by
  unfold Reader.updateFeed
  dsimp only
  split
  · split_ifs
    · exact h
    · exact h.modQueued _
    · exact h.modQueued _
  · split_ifs
    · exact h
    · exact h.push _

theorem makeGeometry (f : Format) : (r.makeGeometry f).Sound := by
  unfold Reader.makeGeometry
  dsimp only
  split
  · exact h.modQueued _
  · exact h.push _

theorem pushAhead (m : TxMsg) : (r.pushAhead m).Sound := by
  unfold Reader.pushAhead
  split <;> exact h.withTx _

theorem withdraw (e : Nat) : (r.withdraw e).Sound := by
  unfold Reader.withdraw
  split
  · exact h
  · exact h.withTx _

theorem clearFifo : r.clearFifo.Sound := { h with fifo := Nat.zero_le _ }

theorem disown (g : Nat) : (r.disown g).Sound := by
  unfold Reader.disown
  split
  · exact h.clearFifo
  · exact h

theorem modBuffer (b : Nat) {f : Buffer → Buffer} (hf : ∀ x, Mem.wf x.mem = true → Mem.wf (f x).mem = true) :
    (r.modBuffer b f).Sound := by
  unfold Reader.modBuffer
  split
  · exact { h with buf0 := hf _ h.buf0 }
  · exact { h with buf1 := hf _ h.buf1 }

theorem setBuffer (b : Nat) (x : BufState) : (r.setBuffer b x).Sound := h.modBuffer b fun _ => id

theorem modRecord (e : Nat) (f : SheetRec → SheetRec) :
    ({ r with records := Table.modify r.records e f } : Reader).Sound :=
  { h with records := Table.wf_modify e f h.records }

theorem insertRecord {e : Nat} (he : e < Config.sheetRecords) (x : SheetRec) :
    ({ r with records := Table.insert r.records e x } : Reader).Sound :=
  { h with records := Table.wf_insert x he h.records }

theorem eraseRecord (e : Nat) : ({ r with records := Table.erase r.records e } : Reader).Sound :=
  { h with records := Table.wf_erase e h.records }

theorem release (b : Nat) : (r.release b).Sound := by
  unfold Reader.release
  split
  next e _ _ =>
    have hb := h.setBuffer b .filling
    exact { hb with records := Table.wf_modify e (fun x => { x with buffer := some b }) h.records }
  next => exact h.setBuffer b _

theorem releaseOf (b : Option Nat) : (r.releaseOf b).Sound := by
  unfold Reader.releaseOf
  split
  · exact h
  · split
    · exact h
    · exact h.release _

/-- A record is closed: its DIVERT is withdrawn, and its place in the FIFO and its buffer are given up (R144). -/
theorem close (e g : Nat) (b : Option Nat) :
    (({ r.withdraw e with records := Table.erase r.records e }.disown g).releaseOf b).Sound := by
  have hw : ({ r.withdraw e with records := Table.erase r.records e } : Reader).Sound :=
    { h.withdraw e with records := Table.wf_erase e h.records }
  exact (hw.disown g).releaseOf b

theorem withBound (b : Option Nat) (x : Bool) : ({ r with bound := b, ready := x } : Reader).Sound := { h with }

theorem moveSamples (b : Nat) : (r.moveSamples b).Sound := by
  have hm := h.modBuffer b (f := fun x => { x with mem := Mem.writeFrom x.mem r.moved r.fifo })
    fun x hx => Mem.wf_writeFrom _ _ _ hx
  exact { hm with fifo := Nat.zero_le _ }

/-- A sheet is opened with the buffer it takes, if one is FREE, and owns the FIFO (R146). -/
theorem openOwner {e : Nat} (he : e < Config.sheetRecords) (b : Option Nat) (x : SheetRec) (g : Nat) :
    ({ b.elim r (fun n => r.setBuffer n .filling) with
      records := Table.insert r.records e x, fifo := [], owner := some g, moved := 0 } : Reader).Sound := by
  have hb : (b.elim r (fun n => r.setBuffer n .filling)).Sound := by
    cases b with
    | none => exact h
    | some n => exact h.setBuffer n _
  exact { hb with records := Table.wf_insert x he h.records, fifo := Nat.zero_le _ }

end Reader.Sound

/-- The samples moved are the FIFO's own: a longer FIFO is emptied all the same (R147). -/
theorem Reader.Sound.moveSamples_of_fifo {r : Reader} (h : r.Sound) (l : List Byte) (b : Nat) :
    (({ r with fifo := l } : Reader).moveSamples b).Sound := by
  have hm := h.modBuffer b (f := fun x => { x with mem := Mem.writeFrom x.mem r.moved l })
    fun x hx => Mem.wf_writeFrom _ _ _ hx
  unfold Reader.moveSamples
  unfold Reader.modBuffer at hm ⊢
  split_ifs at hm ⊢
  · exact { hm with fifo := Nat.zero_le _ }
  · exact { hm with fifo := Nat.zero_le _ }

/-- A sheet is accepted for a COLLECTED candidate only (R172). -/
theorem State.judgeNumber_accept {n i : Nat} (h : s.judgeNumber n = (.accept, some i)) :
    ∃ c, s.cand i = some c ∧ c.state = .collected := by
  unfold State.judgeNumber at h
  split at h
  · cases h
  next k _ =>
    split at h
    · cases h
    next c hc =>
      by_cases hb : s.reader.bound = some c.paper
      · simp only [hb, ne_eq, not_true_eq_false, if_false] at h
        split at h
        case h_3 hs =>
          obtain rfl : k = i := by simpa using h
          exact ⟨c, hc, hs⟩
        all_goals cases h
      · simp [hb] at h

namespace State.Keeps

variable (h : s.Keeps t)
include h

theorem modSheet (e : Nat) (f : SheetRec → SheetRec) : s.Keeps (t.modSheet e f) := h.modReader fun hr => hr.modRecord e f

theorem updateFeed : s.Keeps t.updateFeed := h.modReader fun hr => hr.updateFeed

theorem divertUnrecorded (g : Nat) (r : Reason) : s.Keeps (t.divertUnrecorded g r) :=
  .ite (fun _ => h.readerError ..) fun _ => h.modReader fun hr => hr.push _

theorem spoil (e : Nat) (r : Spoil) : s.Keeps (t.spoil e r) := by
  unfold State.spoil
  split
  · exact h
  · exact .ite (fun _ => h) fun _ =>
      (((h.modSheet e _).modReader fun hr => (hr.disown _).releaseOf _).post ..).updateFeed

theorem decideSheet (e g : Nat) (d : Decision) (c : Option Decoded) (b : Bool) :
    s.Keeps (t.decideSheet e g d c b) := by
  refine (h.modSheet e _).modReader fun hr => ?_
  split
  · exact hr.pushAhead _
  · exact hr.push _

theorem closeLost (e : Nat) (c : LostCause) (k : Option Stacker) : s.Keeps (t.closeLost e c k) := by
  unfold State.closeLost
  split
  · exact h
  next x _ =>
  have hu := (h.modReader (f := fun r =>
      ({ r.withdraw e with records := Table.erase r.records e }.disown x.tag).releaseOf x.buffer)
    fun hr => hr.close e x.tag x.buffer).withMarker (t.marker.lose e)
  dsimp only
  split
  · exact (((modCand hu _ fun c _ => c.fits_returned).post ..).traceOne ..).updateFeed
  · exact (hu.post ..).updateFeed

theorem openSheet {e : Nat} (he : e < Config.sheetRecords) (g : Nat) : s.Keeps (t.openSheet e g) :=
  .ite (fun _ => (h.modReader fun hr => hr.insertRecord he _).spoil ..) fun _ => h.withReader fun hr => hr.openOwner he _ _ g

theorem beginSheet (g : Nat) : s.Keeps (t.beginSheet g) := by
  unfold State.beginSheet
  split
  · exact h.divertUnrecorded ..
  next e he => exact (h.openSheet (Table.firstFree_spec he).1 g).updateFeed

theorem sheetBegin (g : Nat) : s.Keeps (t.sheetBegin g) := by
  refine .ite (fun _ => h.divertUnrecorded ..) fun _ => ?_
  split
  · exact (h.closeLost ..).beginSheet g
  · exact h.beginSheet g

theorem countRow (e : Nat) : s.Keeps (t.countRow e) := h.modSheet e _

theorem takeSamples (e : Nat) (x : SheetRec) (l : List Byte) : s.Keeps (t.takeSamples e x l) := by
  refine .ite (fun _ => h) fun _ => ?_
  split
  · exact h.modReader fun hr => hr.moveSamples_of_fifo _ _
  · exact .ite (fun hl => h.modReader fun hr => { hr with fifo := by simpa using hl }) fun _ => h.spoil ..

theorem takeRow (g i : Nat) (l : List Byte) : s.Keeps (t.takeRow g i l) := by
  unfold State.takeRow
  split
  · exact h
  split
  · exact h
  · exact h
  · exact h.readerError ..
  · exact h.readerError ..
  · exact .ite (fun _ => h.readerError ..) fun _ => .ite (fun _ => h.countRow _) fun _ =>
      .ite (fun _ => (h.takeSamples ..).countRow _) fun _ => (h.spoil ..).countRow _

theorem store (e b : Nat) : s.Keeps (t.store e b) := (h.modSheet e _).modReader fun hr => hr.clearFifo.setBuffer b _

theorem endUnspoiled (e : Nat) (x : SheetRec) (n : Nat) : s.Keeps (t.endUnspoiled e x n) := by
  refine .ite (fun _ => ?_) fun _ => ((h.spoil ..).decideSheet ..).updateFeed
  split
  · exact .ite (fun _ => h.store ..) fun _ => h
  · exact h

theorem sheetEnd (g n : Nat) : s.Keeps (t.sheetEnd g n) := by
  unfold State.sheetEnd
  split
  · exact h
  next e x _ =>
  split
  · exact h
  · exact h
  · exact h.readerError ..
  · exact h.readerError ..
  · have hc : s.Keeps ((t.modSheet e fun y => { y with endTaken := some t.reader.endCounter }).modReader
        fun r => { r with endCounter := (r.endCounter + 1) % 256 }) :=
      (h.modSheet e _).modReader fun hr => { hr with endCounter := Nat.mod_lt _ (by decide) }
    refine .ite (fun _ => h.readerError ..) fun _ => ?_
    dsimp only
    split
    · exact (hc.decideSheet ..).updateFeed
    · exact hc.endUnspoiled ..

theorem sheetStored : s.Keeps t.sheetStored := by
  unfold State.sheetStored
  split
  · exact h
  split
  · exact h
  · exact .ite (fun _ => (h.modReader fun hr => hr.moveSamples _).store ..) fun _ => h

theorem atGate (g : Nat) : s.Keeps (t.atGate g) := by
  unfold State.atGate
  split
  · exact h
  split
  · exact h
  · exact h
  · exact (h.decideSheet ..).updateFeed
  all_goals exact (((h.decideSheet ..).modSheet _ _).modReader fun hr => (hr.disown g).releaseOf _).updateFeed

theorem commit (g : Staged) : s.Keeps (t.commit g) := by
  unfold State.commit
  split
  · exact h
  next c hc =>
  refine .ite (fun _ => h) fun hs => (post ?_ _ _).traceOne ..
  have hm : s.Keeps (t.modCand g.index fun x => { x with state := .marked, result := some g.result }) :=
    h.modCand g.index fun d hd => by
      obtain rfl : c = d := Option.some.inj (hc.symm.trans hd)
      exact .of_seated rfl (by simp_all) (by simp) id
  refine ⟨fun b => { hm.bounded b with responses := ?_ }, fun a => { hm.agrees a with }⟩
  have hb := h.bounded b
  exact Table.wf_insert _ (Table.get_lt hb.cands hc) hb.responses

theorem closeSheet (e : Nat) : s.Keeps (t.closeSheet e) :=
  ((h.withMarker _).modReader fun hr => hr.eraseRecord e).updateFeed

theorem stackSheet (e : Nat) (x : SheetRec) (k : Stacker) : s.Keeps (t.stackSheet e x k) := by
  unfold State.stackSheet
  split
  · refine .ite (fun _ => h.closeLost ..) fun _ => ?_
    split
    · exact (h.commit _).closeSheet e
    · exact h.closeSheet e
  · exact h.closeLost ..

theorem stacked (g n : Nat) : s.Keeps (t.stacked g n) := by
  unfold State.stacked
  split
  · exact h.readerError ..
  split
  · exact h
  · exact h.stackSheet ..

theorem loseTag (g : Nat) (c : LostCause) : s.Keeps (t.loseTag g c) := by
  unfold State.loseTag
  split
  · exact h.closeLost ..
  · exact h

theorem clearReady : s.Keeps t.clearReady := (h.modReader fun hr => { hr with }).updateFeed

theorem jam (g : Nat) (tags : List Nat) : s.Keeps (t.jam g tags) :=
  .ite (fun _ => h.readerError ..) fun _ => foldl (fun _ g hu => hu.loseTag g _) (h.clearReady.post ..) _

theorem sendGeometry : s.Keeps t.sendGeometry := by
  unfold State.sendGeometry
  split
  · exact h.modReader fun hr => hr.makeGeometry _
  · exact h

theorem readerReset : s.Keeps t.readerReset :=
  ((foldl (fun _ g hu => hu.loseTag g _) (h.clearReady.post ..) _).modReader fun hr => hr.clearFifo).sendGeometry

theorem readerReady : s.Keeps t.readerReady :=
  .ite (fun _ => h) fun _ => (h.modReader fun hr => { hr with }).updateFeed

theorem divertSent : s.Keeps t.divertSent := by
  unfold State.divertSent
  split
  next d _ _ =>
    have hp : s.Keeps (t.modReader (Reader.popTx (.divert d))) := h.modReader fun hr => { hr with }
    refine post ?_ _ _
    split
    · exact hp.modSheet ..
    · exact hp
  next => exact h

theorem geometrySent : s.Keeps t.geometrySent := by
  unfold State.geometrySent
  split
  · exact h.modReader fun hr => { hr with }
  · exact h

theorem feedSent : s.Keeps t.feedSent := by
  unfold State.feedSent
  split
  · exact h.modReader fun hr => { hr with }
  · exact h

/-! ### The marker (R151, R152, R172) -/

theorem markerTake : s.Keeps t.markerTake := by
  unfold State.markerTake
  split
  · split
    · exact h
    · exact ((h.modSheet ..).modReader fun hr => hr.setBuffer ..).withMarker _
  · exact h

theorem decideMarked (j : MarkJob) (p : Paper) (f : Format) : s.Keeps (t.decideMarked j p f) := by
  unfold State.decideMarked
  split
  · exact h.decideSheet ..
  split
  next i hj =>
    obtain ⟨c, hc, hs⟩ := State.judgeNumber_accept hj
    exact ((h.modSheet j.entry _).changeState i _ (c := c) hc (by simp [hs]) (by simp)).decideSheet ..
  next => exact h.decideSheet ..

theorem endMarking (j : MarkJob) : s.Keeps (t.endMarking j) := by
  have hj : s.Keeps (if j.same then t.modSheet j.entry (fun y => { y with buffer := none }) else t) :=
    .ite (fun _ => h.modSheet ..) fun _ => h
  exact ((hj.withMarker .idle).modReader fun hr => hr.release _).updateFeed

theorem markingEnd : s.Keeps t.markingEnd := by
  unfold State.markingEnd
  split
  next j _ =>
    split
    · exact h.endMarking j
    split
    · exact h.endMarking j
    · exact .ite (fun _ => (h.decideMarked ..).endMarking j) fun _ => h.endMarking j
  all_goals exact h

theorem bind (p : Nat) (f : Format) : s.Keeps (t.bind p f) :=
  ((h.setMarking ..).modReader fun hr => (hr.withBound (some p) false).makeGeometry f).updateFeed

/-! ### Frames on the reader link (R138, R139) -/

theorem setReaderRx (f : Option (List Byte)) : s.Keeps (t.setReaderRx f) := h.modReader fun hr => { hr with }

theorem readerMessage (k g : Nat) (b : List Byte) : s.Keeps (t.readerMessage k g b) := by
  unfold State.readerMessage
  split
  · exact h.sheetBegin g
  · exact h.takeRow ..
  · exact h.sheetEnd ..
  · exact h.atGate g
  · exact h.stacked ..
  · exact h.jam ..
  · exact h.readerReady
  · exact h.readerReset
  · exact h

theorem readerFrame (k g : Nat) (b : List Byte) : s.Keeps (t.readerFrame k g b) :=
  .ite (fun _ => h.readerError ..) fun _ => .ite (fun _ => h.readerError ..) fun _ => h.readerMessage ..

theorem discardReaderFrame (l : List Byte) : s.Keeps (t.discardReaderFrame l) := (h.setReaderRx none).readerError ..

theorem readerByte (b : Byte) : s.Keeps (t.readerByte b) := by
  unfold State.readerByte
  split
  · exact .ite (fun _ => h.setReaderRx _) fun _ => h
  · exact .ite (fun _ => h.discardReaderFrame _) fun _ =>
      .ite (fun _ => .ite (fun _ => (h.setReaderRx none).readerFrame ..) fun _ => h.discardReaderFrame _) fun _ =>
      h.setReaderRx _

theorem readerBytes (l : List Byte) : s.Keeps (t.readerBytes l) := foldl (fun _ b hu => hu.readerByte b) h l

theorem readerGap : s.Keeps t.readerGap := by
  unfold State.readerGap
  split
  · exact h
  · exact h.discardReaderFrame _

end State.Keeps
end Sys2Proof.Machine
end

section
/-! PROOF. Every request keeps both invariants, whichever its owner (R189).
-/

namespace Sys2Proof.Machine

variable {s t : State}

namespace State.Keeps

/-! ### The requests (R189): what each owner leaves -/

/-- A check: one answer where it holds, the other where it fails. -/
theorem answer_ite {a b : State × Answer} {p : Prop} [Decidable p] (ha : p → s.Keeps a.1) (hb : ¬ p → s.Keeps b.1) :
    s.Keeps (if p then a else b).1 := by
  split
  · exact ha ‹_›
  · exact hb ‹_›

/-- A check that refuses (R190): only the answer where it does not matters. -/
theorem checked {a b : State × Answer} {p : Prop} [Decidable p] (ha : a.1 = s) (hb : ¬ p → s.Keeps b.1) :
    s.Keeps (if p then a else b).1 :=
  answer_ite (fun _ => ha ▸ .refl s) hb

theorem hallConfig (a : HallConfigArgs) : s.Keeps (decideHallConfig a s).1 := by
  refine .checked rfl fun _ => .checked rfl fun _ => .checked rfl fun _ => .checked rfl fun _ => .checked rfl fun _ => ?_
  have hf := (refl s).freshTakes
  exact ⟨fun b => { hf.bounded b with }, fun a => { hf.agrees a with }⟩

theorem insertSeat {n : Nat} {y : Seat} (hn : n < Config.indexCount) (hno : s.seat n = none) (hy : y.occupant = none) :
    s.Keeps { s with seats := Table.insert s.seats n y } :=
  ⟨fun b => { b with seats := Table.wf_insert y hn b.seats }, fun a => a.insertSeat hno hy⟩

theorem seatDefine (n row col cls : Nat) : s.Keeps (decideSeatDefine n row col cls s).1 := by
  refine .checked rfl fun hr => .checked rfl fun _ => .checked rfl fun _ => ?_
  have hn : n < Config.indexCount := (not_not.1 hr).1
  split
  next hno =>
    exact (insertSeat hn hno rfl).joinLoop hn
  next old hold =>
    refine .checked rfl fun _ => (refl s).modSeat n fun x hx => ?_
    obtain rfl : old = x := Option.some.inj (hold.symm.trans hx)
    exact ⟨rfl, .inl⟩

theorem seatRemove (n : Nat) : s.Keeps (decideSeatRemove n s).1 := by
  refine .checked rfl fun _ => .checked rfl fun _ => ?_
  split
  · exact .refl s
  next x hx =>
    refine .checked rfl fun ho => ?_
    have he : s.Keeps { s with seats := Table.erase s.seats n } :=
      ⟨fun b => { b with seats := Table.wf_erase n b.seats }, fun a => a.eraseSeat hx (by simpa using ho)⟩
    exact .ite (fun _ => he) fun _ => he.leaveLoop n

theorem seatDefineAction (n action row col cls : Nat) : s.Keeps (decideSeatDefineAction n action row col cls s).1 := by
  unfold decideSeatDefineAction
  split
  · exact .seatDefine ..
  · exact .seatRemove n
  · exact .refl s

theorem seatState (n action : Nat) : s.Keeps (decideSeatState n action s).1 := by
  refine .checked rfl fun hr => .checked rfl fun _ => ?_
  have hn : n < Config.indexCount := (not_not.1 hr).1
  split
  · exact .refl s
  next x hx =>
  split
  · exact .refl s
  · have hm : s.Keeps (s.modSeat n fun x => { x with state := .enabled }) := (refl s).modSeat n fun _ _ => ⟨rfl, nofun⟩
    exact hm.joinLoop hn
  · exact .refl s
  · exact .refl s
  · refine .checked rfl fun ho => leaveLoop ((refl s).modSeat n fun y hy => ?_) n
    obtain rfl : x = y := Option.some.inj (hx.symm.trans hy)
    exact ⟨rfl, fun _ => .inr (by simpa using ho)⟩
  · exact (refl s).clearMisses n
  · exact .refl s
  · exact (refl s).clearFault n x

theorem seatRead (sel place mode : Nat) : s.Keeps (decideSeatRead sel place mode s).1 := by
  refine .checked rfl fun _ => ?_
  split
  · exact .checked rfl fun _ => .refl s
  · refine .checked rfl fun _ => ?_
    split <;> exact .refl s
  · exact .refl s

theorem candAdd (number slot allowance needs restBudget seat : Nat) :
    s.Keeps (decideCandAdd number slot allowance needs restBudget seat s).1 := by
  refine .checked rfl fun _ => .checked rfl fun _ => ?_
  split
  · exact .refl s
  refine .checked rfl fun _ => ?_
  split
  · exact .refl s
  next i hi =>
  refine .checked rfl fun _ => ?_
  split
  · exact .refl s
  next ht =>
    obtain ⟨hlt, hfree, -⟩ := Table.firstFree_spec hi
    refine (refl s).addCand hlt hfree (Nat.zero_le _) ?_ fun n hn => ?_
    · cases hs : seatField seat <;> simp [newCand]
    · have hn : seatField seat = some n := hn
      rw [hn] at ht
      exact State.seat_of_targetFailure_none ht

theorem candRemove (i : Nat) : s.Keeps (decideCandRemove i s).1 := by
  refine .checked rfl fun _ => .checked rfl fun _ => ?_
  split
  · exact .refl s
  next c hc =>
    refine .checked rfl fun hs => ⟨fun b => b.eraseCand i, fun a => a.eraseCand hc (by simpa using hs)⟩

theorem candReadAnswer (i : Nat) : s.Keeps (Machine.candReadAnswer i s).1 := by
  unfold Machine.candReadAnswer
  split <;> exact .refl s

theorem candRead (sel value : Nat) : s.Keeps (decideCandRead sel value s).1 := by
  unfold decideCandRead
  split
  · exact .answer_ite (fun _ => .candReadAnswer _) fun _ => .refl s
  · refine .checked rfl fun _ => ?_
    split
    · exact .refl s
    · exact .candReadAnswer _
  · exact .refl s

theorem candWatch (i watch : Nat) : s.Keeps (decideCandWatch i watch s).1 := by
  refine .checked rfl fun _ => ?_
  split
  · exact .refl s
  · exact .checked rfl fun _ => (refl s).modCand i

theorem paperDefine (slot : Nat) (a : PaperArgs) : s.Keeps (decidePaperDefine slot a s).1 := by
  refine .checked rfl fun hr => .checked rfl fun _ => .checked rfl fun _ => .checked rfl fun _ => ?_
  have hp : slot < Config.slotCount := by
    simp only [paperInRange, not_not, Bool.and_eq_true, decide_eq_true_eq] at hr
    omega
  dsimp only
  split
  · exact (refl s).insertPaper hp (Nat.zero_le _)
  · exact .checked rfl fun _ =>
      ((refl s).modPaper slot fun _ _ => Nat.zero_le _).mapCands slot fun _ => ⟨rfl, Iff.rfl, id⟩

theorem paperRead (slot : Nat) : s.Keeps (decidePaperRead slot s).1 := by
  refine .checked rfl fun _ => ?_
  split <;> exact .refl s

theorem collectMark (i : Nat) : s.Keeps (decideCollectMark i s).1 := by
  refine .checked rfl fun _ => ?_
  split
  · exact .refl s
  split
  · exact .refl s
  · exact .checked rfl fun _ => (refl s).takeScript ..

theorem collectClose (slot : Nat) : s.Keeps (decideCollectClose slot s).1 := by
  refine .checked rfl fun _ => ?_
  split
  · exact .refl s
  · exact .checked rfl fun _ => .checked rfl fun _ => .checked rfl fun _ => (refl s).closeCollection slot

theorem collectionRead (sel start : Nat) : s.Keeps (decideCollectionRead sel start s).1 :=
  .checked rfl fun _ => .checked rfl fun _ => .refl s

theorem timeSet (n : Nat) : s.Keeps (decideTimeSet n s).1 :=
  .checked rfl fun hn => (refl s).withHallTime (not_not.1 hn)

theorem paperStart (slot : Nat) : s.Keeps (decidePaperStart slot s).1 := by
  refine .checked rfl fun _ => ?_
  split
  · exact .refl s
  · exact .checked rfl fun _ => .checked rfl fun _ => (refl s).startPaper ..

theorem paperAbandon (slot : Nat) : s.Keeps (decidePaperAbandon slot s).1 := by
  refine .checked rfl fun _ => ?_
  split
  · exact .refl s
  · exact .checked rfl fun _ => ((refl s).abandonPaper slot).startCollection ..

theorem admitRequest (i : Nat) : s.Keeps (decideAdmit i s).1 := by
  refine .checked rfl fun _ => ?_
  split
  · exact .refl s
  · exact .checked rfl fun _ => (refl s).admitCand ..

theorem finish (i : Nat) : s.Keeps (decideFinish i s).1 := by
  refine .checked rfl fun _ => ?_
  split
  · exact .refl s
  · exact .checked rfl fun _ => (refl s).finishCand ..

theorem hold : s.Keeps (decideHold s).1 := by
  unfold decideHold
  split
  · exact .refl s
  · exact (refl s).beginHold _

theorem resume : s.Keeps (decideResume s).1 := by
  unfold decideResume
  split
  · exact .refl s
  · exact .checked rfl fun _ => (((refl s).withHold none).post ..).runScheduled

theorem allocate (slot : Nat) (w : SeatWalkArgs) (spill : Nat) : s.Keeps (decideAllocate slot w spill s).1 := by
  refine .checked rfl fun _ => ?_
  split
  · exact .refl s
  · exact .checked rfl fun _ => .checked rfl fun _ => .checked rfl fun _ => checkPass (refl s) (Job.new ..)

theorem allocAbort : s.Keeps (decideAllocAbort s).1 := by
  unfold decideAllocAbort
  split
  · exact .refl s
  · exact (refl s).endJob ..

theorem move (i n : Nat) : s.Keeps (decideMove i n s).1 := by
  refine .checked rfl fun _ => .checked rfl fun _ => ?_
  split
  · exact .refl s
  · exact .refl s
  next c x hc hx =>
  split
  next p old _ hold =>
    refine .checked rfl fun _ => .checked rfl fun hne => ?_
    split
    · exact .refl s
    next ht =>
      obtain ⟨y, hy, hfree, hen⟩ := State.seat_of_targetFailure_none ht
      exact (((refl s).moveCand hc hold hne hy hfree hen).dropCall old).traceOne ..
  next => exact .refl s

theorem unseatRequest (i : Nat) : s.Keeps (decideUnseat i s).1 := by
  refine .checked rfl fun _ => .checked rfl fun _ => ?_
  split
  · exact .refl s
  next c hc =>
  split
  · exact .refl s
  next old hold => exact .checked rfl fun _ => (((refl s).unseat hc hold).dropCall old).traceOne ..

theorem formatLoad (slot : Nat) (a : FormatArgs) : s.Keeps (decideFormatLoad slot a s).1 := by
  refine .checked rfl fun _ => ?_
  split
  · exact .refl s
  · exact .checked rfl fun _ => .checked rfl fun _ => .checked rfl fun _ => .checked rfl fun _ => .checked rfl fun _ =>
      (refl s).modPaper slot

theorem formatRead (slot : Nat) : s.Keeps (decideFormatRead slot s).1 := by
  refine .checked rfl fun _ => ?_
  split <;> exact .refl s

theorem keyLoad (slot first : Nat) (l : List KeyEntryArgs) : s.Keeps (decideKeyLoad slot first l s).1 := by
  refine .checked rfl fun _ => ?_
  split
  · exact .refl s
  split
  · exact .refl s
  · refine .checked rfl fun _ => .checked rfl fun _ => (refl s).modPaper slot fun q hq => ?_
    unfold Paper.loadKey
    dsimp only
    split <;> exact hq

theorem keyRead (slot first n : Nat) : s.Keeps (decideKeyRead slot first n s).1 := by
  refine .checked rfl fun _ => ?_
  split
  · exact .refl s
  split
  · exact .refl s
  · exact .checked rfl fun _ => .refl s

theorem markBind (slot : Nat) : s.Keeps (decideMarkBind slot s).1 := by
  refine .checked rfl fun _ => ?_
  split
  · exact .refl s
  refine .checked rfl fun _ => .checked rfl fun _ => .checked rfl fun _ => ?_
  split
  · exact .refl s
  · exact (refl s).bind ..

theorem markUnbind : s.Keeps (decideMarkUnbind s).1 := by
  unfold decideMarkUnbind
  split
  · exact .refl s
  · exact .checked rfl fun _ => .checked rfl fun _ =>
      (((refl s).setMarking ..).modReader fun hr => hr.withBound none _).updateFeed

theorem rescore (slot : Nat) : s.Keeps (decideRescore slot s).1 := by
  refine .checked rfl fun _ => ?_
  split
  · exact .refl s
  · exact .checked rfl fun _ => .checked rfl fun _ => ((refl s).setMarking ..).continueRescore ..

theorem resultRead (i : Nat) : s.Keeps (decideResultRead i s).1 := by
  refine .checked rfl fun _ => ?_
  split
  · exact .refl s
  · refine .checked rfl fun _ => ?_
    split <;> exact .refl s

theorem responsesRead (i : Nat) : s.Keeps (decideResponsesRead i s).1 := by
  refine .checked rfl fun _ => ?_
  split
  · exact .refl s
  · exact .checked rfl fun _ => .refl s

/-- SESSION_CLEAR empties both sides of every seating (R195). -/
theorem cleared : s.Keeps s.cleared := by
  have hseat : ∀ n, s.cleared.seat n = (s.seat n).map (fun x => { x with occupant := none }) :=
    Table.get_mapAll s.seats fun x => { x with occupant := none }
  have hfree : ∀ n x, s.cleared.seat n = some x → x.occupant = none := fun n x hx => by
    obtain ⟨y, -, rfl⟩ := Option.map_eq_some_iff.1 ((hseat n).symm.trans hx)
    rfl
  refine ⟨fun b => ?_, fun a => ⟨fun n x i hx hi => ?_, fun i c n hc => ?_, fun i c hc => ?_,
    fun n x hx _ => hfree n x hx⟩⟩
  · have hr := (b.readerSound.setBuffer 0 .free).setBuffer 1 .free
    exact { b with
      cands := rfl
      papers := rfl
      seats := Table.wf_mapAll (fun x : Seat => { x with occupant := none }) b.seats
      loops := Table.wf_mapAll (fun r : LoopRec => { r with call := none, answered := false }) b.loops
      responses := rfl
      records := rfl
      buf0 := hr.buf0
      buf1 := hr.buf1
      fifo := hr.fifo
      endCounter := hr.endCounter
      away := List.forall_mem_nil _
      misses := Table.forall_mapAll (P := fun r : LoopRec => r.misses ≤ Config.maxMisses)
        (f := fun r : LoopRec => { r with call := none, answered := false }) b.misses fun _ => id
      timer := List.forall_mem_nil _ }
  · simp [hfree n x hx] at hi
  · cases hc
  · cases hc

theorem sessionClear : s.Keeps (decideSessionClear s).1 := by
  unfold decideSessionClear
  split
  · exact .refl s
  · exact .cleared

/-- Every request keeps both invariants. -/
theorem decide (r : Request) : s.Keeps (Machine.decide r s).1 := by
  cases r with
  | identify => exact .refl s
  | status => exact .refl s
  | sessionClear => exact .sessionClear
  | timeSet => exact .timeSet _
  | hallConfig => exact .hallConfig _
  | seatDefine => exact .seatDefineAction ..
  | seatState => exact .seatState ..
  | seatRead => exact .seatRead ..
  | paperDefine => exact .paperDefine ..
  | paperRead => exact .paperRead _
  | candAdd number slot allowance needs rest seat => exact .candAdd number slot allowance needs rest seat
  | candRemove => exact .candRemove _
  | candRead => exact .candRead ..
  | candWatch => exact .candWatch ..
  | allocate => exact .allocate ..
  | allocAbort => exact .allocAbort
  | move => exact .move ..
  | unseat => exact .unseatRequest _
  | paperStart => exact .paperStart _
  | paperAbandon => exact .paperAbandon _
  | admitCand => exact .admitRequest _
  | finish => exact .finish _
  | hold => exact .hold
  | resume => exact .resume
  | collectMark => exact .collectMark _
  | collectClose => exact .collectClose _
  | collectionRead => exact .collectionRead ..
  | formatLoad => exact .formatLoad ..
  | formatRead => exact .formatRead _
  | keyLoad => exact .keyLoad ..
  | keyRead => exact .keyRead ..
  | markBind => exact .markBind _
  | markUnbind => exact .markUnbind
  | rescore => exact .rescore _
  | resultRead => exact .resultRead _
  | responsesRead => exact .responsesRead _

end State.Keeps
end Sys2Proof.Machine
end

section
/-! PROOF. The host link, RESET and every command keep both invariants, and the statements about the invariants and about reset
(R185 to R196).
-/

namespace Sys2Proof.Machine

variable {s t : State}

/-! ### The host link (R185 to R196) -/

theorem Link.Sound.pump {l : Link} (h : l.Sound) : l.pump.Sound := by
  rcases l.pump_cases with ⟨-, e⟩ | ⟨r, -, -, e⟩ | ⟨n, rest, -, -, hn, e⟩ | ⟨-, -, -, e⟩ <;> rw [e]
  · exact h
  · exact { h with }
  · have hl := h.notices
    rw [hn, List.length_cons] at hl
    exact { h with notices := (Nat.le_succ _).trans hl }
  · exact h

namespace State.Keeps

theorem pump (h : s.Keeps t) : s.Keeps t.pump := h.withLink fun hl => hl.pump

theorem reply (h : s.Keeps t) (k g : Byte) (a : Answer) : s.Keeps (t.reply k g a) := h.withLink fun hl => { hl with }

theorem afterStep (h : s.Keeps t) (b : State) (r : Request) : s.Keeps (t.afterStep b r) :=
  .ite (fun _ => h.post ..) fun _ => h

theorem takeRequest (h : s.Keeps t) (k g : Byte) (r : Request) : s.Keeps (t.takeRequest k g r) :=
  ((h.trans (.decide r)).reply ..).afterStep ..

theorem takeFrame (h : s.Keeps t) (f : Frame) : s.Keeps (t.takeFrame f) := by
  unfold State.takeFrame
  split
  · exact h.reply ..
  · exact h.reply ..
  · exact h.takeRequest ..

theorem discardFrame (h : s.Keeps t) : s.Keeps t.discardFrame := h.withLink fun hl => { hl with }

theorem receiveFrame (h : s.Keeps t) (f : Frame) : s.Keeps (t.receiveFrame f) :=
  .ite (fun _ => h.discardFrame) fun _ => .ite (fun _ => h.takeFrame f) fun _ =>
    .ite (fun _ => h.withLink fun hl => { hl with }) fun _ => h.withLink fun hl => { hl with }

theorem hostRequest (h : s.Keeps t) (g : Nat) (r : Request) : s.Keeps (t.hostRequest g r) :=
  .ite (fun _ => h.takeRequest ..) fun _ =>
    .ite (fun _ => h.withLink fun hl => { hl with }) fun _ => h.withLink fun hl => { hl with }

theorem setRx (h : s.Keeps t) (r : HostRx) : s.Keeps (t.setRx r) := h.withLink fun hl => { hl with }

theorem discardRx (h : s.Keeps t) : s.Keeps t.discardRx := (h.setRx _).discardFrame

theorem hostByte (h : s.Keeps t) (b : Byte) : s.Keeps (t.hostByte b) := by
  unfold State.hostByte
  split
  · exact .ite (fun _ => h.setRx _) fun _ => h
  · exact .ite (fun _ => h.setRx _) fun _ => .ite (fun _ => h.setRx _) fun _ => h.discardRx
  · exact .ite (fun _ => h.setRx _) fun _ => .ite (fun _ => h.setRx _) fun _ =>
      .ite (fun _ => (h.setRx _).receiveFrame _) fun _ => h.discardRx

theorem hostBytes (h : s.Keeps t) (l : List Byte) : s.Keeps (t.hostBytes l) := foldl (fun _ b hu => hu.hostByte b) h l

theorem breakFrame (h : s.Keeps t) : s.Keeps t.breakFrame := by
  unfold State.breakFrame
  split
  · exact h
  · exact h.discardRx
  · exact h.discardRx

theorem replySent (h : s.Keeps t) : s.Keeps t.replySent := by
  have hl : s.Keeps { t with link := { t.link with tx := .idle, inHand := none, waiting := none } } :=
    h.withLink fun hl => { hl with }
  unfold State.replySent
  split
  · dsimp only
    split
    · exact hl.takeFrame _
    · exact hl
  · exact h
  · exact h

theorem noticeSent (h : s.Keeps t) : s.Keeps t.noticeSent := by
  unfold State.noticeSent
  split
  · exact h.withLink fun hl => { hl with }
  · exact h
  · exact h

theorem assertReset : s.Keeps s.assertReset := ⟨fun b => { b with }, fun a => { a with }⟩

end State.Keeps

/-! ### Reset (R185) -/

theorem State.resetAt_bounded {rate : Nat} (h : rate < 4) : (State.resetAt rate).Bounded where
  cands := rfl
  papers := rfl
  seats := rfl
  loops := rfl
  sweep n hn := by
    obtain rfl : 0 = n := Option.some.inj hn
    exact Nat.zero_le _
  responses := rfl
  records := rfl
  buf0 := rfl
  buf1 := rfl
  fifo := Nat.zero_le _
  endCounter := Nat.succ_pos _
  notices := by simp [State.resetAt, Link.reset]
  hallTime := Nat.zero_le _
  holdElapsed := Nat.zero_le _
  rate := h
  away := List.forall_mem_nil _
  misses := List.forall_mem_nil _
  timer := List.forall_mem_nil _

theorem State.resetAt_seatsAgree (rate : Nat) : (State.resetAt rate).SeatsAgree where
  occupied _ _ _ hx := by cases hx
  seated _ _ _ hc := by cases hc
  unseated _ _ hc := by cases hc
  disabled _ _ hx := by cases hx

/-- After reset one FEED is being sent, and nothing is queued behind it (R137). -/
theorem State.resetAt_filed (rate : Nat) : (State.resetAt rate).Filed where
  feeds := Nat.zero_le _
  geometries := Nat.zero_le _
  unrecorded := Nat.zero_le _
  diverts := List.nodup_nil
  decided m hm e he := by
    obtain rfl : m = .feed false := List.mem_singleton.1 hm
    cases he
  bound _ := rfl
  listed := List.nodup_nil
  taken := List.forall_mem_nil _

theorem rateOf_lt (a b : Bool) : rateOf a b < 4 := by cases a <;> cases b <;> decide

theorem State.Keeps.release (a b : Bool) : s.Keeps (s.release a b) :=
  ⟨fun _ => { State.resetAt_bounded (rateOf_lt a b) with }, fun _ => { State.resetAt_seatsAgree (rateOf a b) with }⟩

/-! ### The step -/

/-- A command other than RESET keeps what its effect keeps: the choices of the transmitter change the link alone. -/
theorem State.Keeps.running {f : State → State} (hf : ∀ t, s.Keeps t → s.Keeps (f t)) (h : Machine.running f s = .next t) :
    s.Keeps t := by
  rw [← Host.Outcome.next.inj h]
  exact .ite (fun _ => .refl s) fun _ => (hf _ (State.Keeps.refl s).pump).pump

theorem State.Keeps.request {g : Nat} {r : Request} (h : Machine.running (State.hostRequest g r) s = .next t) : s.Keeps t :=
  .running (fun _ hu => hu.hostRequest g r) h

/-- Every command keeps both invariants. -/
theorem State.Keeps.exec {c : Instr} (h : Machine.exec c s = .next t) : s.Keeps t := by
  cases c with
  | reset a b => exact Host.Outcome.next.inj h ▸ .release a b
  | resetAsserted => exact Host.Outcome.next.inj h ▸ .assertReset
  | secondEvent => exact .running (fun _ hu => hu.secondEvent) h
  | readingEnd => exact .running (fun _ hu => hu.secondIf _) h
  | lateEntryClose => exact .running (fun _ hu => hu.secondIf _) h
  | baseEnd => exact .running (fun _ hu => hu.secondIf _) h
  | limitReached => exact .running (fun _ hu => hu.secondIf _) h
  | restBudgetExhausted => exact .running (fun _ hu => hu.secondIf _) h
  | awayLong => exact .running (fun _ hu => hu.secondIf _) h
  | holdExpired => exact .running (fun _ hu => hu.secondIf _) h
  | collectTimeoutExpiry => exact .running (fun _ hu => hu.secondIf _) h
  | scheduledStart => exact .running (fun _ hu => hu.secondIf _) h
  | holdLineAsserted => exact .running (fun _ hu => hu.holdAsserted) h
  | holdLineReleased => exact .running (fun _ hu => hu.holdReleased) h
  | hostFrameReceived => exact .running (fun _ hu => hu.hostBytes _) h
  | hostGapTimeout => exact .running (fun _ hu => (hu.hostBytes _).breakFrame) h
  | hostFrameDiscarded =>
    exact .running (fun _ hu => .ite (fun _ => (hu.hostBytes _).breakFrame) fun _ => hu.hostBytes _) h
  | replySent => exact .running (fun _ hu => hu.replySent) h
  | noticeSent => exact .running (fun _ hu => hu.noticeSent) h
  | allocAdvance => exact .running (fun _ hu => hu.allocAdvance) h
  | rescoreStep => exact .running (fun _ hu => hu.rescoreStep) h
  | seatPoll => exact .running (fun _ hu => hu.seatPoll) h
  | closingPoll => exact .running (fun _ hu => hu.closingPoll) h
  | goodReply => exact .running (fun _ hu => hu.goodReply ..) h
  | missedReply => exact .running (fun _ hu => hu.missedReply) h
  | readerFrameReceived => exact .running (fun _ hu => hu.readerBytes _) h
  | readerGapTimeout => exact .running (fun _ hu => (hu.readerBytes _).readerGap) h
  | readerLengthAbove200 => exact .running (fun _ hu => hu.readerBytes _) h
  | sheetBegin => exact .running (fun _ hu => hu.sheetBegin _) h
  | row => exact .running (fun _ hu => hu.takeRow ..) h
  | sheetEnd => exact .running (fun _ hu => hu.sheetEnd ..) h
  | sheetStored => exact .running (fun _ hu => hu.sheetStored) h
  | atGate => exact .running (fun _ hu => hu.atGate _) h
  | stacked => exact .running (fun _ hu => hu.stacked ..) h
  | jam => exact .running (fun _ hu => hu.jam ..) h
  | readerReady => exact .running (fun _ hu => hu.readerReady) h
  | readerReset => exact .running (fun _ hu => hu.readerReset) h
  | divertSent => exact .running (fun _ hu => hu.divertSent) h
  | geometrySent => exact .running (fun _ hu => hu.geometrySent) h
  | feedSent => exact .running (fun _ hu => hu.feedSent) h
  | markerTake => exact .running (fun _ hu => hu.markerTake) h
  | markingEnd => exact .running (fun _ hu => hu.markingEnd) h
  | _ => exact .request h

/-- Every step keeps both invariants; the queue of waiting commands is no part of either. -/
theorem State.Keeps.step (h : Machine.step s = .next t) : s.Keeps t := by
  unfold Machine.step at h
  split at h
  next c rest _ =>
    have hq : s.Keeps { s with pending := rest } := ⟨fun b => { b with }, fun a => { a with }⟩
    exact hq.trans (.exec h)
  next => exact Host.Outcome.next.inj h ▸ .refl s

end Sys2Proof.Machine

/-! ### The obligations about the invariants -/

section
open Sys2Proof.Machine

/-- Settles O11: every operation of the model keeps the bounds, and so does every command. -/
theorem boundedKeptByStep : Obligations.BoundedKeptByStep := fun _ _ hb h => (State.Keeps.step h).bounded hb

/-- Settles O12: a command that seats or unseats nobody keeps the agreement, and CAND_ADD, a placement, MOVE, UNSEAT and
SESSION_CLEAR write both sides. -/
theorem seatsAgreeKeptByStep : Obligations.SeatsAgreeKeptByStep := fun _ _ ha h => (State.Keeps.step h).agrees ha

/-- Settles O13. -/
theorem invariantsHoldAtReset : Obligations.InvariantsHoldAtReset :=
  ⟨State.resetAt_bounded (by decide), State.resetAt_seatsAgree 0, State.resetAt_filed 0, fun rate h =>
    ⟨State.resetAt_bounded h, State.resetAt_seatsAgree rate, State.resetAt_filed rate⟩⟩

/-- Settles O3: RESET answers the state of `State.release`, whose every field is a constant but the rate and the queue. -/
theorem resetLeavesResetValues : Obligations.ResetLeavesResetValues := fun _ _ _ => rfl

end
end

section
/-! PROOF. The Candidate Table's requests that change one record or none: CAND_REMOVE, CAND_WATCH and CAND_READ, with
PAPER_READ (R11 to R13, R22, R200, R201).
-/

namespace Sys2Proof.Machine

variable {s : State}

/-! ### CAND_REMOVE and CAND_WATCH (R11, R13) -/

theorem decideCandRemove_range {i : Nat} (hj : s.job = none) (hi : 512 ≤ i) :
    decideCandRemove i s = refuse .range s := by
  simp [decideCandRemove, hj, hi]

theorem decideCandRemove_notFound {i : Nat} (hj : s.job = none) (hi : i < 512) (hc : s.cand i = none) :
    decideCandRemove i s = refuse .notFound s := by
  simp [decideCandRemove, hj, hi, hc]

theorem decideCandRemove_used {i : Nat} {c : Cand} (hj : s.job = none) (hi : i < 512) (hc : s.cand i = some c) :
    decideCandRemove i s = if c.state = .unseated then
      ({ s with cands := Table.erase s.cands i }, .ok (u24 c.number)) else refuse .state s := by
  simp [decideCandRemove, hj, hi, hc]

theorem decideCandWatch_range {i watch : Nat} (h : 512 ≤ i ∨ 1 < watch) : decideCandWatch i watch s = refuse .range s :=
  if_pos fun hr => by
    have hi : i < 512 := hr.1
    omega

theorem decideCandWatch_notFound {i watch : Nat} (hi : i < 512) (hw : watch ≤ 1) (hc : s.cand i = none) :
    decideCandWatch i watch s = refuse .notFound s := by
  simp [decideCandWatch, hi, hw, hc]

theorem decideCandWatch_used {i watch : Nat} {c : Cand} (hi : i < 512) (hw : watch ≤ 1) (hc : s.cand i = some c) :
    decideCandWatch i watch s =
      if watch = 1 ∧ c.flags.watch = false ∧ 16 ≤ s.watchCount then refuse .full s
      else
        (s.modCand i (fun d => { d with flags := { d.flags with watch := watch == 1 } }),
          .ok (u8 (s.modCand i (fun d => { d with flags := { d.flags with watch := watch == 1 } })).watchCount)) := by
  simp [decideCandWatch, hi, hw, hc]

/-- The watched records after WATCH of one is written. -/
theorem State.watchCount_modCand (i : Nat) (b : Bool) :
    (s.modCand i (fun d => { d with flags := { d.flags with watch := b } })).watchCount =
      (s.cands.map (fun e => if e.1 = i then b else e.2.flags.watch)).countP (fun b => b) := by
  simp only [State.watchCount, State.modCand, Table.modify, List.countP_map]
  refine List.countP_congr fun e _ => ?_
  by_cases he : e.1 = i <;> simp [he]

/-! ### CAND_READ (R12) -/

/-- A number that one record alone holds is found there. -/
theorem State.findNumber_unique {n i : Nat} {c : Cand} {k : Nat} (hw : Table.wf k s.cands = true) (hc : s.cand i = some c)
    (hn : c.number = n) (hu : ∀ j d, s.cand j = some d → d.number = n → j = i) : s.findNumber n = some i := by
  unfold State.findNumber
  cases hf : s.cands.find? (fun e => e.2.number == n) with
  | none =>
    have := List.find?_eq_none.1 hf (i, c) (Table.get_mem hc)
    simp [hn] at this
  | some e =>
    have hp := List.find?_some hf
    have he := Table.get_of_mem hw (List.mem_of_find?_eq_some hf)
    exact congrArg some (hu e.1 e.2 he (by simpa using hp))

theorem State.findNumber_none {n k : Nat} (hw : Table.wf k s.cands = true) (hu : ∀ j d, s.cand j = some d → d.number ≠ n) :
    s.findNumber n = none := by
  unfold State.findNumber
  rw [Option.map_eq_none_iff, List.find?_eq_none]
  exact fun e he => by simpa using hu e.1 e.2 (Table.get_of_mem hw he)

theorem State.findNumber_isSome {n : Nat} : (s.findNumber n).isSome = true ↔ ∃ e ∈ s.cands, e.2.number = n := by
  simp [State.findNumber]

theorem decideCandRead_index {v : Nat} (hv : v < 65536) :
    decideCandRead 0 v s = if v < 512 then candReadAnswer v s else refuse .range s := by
  simp [decideCandRead, Nat.mod_eq_of_lt hv, Config.indexCount]

theorem decideCandRead_number_range {v : Nat} (hv : v = 0 ∨ 999999 < v) : decideCandRead 1 v s = refuse .range s :=
  if_pos (by omega)

theorem decideCandRead_unused {v : Nat} (hv : 1 ≤ v) (hv' : v ≤ 999999) (hf : s.findNumber v = none) :
    decideCandRead 1 v s = refuse .notFound s := by
  simp [decideCandRead, hv, hv', hf]

theorem decideCandRead_number {v i : Nat} (hv : 1 ≤ v) (hv' : v ≤ 999999) (hf : s.findNumber v = some i) :
    decideCandRead 1 v s = candReadAnswer i s := by
  simp [decideCandRead, hv, hv', hf]

theorem decideCandRead_selector {sel v : Nat} (h : 1 < sel) : decideCandRead sel v s = refuse .range s := by
  obtain ⟨n, rfl⟩ : ∃ n, sel = n + 2 := ⟨sel - 2, by omega⟩
  rfl

theorem candReadAnswer_used {i : Nat} {c : Cand} (hc : s.cand i = some c) :
    candReadAnswer i s = (s, .ok (c.bytes i s.hallTime)) := by
  simp [candReadAnswer, hc]

theorem candReadAnswer_free {i : Nat} (hc : s.cand i = none) : candReadAnswer i s = refuse .notFound s := by
  simp [candReadAnswer, hc]

/-! ### The bytes of the records (R198, R200, R201) -/

@[simp] theorem length_u8 (n : Nat) : (u8 n).length = 1 := rfl
@[simp] theorem length_u16 (n : Nat) : (u16 n).length = 2 := rfl
@[simp] theorem length_u24 (n : Nat) : (u24 n).length = 3 := rfl
@[simp] theorem length_s8 (z : Int) : (s8 z).length = 1 := rfl
@[simp] theorem length_flag (b : Bool) : (flag b).length = 1 := rfl
@[simp] theorem length_opt16 (n : Option Nat) : (opt16 n).length = 2 := rfl

@[simp] theorem SeatWalk.length_bytes (w : SeatWalk) : w.bytes.length = 12 := rfl

@[simp] theorem Cursor.length_bytes (c : Cursor) : c.bytes.length = 4 := rfl

/-- The definition group is 42 bytes long for a code of eight characters (R201). -/
theorem PaperDef.length_bytes (d : PaperDef) : d.bytes.length = d.code.length + 34 := by
  cases hw : d.walk <;> simp [PaperDef.bytes, hw]

theorem Paper.length_bytes (p : Paper) (slot time : Nat) : (p.bytes slot time).length = p.defn.code.length + 65 := by
  simp [Paper.bytes, PaperDef.length_bytes]
  omega

/-- The flags byte with each flag at its weight (R198). -/
theorem CandFlags.code_eq (f : CandFlags) : f.code = (if f.late then 1 else 0) + (if f.away then 2 else 0) +
    (if f.call then 4 else 0) + (if f.seatFault then 8 else 0) + (if f.deferred then 16 else 0) +
    (if f.missing then 32 else 0) + (if f.watch then 64 else 0) := by
  obtain ⟨a, b, c, d, e, g, w⟩ := f
  revert a b c d e g w
  decide

/-- The finish reason's byte, 0xFF where there is none (R198, R200). -/
theorem opt8_finishReason (f : Option Finish) : opt8 (f.map (fun f => f.reason.code)) =
    u8 (match f.map Finish.reason with
      | none => 0xFF | some .early => 0 | some .time => 1 | some .forced => 2 | some .abandoned => 3) := by
  rcases f with _ | ⟨_ | _ | _ | _, _⟩ <;> rfl

theorem MarkState.code_eq (m : MarkState) :
    m.code = match m with | .notReady => 0 | .ready => 1 | .bound => 2 | .rescoring => 3 := by
  cases m <;> rfl

theorem PaperDef.bytes_eq (d : PaperDef) : d.bytes = d.code ++ u16 d.reading ++ u16 d.writing ++ u16 d.lateCutoff ++
    u16 d.noLeaveFirst ++ u16 d.noLeaveLast ++ u16 d.warnA ++ u16 d.warnB ++
    u8 (match d.separation with | .none => 0 | .row => 1 | .grid => 2 | .diag => 3) ++ u16 d.collectTimeout ++
    (match d.start with | none => [0, 0, 0, 0] | some t => [1] ++ u24 t) ++
    (match d.walk with
     | none => [0, 0, 0, 0, 0, 0, 0, 0, 0, 0, 0, 0, 0]
     | some w => [1] ++ u8 w.startRow ++ u8 w.startCol ++ s8 w.e.row ++ s8 w.e.col ++ s8 w.o1.row ++ s8 w.o1.col ++
        s8 w.o2.row ++ s8 w.o2.col ++ u8 w.countL ++ u8 w.countM ++ u8 w.countH ++ flag w.alternate) := by
  have hsep : d.separation.code = match d.separation with | .none => 0 | .row => 1 | .grid => 2 | .diag => 3 := by
    cases d.separation <;> rfl
  have hstart : flag d.start.isSome ++ u24 (d.start.getD 0) =
      match d.start with | none => [0, 0, 0, 0] | some t => [1] ++ u24 t := by
    cases d.start <;> rfl
  have hwalk : flag d.walk.isSome ++ (match d.walk with | some w => w.bytes | none => List.replicate 12 0) =
      match d.walk with
      | none => [0, 0, 0, 0, 0, 0, 0, 0, 0, 0, 0, 0, 0]
      | some w => [1] ++ u8 w.startRow ++ u8 w.startCol ++ s8 w.e.row ++ s8 w.e.col ++ s8 w.o1.row ++ s8 w.o1.col ++
        s8 w.o2.row ++ s8 w.o2.col ++ u8 w.countL ++ u8 w.countM ++ u8 w.countH ++ flag w.alternate := by
    cases d.walk <;> rfl
  rw [← hsep, ← hstart, ← hwalk]
  simp only [PaperDef.bytes, List.append_assoc] <;> rfl

/-! ### PAPER_READ (R22) -/

theorem decidePaperRead_range {slot : Nat} (h : 8 ≤ slot) : decidePaperRead slot s = refuse .range s :=
  if_pos (by simpa [Config.slotCount] using h)

theorem decidePaperRead_undefined {slot : Nat} (h : slot < 8) (hp : s.paper slot = none) :
    decidePaperRead slot s = (s, .ok (u24 s.hallTime ++ u8 slot ++ u8 0)) := by
  simp [decidePaperRead, h, hp]

theorem decidePaperRead_defined {slot : Nat} {p : Paper} (h : slot < 8) (hp : s.paper slot = some p) :
    decidePaperRead slot s = (s, .ok (p.bytes slot s.hallTime)) := by
  simp [decidePaperRead, h, hp]

end Sys2Proof.Machine

section
open Sys2Proof Sys2Proof.Machine

/-- Settles O36. -/
theorem candRemoveAndWatch : Obligations.CandRemoveAndWatch := by
  refine ⟨fun tag i watch s h => ⟨fun hj hi => ?_, fun hj hi hc => ?_, fun hr => ?_, fun hi hw hc => ?_⟩,
    fun tag i c s h hi hc => ⟨fun hj => ?_, fun watch hw => ?_⟩⟩
  · exact running_hostRequest_refused h (decideCandRemove_range hj hi)
  · exact running_hostRequest_refused h (decideCandRemove_notFound hj hi (s.pump_cand i ▸ hc))
  · exact running_hostRequest_refused h (decideCandWatch_range hr)
  · exact running_hostRequest_refused h (decideCandWatch_notFound hi hw (s.pump_cand i ▸ hc))
  · have hd := decideCandRemove_used (s := s.pump) hj hi (s.pump_cand i ▸ hc)
    split
    next hs => exact running_hostRequest_ok h (by simp) (hd.trans (if_pos hs))
    next hs => exact running_hostRequest_refused h (hd.trans (if_neg hs))
  · have hd := decideCandWatch_used (s := s.pump) hi hw (s.pump_cand i ▸ hc)
    split
    next hf => exact running_hostRequest_refused h (hd.trans (if_pos hf))
    next hf =>
      rw [State.watchCount_modCand] at hd
      exact running_hostRequest_ok h (by simp) (hd.trans (if_neg hf))

/-- Settles O26. -/
theorem papersAndCandidatesAreReported : Obligations.PapersAndCandidatesAreReported := by
  refine ⟨PaperDef.bytes_eq, fun tag slot s h => ⟨fun hs => ?_, fun hs hp => ?_, fun p hs hp => ⟨?_, fun hcode => ?_⟩⟩,
    fun tag i s h hb => ⟨fun hi hr => ?_, fun hn => ?_, fun sel hs => ?_, fun hi hc => ?_, fun h1 h2 hno => ?_,
      fun c sel v hc hv => ?_⟩⟩
  · exact running_hostRequest_refused h (decidePaperRead_range hs)
  · exact running_hostRequest_ok h (by simp) (decidePaperRead_undefined hs (s.pump_paper slot ▸ hp))
  · have hd := decidePaperRead_defined (s := s.pump) hs (s.pump_paper slot ▸ hp)
    simp only [Paper.bytes, MarkState.code_eq] at hd
    exact running_hostRequest_ok h (by simp) hd
  · rw [Paper.length_bytes, hcode]
  · exact running_hostRequest_refused h ((decideCandRead_index hi).trans (if_neg (by omega)))
  · exact running_hostRequest_refused h (decideCandRead_number_range hn)
  · exact running_hostRequest_refused h (decideCandRead_selector hs)
  · exact running_hostRequest_refused h
      (((decideCandRead_index (by omega)).trans (if_pos hi)).trans (candReadAnswer_free (s.pump_cand i ▸ hc)))
  · have hf : s.pump.findNumber i = none := State.findNumber_none hb.cands hno
    exact running_hostRequest_refused h (decideCandRead_unused h1 h2 hf)
  · have ha := candReadAnswer_used (s := s.pump) (s.pump_cand i ▸ hc)
    simp only [Cand.bytes, CandFlags.code_eq, opt8_finishReason] at ha
    have hi : i < 512 := Table.get_lt hb.cands hc
    rcases hv with ⟨rfl, rfl⟩ | ⟨rfl, rfl, h1, h2, hu⟩
    · exact running_hostRequest_ok h (by simp) (((decideCandRead_index (by omega)).trans (if_pos hi)).trans ha)
    · have hf : s.pump.findNumber c.number = some i := State.findNumber_unique hb.cands hc rfl hu
      exact running_hostRequest_ok h (by simp) ((decideCandRead_number h1 h2 hf).trans ha)

end
end

section
/-! PROOF. CAND_ADD (R8 to R10): each check of R8 with what it refuses, and the record R9 gives. -/

namespace Sys2Proof.Machine

variable {s : State}

/-! ### The lowest free index -/

theorem Table.firstFree_eq_some {α : Type} {t : Table α} {n k : Nat} (hk : k < n) (hfree : Table.get t k = none)
    (hlow : ∀ j, j < k → Table.get t j ≠ none) : Table.firstFree t n = some k := by
  refine List.find?_range_eq_some.2 ⟨by simp [hfree], by simpa using hk, fun j hj => ?_⟩
  simpa [Option.isSome_iff_ne_none] using hlow j hj

theorem Table.firstFree_eq_none {α : Type} {t : Table α} {n : Nat} (h : ∀ k, k < n → Table.get t k ≠ none) :
    Table.firstFree t n = none := by
  simpa [Table.firstFree] using h

theorem Table.exists_firstFree {α : Type} {t : Table α} {n k : Nat} (hk : k < n) (hfree : Table.get t k = none) :
    ∃ i, Table.firstFree t n = some i := by
  cases h : Table.firstFree t n with
  | some i => exact ⟨i, rfl⟩
  | none =>
    have := List.find?_eq_none.1 h k (by simpa using hk)
    simp [hfree] at this

/-! ### The checks of R8 -/

@[simp] theorem State.pump_targetFailure (n p : Nat) (m : Separation) (a : Bool) (own : Option Nat) :
    s.pump.targetFailure n p m a own = s.targetFailure n p m a own := rfl

/-- The values of CAND_ADD that check 2 of R8 takes. -/
def CandAddInRange (number slot allowance needs seat : Nat) : Prop :=
  1 ≤ number ∧ number ≤ 999999 ∧ slot < 8 ∧ allowance ≤ 100 ∧ needs ≤ 1 ∧ (seat < 512 ∨ seat = 0xFFFF)

theorem seatField_none : seatField 0xFFFF = none := rfl

theorem seatField_of_lt {seat : Nat} (h : seat < 512) : seatField seat = some seat :=
  if_neg (by simp only [Config.absent16]; omega)

theorem seatField_all (seat : Nat) :
    (seatField seat).all (· < Config.indexCount) = true ↔ seat < 512 ∨ seat = 0xFFFF := by
  by_cases h : seat = 0xFFFF
  · simp [h, seatField_none]
  · simp [seatField, Config.absent16, h]

/-- Check 6 of R8 in R61's terms: a PLANNED paper takes anyone, and one that runs only a candidate with a seat, WRITING and
EXTENDED only while late entry is open. -/
theorem addAllowed_iff {p : Paper} {seat : Nat} (h : seat < 512 ∨ seat = 0xFFFF) :
    addAllowed p (seatField seat) = true ↔ p.state = .planned ∨ seat < 512 ∧ (p.state = .reading ∨
      (p.state = .writing ∨ p.state = .extended) ∧ p.elapsed ≤ p.defn.lateCutoff) := by
  rcases h with h | rfl
  · rw [seatField_of_lt h]
    cases hp : p.state <;> simp [addAllowed, hp, h]
  · rw [seatField_none]
    cases hp : p.state <;> simp [addAllowed, hp]

section
variable {number slot allowance needs restBudget seat : Nat}

theorem decideCandAdd_range (hj : s.job = none) (hr : ¬ CandAddInRange number slot allowance needs seat) :
    decideCandAdd number slot allowance needs restBudget seat s = refuse .range s := by
  rw [CandAddInRange, ← seatField_all] at hr
  simp only [decideCandAdd, hj, Option.isSome_none, Bool.false_eq_true, if_false]
  exact if_pos hr

/-- Past check 2 the decision goes by the paper. -/
theorem decideCandAdd_inRange (hj : s.job = none) (hr : CandAddInRange number slot allowance needs seat) :
    decideCandAdd number slot allowance needs restBudget seat s =
      (s.paper slot).elim (refuse .notFound s) (fun p =>
        if (s.findNumber number).isSome then refuse .conflict s
        else (Table.firstFree s.cands Config.indexCount).elim (refuse .full s) (fun i =>
          if ¬ addAllowed p (seatField seat) then refuse .state s
          else ((seatField seat).bind (fun n => s.targetFailure n slot p.defn.separation (needs == 1) none)).elim
            (s.addCand i (newCand number slot allowance (needs == 1) restBudget p.defn.writing (seatField seat)
                (((seatField seat).map s.seatPresent).getD false)),
              .ok (u16 i ++ (newCand number slot allowance (needs == 1) restBudget p.defn.writing (seatField seat)
                (((seatField seat).map s.seatPresent).getD false)).bytes i s.hallTime))
            (fun f => refuseWith f.1 f.2.code f.2.value s))) := by
  rw [CandAddInRange, ← seatField_all] at hr
  simp only [decideCandAdd, hj, Option.isSome_none, Bool.false_eq_true, if_false]
  rw [if_neg (not_not.2 hr)]
  cases s.paper slot with
  | none => rfl
  | some p =>
    refine if_congr Iff.rfl rfl ?_
    cases Table.firstFree s.cands Config.indexCount with
    | none => rfl
    | some i =>
      refine if_congr Iff.rfl rfl ?_
      cases (seatField seat).bind (fun n => s.targetFailure n slot p.defn.separation (needs == 1) none) <;> rfl

end

theorem exec_candAdd_refused (h : s.LinkFree) {tag number slot allowance needs rest seat detail value : Nat}
    {code : ResultCode} (hd : decideCandAdd number slot allowance needs rest seat s.pump =
      (s.pump, .refused code { code := detail, value := value })) :
    exec (.candAdd tag number slot allowance needs rest seat) s = .next (s.turnedDown 0x12 tag code detail value) :=
  running_hostRequest_refused h (r := .candAdd number slot allowance needs rest seat) hd

theorem exec_candAdd_ok (h : s.LinkFree) {tag number slot allowance needs rest seat : Nat} {u : State} {data : List Byte}
    (hd : decideCandAdd number slot allowance needs rest seat s.pump = (u, .ok data)) :
    exec (.candAdd tag number slot allowance needs rest seat) s = .next (State.replied u 0x12 tag data) :=
  running_hostRequest_ok h (r := .candAdd number slot allowance needs rest seat) (by simp) hd

/-- The record of R9, written out. -/
theorem newCand_eq (number slot allowance needs restBudget writing seat : Nat) :
    newCand number slot allowance (needs == 1) restBudget writing (seatField seat)
        (((seatField seat).map s.seatPresent).getD false) =
      { number := number, paper := slot, allowance := allowance, needsAccess := needs == 1
        restBudget := min restBudget 3600, restUsed := 0, seat := if seat = 0xFFFF then none else some seat
        state := if seat = 0xFFFF then .unseated else .seated, finish := none
        limit := (writing * (100 + allowance) + 99) / 100, used := 0
        flags := ⟨false, false, false, false, false, false, false⟩
        present := if seat = 0xFFFF then false else (s.loop seat).any (fun r => r.presentIn.cond == Level.active)
        result := none, awayCount := 0, awayReported := false } := by
  by_cases h : seat = 0xFFFF
  · subst h
    rfl
  · have hp : s.seatPresent seat = (s.loop seat).any (fun r => r.presentIn.cond == Level.active) := by
      unfold State.seatPresent
      cases s.loop seat with
      | none => rfl
      | some r => exact (beq_eq_decide r.presentIn.cond Level.active).symm
    have hf : seatField seat = some seat := if_neg h
    simp only [hf, h, if_false, ← hp]
    rfl

end Sys2Proof.Machine

section
open Sys2Proof Sys2Proof.Machine

/-- Settles O35: the checks of R8 in their order, each by the branch that the ones before it leave. -/
theorem candAddTakesTheLowestIndex : Obligations.CandAddTakesTheLowestIndex := by
  refine ⟨fun tag number slot allowance needs rest seat s h hj inRange refused hir href => ?_,
    fun tag number slot allowance needs rest seat i p s h hj h1 h2 hs ha hn hp hnum hi hfree hlow =>
      ⟨fun u c hc hu => ⟨fun hseat hpl => ?_, fun hseat hst ht => ?_⟩, newCand_eq ..⟩⟩
  · subst hir href
    refine ⟨fun hr => ?_, fun hr hp => ?_, fun p hr hp => ⟨fun hnum => ?_, fun hnum => ⟨fun hfull => ?_,
      fun i allowed hi hfree hal => ⟨fun hna => ?_, fun code d hok hseat ht => ?_, fun hok hseat hno => ?_⟩⟩⟩⟩
    · exact exec_candAdd_refused h (decideCandAdd_range hj hr)
    all_goals
      have hd := decideCandAdd_inRange (s := s.pump) (restBudget := rest) hj hr
      simp only [State.pump_paper, hp, Option.elim_none, Option.elim_some] at hd
    · exact exec_candAdd_refused h hd
    · rw [if_pos (State.findNumber_isSome (s := s.pump).2 hnum)] at hd
      exact exec_candAdd_refused h hd
    all_goals
      rw [if_neg (by simpa [State.findNumber_isSome] using hnum)] at hd
    · rw [State.pump_cands, Table.firstFree_eq_none hfull] at hd
      exact exec_candAdd_refused h hd
    all_goals
      obtain ⟨k, hk⟩ := Table.exists_firstFree hi hfree
      rw [State.pump_cands, hk, Option.elim_some] at hd
      have hallow := addAllowed_iff (p := p) hr.2.2.2.2.2
      rw [← hal] at hallow
    · rw [if_pos (mt hallow.1 hna)] at hd
      exact exec_candAdd_refused h hd
    · rw [if_neg (not_not.2 (hallow.2 hok)), seatField_of_lt hseat, Option.bind_some,
        State.pump_targetFailure, ht] at hd
      exact exec_candAdd_refused h hd
    · have ht : s.targetFailure seat slot p.defn.separation (needs == 1) none = some (.notFound, ⟨0, 0⟩) := by
        simp [State.targetFailure, hno]
      rw [if_neg (not_not.2 (hallow.2 hok)), seatField_of_lt hseat, Option.bind_some, State.pump_targetFailure, ht] at hd
      exact exec_candAdd_refused h hd
  all_goals
    have hr : CandAddInRange number slot allowance needs seat := ⟨h1, h2, hs, ha, hn, by omega⟩
    have hd := decideCandAdd_inRange (s := s.pump) (restBudget := rest) hj hr
    have hallow := addAllowed_iff (p := p) hr.2.2.2.2.2
    rw [State.pump_paper, hp, Option.elim_some, if_neg (by simpa [State.findNumber_isSome] using hnum), State.pump_cands,
      Table.firstFree_eq_some hi hfree hlow, Option.elim_some] at hd
    subst hu hc
  · rw [if_neg (not_not.2 (hallow.2 (.inl hpl))), hseat, seatField_none, Option.bind_none] at hd
    subst hseat
    exact exec_candAdd_ok h hd
  · rw [if_neg (not_not.2 (hallow.2 (hst.imp id fun hst => ⟨hseat, hst⟩))), seatField_of_lt hseat, Option.bind_some,
      State.pump_targetFailure, ht] at hd
    rw [seatField_of_lt hseat]
    exact exec_candAdd_ok h hd

end
end

section
/-! PROOF. PAPER_DEFINE (R18 to R21): each check of R18 with what it refuses, the clamps of R19, and the record taken. -/

namespace Sys2Proof.Machine

variable {s : State}

/-- A seat walk that R39 and R42 take, with log 41's alternate byte. -/
theorem seatWalkValid_iff (w : SeatWalkArgs) (hall : Hall) : seatWalkValid w hall = true ↔
    (1 ≤ w.countL ∧ w.countL ≤ 64 ∧ 1 ≤ w.countM ∧ w.countM ≤ 64 ∧ 1 ≤ w.countH ∧ w.countH ≤ 64) ∧
    w.countL * w.countM * w.countH ≤ 4096 ∧
    (w.startRow ≤ 31 ∧ w.startCol ≤ 31 ∧ w.startRow < hall.rows ∧ w.startCol < hall.cols) ∧
    (∀ z ∈ [w.eRow, w.eCol, w.o1Row, w.o1Col, w.o2Row, w.o2Col], -31 ≤ z ∧ z ≤ 31) ∧
    (w.alternate = 0 ∨ w.alternate = 1) := by
  have hflag : w.alternate ≤ 1 ↔ w.alternate = 0 ∨ w.alternate = 1 := Nat.le_one_iff_eq_zero_or_eq_one
  simp only [seatWalkValid, countOk, stepOk, Config.maxWalk, Bool.and_eq_true, decide_eq_true_eq, hflag, and_assoc,
    List.forall_mem_cons, List.not_mem_nil, IsEmpty.forall_iff, implies_true, and_true]

/-- The values that check 1 of R18 takes (log 18). -/
theorem paperInRange_iff (slot : Nat) (a : PaperArgs) : paperInRange slot a = true ↔
    slot < 8 ∧ 60 ≤ a.writing ∧ a.writing ≤ 28800 ∧ a.separation ≤ 3 ∧
    (∀ b ∈ a.code, 0x20 ≤ b.toNat ∧ b.toNat ≤ 0x7E) ∧ a.startPresent ≤ 1 ∧ a.start ≤ 16777215 ∧ a.walkPresent ≤ 1 := by
  simp only [paperInRange, Config.slotCount, Config.maxTime, Bool.and_eq_true, decide_eq_true_eq, List.all_eq_true,
    and_assoc]

/-! ### The checks of R18, in order -/

section
variable {slot : Nat} {a : PaperArgs}

theorem decidePaperDefine_range (h : ¬ paperInRange slot a) : decidePaperDefine slot a s = refuse .range s := if_pos h

theorem decidePaperDefine_format (h : paperInRange slot a) (hw : a.walkPresent = 1 ∧ ¬ seatWalkValid a.walk s.hall) :
    decidePaperDefine slot a s = refuse .format s :=
  (if_neg (not_not.2 h)).trans (if_pos hw)

/-- Past check 3 the code decides, and then the slot. -/
theorem decidePaperDefine_free (h : paperInRange slot a) (hw : ¬ (a.walkPresent = 1 ∧ ¬ seatWalkValid a.walk s.hall))
    (hj : ∀ j, s.job = some j → j.paper ≠ slot) : decidePaperDefine slot a s =
      if s.papers.any (fun e => e.1 != slot && e.2.defn.code == a.code) then refuse .conflict s
      else (s.paper slot).elim
        ({ s with papers := Table.insert s.papers slot (Paper.new (paperTaken a)) }, .ok ((paperTaken a).bytes ++ u16 0))
        (fun p => if ¬ (p.state = .planned ∧ s.countCands slot (fun c => c.seat.isSome) = 0) then refuse .state s
          else ((s.modPaper slot (fun q => q.redefined (paperTaken a))).mapCands slot
              (fun c => { c with limit := limitOf (paperTaken a).writing c.allowance }),
            .ok ((paperTaken a).bytes ++ u16 (s.countCands slot (fun _ => true))))) := by
  have hj : ¬ s.job.any (fun j => j.paper == slot) = true := by
    cases hs : s.job with
    | none => simp
    | some j => simpa using hj j hs
  refine (if_neg (not_not.2 h)).trans ((if_neg hw).trans ((if_neg hj).trans ?_))
  refine if_congr Iff.rfl rfl ?_
  cases s.paper slot <;> rfl

end

/-- Another paper has the code (R18 check 4). -/
theorem codeInUse_iff {slot : Nat} {code : List Byte} :
    s.papers.any (fun e => e.1 != slot && e.2.defn.code == code) = true ↔
      ∃ e ∈ s.papers, e.1 ≠ slot ∧ e.2.defn.code = code := by
  simp

/-- No candidate of the paper has a seat. -/
theorem State.noneSeated_iff {slot : Nat} :
    s.countCands slot (fun c => c.seat.isSome) = 0 ↔ ∀ e ∈ s.cands, e.2.paper = slot → e.2.seat = none := by
  simp [State.countCands, List.countP_eq_zero]

/-! ### What is taken (R19 to R21) -/

/-- The separation mode taken is the one the byte names (R198). -/
theorem paperTaken_separation {a : PaperArgs} (h : a.separation ≤ 3) :
    (match (paperTaken a).separation with | .none => 0 | .row => 1 | .grid => 2 | .diag => 3) = a.separation := by
  simp only [paperTaken]
  interval_cases a.separation <;> rfl

/-- The collection group of a paper that is defined or defined again: at the beginning of its walk, which a paper without one
has exhausted (R20, R44). -/
theorem Collecting.new_eq (d : PaperDef) : Collecting.new d =
    { state := .idle, cursor := ⟨0, 0, 0, d.walk.isNone⟩, target := none, timer := 0, admitted := 0, collected := 0
      absent := 0, missing := 0 } := by
  cases hw : d.walk <;> simp [Collecting.new, hw, Cursor.start, Cursor.noWalk]

/-- Every limit of the paper's candidates worked out again (R6, R21). -/
theorem State.mapCands_limit (slot d : Nat) :
    s.mapCands slot (fun c => { c with limit := limitOf d c.allowance }) =
      { s with cands := s.cands.map (fun e : Nat × Cand => if e.2.paper = slot then
        (e.1, { e.2 with limit := (d * (100 + e.2.allowance) + 99) / 100 }) else e) } := by
  have hc : Table.mapAll s.cands (fun c => if c.paper = slot then { c with limit := limitOf d c.allowance } else c) =
      s.cands.map (fun e : Nat × Cand => if e.2.paper = slot then
        (e.1, { e.2 with limit := (d * (100 + e.2.allowance) + 99) / 100 }) else e) := by
    refine List.map_congr_left fun e _ => ?_
    by_cases he : e.2.paper = slot
    · simp only [he, if_true]
      rfl
    · simp only [he, if_false]
  rw [State.mapCands, hc]

theorem exec_paperDefine_refused (h : s.LinkFree) {tag slot : Nat} {a : PaperArgs} {code : ResultCode}
    (hd : decidePaperDefine slot a s.pump = refuse code s.pump) :
    exec (.paperDefine tag slot a) s = .next (s.turnedDown 0x10 tag code 0 0) :=
  running_hostRequest_refused h (r := .paperDefine slot a) hd

theorem exec_paperDefine_ok (h : s.LinkFree) {tag slot : Nat} {a : PaperArgs} {u : State} {data : List Byte}
    (hd : decidePaperDefine slot a s.pump = (u, .ok data)) :
    exec (.paperDefine tag slot a) s = .next (State.replied u 0x10 tag data) :=
  running_hostRequest_ok h (r := .paperDefine slot a) (by simp) hd

end Sys2Proof.Machine

section
open Sys2Proof Sys2Proof.Machine

/-- Settles O34: the checks of R18 in their order; the definition taken is `paperTaken a`. -/
theorem paperDefineTakesTheDefinition : Obligations.PaperDefineTakesTheDefinition := by
  intro valid hvalid
  have hv : ∀ w hall, seatWalkValid w hall = true ↔ valid w hall := by
    rw [hvalid]
    exact seatWalkValid_iff
  clear hvalid
  refine ⟨hv, fun tag slot a s h hr => ?_, fun tag slot a s h hs h1 h2 hsep hcode hst htime => ⟨fun hw hnv => ?_,
    fun hw hj => ⟨fun hused => ?_, fun p hfree hp hbad => ?_⟩, fun hw hj hfree => ?_⟩⟩
  · refine exec_paperDefine_refused h (decidePaperDefine_range fun hin => ?_)
    obtain ⟨i1, i2, i3, i4, i5, i6, i7, i8⟩ := (paperInRange_iff slot a).1 hin
    rcases hr with hr | hr | hr | hr | ⟨b, hb, hr⟩ | hr | hr | hr
    · omega
    · omega
    · omega
    · omega
    · have := i5 b hb
      omega
    · omega
    · omega
    · omega
  · have hin : paperInRange slot a := (paperInRange_iff slot a).2 ⟨hs, h1, h2, hsep, hcode, hst, htime, by omega⟩
    exact exec_paperDefine_refused h (decidePaperDefine_format hin ⟨hw, mt (hv _ _).1 hnv⟩)
  all_goals
    have hin : paperInRange slot a := (paperInRange_iff slot a).2 ⟨hs, h1, h2, hsep, hcode, hst, htime, by omega⟩
    have hwalk : ¬ (a.walkPresent = 1 ∧ ¬ seatWalkValid a.walk s.pump.hall) := fun hn => by
      rcases hw with hw | ⟨-, hw⟩
      · omega
      · exact hn.2 ((hv _ _).2 hw)
    have hd := decidePaperDefine_free (s := s.pump) hin hwalk hj
  · exact exec_paperDefine_refused h (hd.trans (if_pos (codeInUse_iff.2 hused)))
  all_goals
    replace hd := hd.trans (if_neg (mt codeInUse_iff.1 fun ⟨e, he, hne, hc⟩ => (hfree e he).elim hne (· hc)))
  · rw [State.pump_paper, hp, Option.elim_some] at hd
    refine exec_paperDefine_refused h (hd.trans (if_pos fun hok => ?_))
    rcases hbad with hbad | ⟨e, he, hep, hes⟩
    · exact hbad hok.1
    · exact hes (State.noneSeated_iff.1 hok.2 e he hep)
  · refine ⟨paperTaken a, rfl, rfl, rfl, rfl, rfl, rfl, rfl, rfl, paperTaken_separation hsep, rfl, rfl, rfl,
      fun hp => ?_, fun p hp hpl hseats => ?_⟩
    · rw [State.pump_paper, hp, Option.elim_none, Paper.new, Collecting.new_eq] at hd
      exact exec_paperDefine_ok h hd
    · rw [State.pump_paper, hp, Option.elim_some, if_neg (not_not.2 ⟨hpl, State.noneSeated_iff.2 hseats⟩),
        State.mapCands_limit] at hd
      simp only [Paper.redefined, Collecting.new_eq, State.countCands, Bool.and_true] at hd
      exact exec_paperDefine_ok h hd

end
end

section
/-! PROOF. The Notice Queue, the WATCH_TRACE of a change, and the bytes of the notices (R14, R77, R191, R192, R202). -/

namespace Sys2Proof.Machine

variable {s : State}

/-- The changes a WATCH_TRACE reports, read from the record after the change (R14). -/
theorem watched_and_traced_iff {c d : Cand} : (d.flags.watch && traced c d) = true ↔
    d.flags.watch = true ∧ (d.state ≠ c.state ∨ d.seat ≠ c.seat ∨
      { d.flags with watch := false } ≠ { c.flags with watch := false }) := by
  simp only [traced, Bool.and_eq_true, Bool.or_eq_true, decide_eq_true_eq, or_assoc, ne_comm]

theorem State.traceChange_eq (i : Nat) (c d : Cand) (cause : Cause) : s.traceChange i c d cause =
    if d.flags.watch = true ∧ (d.state ≠ c.state ∨ d.seat ≠ c.seat ∨
        { d.flags with watch := false } ≠ { c.flags with watch := false }) then
      s.post i (.watchTrace d.number d.paper c.state d.state d.seat d.used d.limit d.flags cause)
    else s :=
  if_congr watched_and_traced_iff rfl rfl

theorem State.traceOne_used {i : Nat} {c d : Cand} {cause : Cause} (h : s.cand i = some d) :
    s.traceOne i c cause = s.traceChange i c d cause := by
  simp only [State.traceOne, h]

theorem State.changeCand_used {i : Nat} {f : Cand → Cand} {c : Cand} {cause : Cause} (h : s.cand i = some c) :
    s.changeCand i f cause = (s.modCand i f).traceChange i c (f c) cause := by
  have hc : (s.modCand i f).cand i = some (f c) := by simp [h]
  rw [← State.traceOne_used hc]
  simp only [State.changeCand, h]

/-- The active candidates of a paper are those in R82's three states. -/
theorem State.activeCount_eq (slot : Nat) : s.activeCount slot = s.cands.countP (fun e : Nat × Cand => e.2.paper = slot ∧
    (e.2.state = CandState.reading ∨ e.2.state = CandState.writing ∨ e.2.state = CandState.resting)) :=
  List.countP_congr fun e _ => by simp [CandState.active_iff]

theorem State.postPaperState_defined {slot : Nat} {p : Paper} (h : s.paper slot = some p) (previous : PaperState)
    (cause : PaperCause) : s.postPaperState slot previous cause = s.post slot (.paperState previous p.state cause p.elapsed
      p.readingLeft p.coll.admitted p.coll.absent (s.activeCount slot)) := by
  simp only [State.postPaperState, h]

/-! ### Bytes -/

theorem EntryFlags.code_eq (f : EntryFlags) : f.code = (if f.early then 1 else 0) + (if f.walk then 2 else 0) +
    (if f.deferred then 4 else 0) + (if f.outOfOrder then 8 else 0) + (if f.host then 16 else 0) +
    (if f.found then 32 else 0) := by
  obtain ⟨a, b, c, d, e, g⟩ := f
  revert a b c d e g
  decide

theorem resultFlags_eq (neg zero clamped : Bool) :
    resultFlags neg zero clamped = (if neg then 1 else 0) + (if zero then 2 else 0) + (if clamped then 4 else 0) := by
  revert neg zero clamped
  decide

theorem Link.statusCode_eq (l : Link) : l.statusCode = (if l.lostNotice then 1 else 0) +
    (if l.frameDiscarded then 2 else 0) + (if l.requestDropped then 4 else 0) :=
  resultFlags_eq l.lostNotice l.frameDiscarded l.requestDropped

theorem listOf_u8 (xs : List Nat) : listOf u8 xs = u8 xs.length ++ xs.map (BitVec.ofNat 8) := by
  rw [listOf, List.map_eq_flatMap]
  rfl

/-- A cause takes two bytes: its number, and the kind of a request (R202). -/
theorem Cause.bytes_eq (c : Cause) : u8 c.code ++ u8 c.kind =
    match c with
    | .request kind => u8 0 ++ u8 kind
    | .present => u8 1 ++ u8 0 | .done => u8 2 ++ u8 0 | .call => u8 3 ++ u8 0 | .key => u8 4 ++ u8 0
    | .second => u8 5 ++ u8 0 | .holdExpiry => u8 6 ++ u8 0 | .paper => u8 7 ++ u8 0
    | .collection => u8 8 ++ u8 0 | .sheet => u8 9 ++ u8 0 | .seat => u8 10 ++ u8 0 := by
  cases c <;> rfl

end Sys2Proof.Machine

section
open Sys2Proof Sys2Proof.Machine

/-- Settles O10: one lemma for each operation, and the bytes of the notices by cases on the notice. -/
theorem noticesAndTraces : Obligations.NoticesAndTraces := by
  refine ⟨fun s n b => ?_, fun s k g a => ?_, fun s i f c cause h => ?_, fun s before cause => ?_,
    fun s i old new cause h => ?_, fun s slot p previous cause h => ?_, fun n z b xs => ?_, fun n => ?_, rfl, rfl, rfl⟩
  · rfl
  · simp only [State.reply, Link.clearFlags, Link.statusCode_eq]
    rfl
  · rw [State.changeCand_used h, State.traceChange_eq]
  · refine congrArg (fun f => s.cands.foldl f s) (funext fun u => funext fun e => ?_)
    cases Table.get before e.1 with
    | none => rfl
    | some c => exact State.traceChange_eq ..
  · rw [State.traceOne_used h, State.traceChange_eq]
  · rw [State.postPaperState_defined h, State.activeCount_eq]
  · exact ⟨rfl, rfl, rfl, rfl, rfl, by cases b <;> rfl, listOf_u8 xs⟩
  · cases n with
    | watchTrace number paper previous new seat used limit flags cause =>
      simp only [NoticeBody.kind, NoticeBody.items, CandFlags.code_eq, List.append_assoc, Cause.bytes_eq]
      rfl
    | scriptCollected position index number paper seat flags next =>
      simp only [NoticeBody.kind, NoticeBody.items, EntryFlags.code_eq]
      rfl
    | seatFaulted seat row col occupant => cases occupant <;> rfl
    | sheetDiverted tag decision bound cand => cases decision <;> cases cand <;> rfl
    | sheetLost tag cause state decision reported cand returned =>
      rcases decision with _ | _ | _ <;> rcases reported with _ | _ | _ <;> cases cand <;> rfl
    | resultCommitted number paper tag final raw floored neg zero clamped generation =>
      simp only [NoticeBody.kind, NoticeBody.items, resultFlags_eq]
    | _ => rfl

end
end

section
/-! PROOF. What a second event leaves to a walk's target: the seats stand, a candidate keeps its number, DEFERRED and FINISHED, and
the target of a paper changes only by the Collection Unit's work at its own slot (R2, R122, R124). -/

namespace Sys2Proof.Machine

/-! ### The relation -/

/-- What a second event keeps of a candidate: the number, DEFERRED where it is set, and FINISHED. -/
structure Cand.Onward (c d : Cand) : Prop where
  number : d.number = c.number
  deferred : c.flags.deferred = true → d.flags.deferred = true
  finished : c.state = .finished → d.state = .finished

theorem Cand.Onward.refl (c : Cand) : c.Onward c := ⟨rfl, id, id⟩

theorem Cand.Onward.trans {c d e : Cand} (h : c.Onward d) (h' : d.Onward e) : c.Onward e :=
  ⟨h'.number.trans h.number, h'.deferred ∘ h.deferred, h'.finished ∘ h.finished⟩

/-- A candidate who is not FINISHED and keeps number and DEFERRED. -/
theorem Cand.Onward.of_unfinished {c d : Cand} (hs : c.state ≠ .finished) (hn : d.number = c.number)
    (hd : d.flags.deferred = c.flags.deferred) : c.Onward d :=
  ⟨hn, hd ▸ id, fun h => absurd h hs⟩

/-- The paper's definition, target, timer and count of collected scripts are the same. -/
structure Paper.SameTarget (p q : Paper) : Prop where
  defn : q.defn = p.defn
  target : q.coll.target = p.coll.target
  timer : q.coll.timer = p.coll.timer
  collected : q.coll.collected = p.coll.collected

theorem Paper.SameTarget.refl (p : Paper) : p.SameTarget p := ⟨rfl, rfl, rfl, rfl⟩

theorem Paper.SameTarget.trans {p q r : Paper} (h : p.SameTarget q) (h' : q.SameTarget r) : p.SameTarget r :=
  ⟨h'.defn.trans h.defn, h'.target.trans h.target, h'.timer.trans h.timer, h'.collected.trans h.collected⟩

/-- `t` follows `s` within a second event: the papers of the slots in `P` have kept their targets. -/
structure State.Follows (P : Nat → Prop) (s t : State) : Prop where
  seats : t.seats = s.seats
  hallTime : t.hallTime = s.hallTime
  papers : ∀ q p, P q → s.paper q = some p → ∃ p', t.paper q = some p' ∧ p.SameTarget p'
  cands : ∀ i c, s.cand i = some c → ∃ d, t.cand i = some d ∧ c.Onward d
  told : ∀ m, s.Told m → t.Told m

variable {P : Nat → Prop} {s t : State}

theorem State.Follows.refl (s : State) : s.Follows P s :=
  ⟨rfl, rfl, fun _ p _ hp => ⟨p, hp, .refl p⟩, fun _ c hc => ⟨c, hc, .refl c⟩, fun _ => id⟩

theorem State.Follows.trans {u : State} (h : s.Follows P t) (h' : t.Follows P u) : s.Follows P u where
  seats := h'.seats.trans h.seats
  hallTime := h'.hallTime.trans h.hallTime
  papers q p hq hp := by
    obtain ⟨p1, hp1, h1⟩ := h.papers q p hq hp
    obtain ⟨p2, hp2, h2⟩ := h'.papers q p1 hq hp1
    exact ⟨p2, hp2, h1.trans h2⟩
  cands i c hc := by
    obtain ⟨c1, hc1, h1⟩ := h.cands i c hc
    obtain ⟨c2, hc2, h2⟩ := h'.cands i c1 hc1
    exact ⟨c2, hc2, h1.trans h2⟩
  told m := h'.told m ∘ h.told m

/-! ### The updates of one part of the state -/

namespace State.Follows

theorem ite {u : State} {b : Prop} [Decidable b] (ht : b → s.Follows P t) (hu : ¬ b → s.Follows P u) :
    s.Follows P (if b then t else u) := by
  split
  · exact ht ‹_›
  · exact hu ‹_›

theorem foldl {α : Type} {f : State → α → State} {l : List α} (hf : ∀ t, ∀ a ∈ l, s.Follows P t → s.Follows P (f t a))
    (h : s.Follows P t) : s.Follows P (l.foldl f t) := by
  induction l generalizing t with
  | nil => exact h
  | cons a l ih => exact ih (fun t b hb => hf t b (List.mem_cons_of_mem a hb)) (hf t a List.mem_cons_self h)

variable (h : s.Follows P t)
include h

theorem modCand (i : Nat) {f : Cand → Cand}
    (hf : ∀ c, t.cand i = some c → c.Onward (f c) := by exact fun _ _ => ⟨rfl, id, id⟩) : s.Follows P (t.modCand i f) := by
  refine h.trans { State.Follows.refl t with cands := fun j c hc => ?_ }
  rw [State.modCand_cand, hc]
  by_cases hj : j = i
  · exact ⟨f c, by simp [hj], hf c (hj ▸ hc)⟩
  · exact ⟨c, by simp [hj], .refl c⟩

theorem mapCands (p : Nat) {f : Cand → Cand} (hf : ∀ c : Cand, c.Onward (f c)) : s.Follows P (t.mapCands p f) := by
  refine h.trans { State.Follows.refl t with cands := fun j c hc => ?_ }
  rw [State.mapCands_cand, hc]
  refine ⟨_, rfl, ?_⟩
  dsimp only
  split
  · exact hf c
  · exact .refl c

theorem modPaper (q : Nat) {f : Paper → Paper}
    (hf : P q → ∀ p : Paper, p.SameTarget (f p) := by exact fun _ _ => ⟨rfl, rfl, rfl, rfl⟩) : s.Follows P (t.modPaper q f) := by
  refine h.trans { State.Follows.refl (P := P) t with papers := fun r p hr hp => ?_ }
  rw [State.modPaper_paper, hp]
  by_cases hq : r = q
  · exact ⟨f p, by simp [hq], hf (hq ▸ hr) p⟩
  · exact ⟨p, by simp [hq], .refl p⟩

theorem modColl (q : Nat) {f : Collecting → Collecting}
    (hf : P q → ∀ k, (f k).target = k.target ∧ (f k).timer = k.timer ∧ (f k).collected = k.collected := by
      exact fun _ _ => ⟨rfl, rfl, rfl⟩) : s.Follows P (t.modColl q f) :=
  h.modPaper q fun hq p =>
    have ⟨target, timer, collected⟩ := hf hq p.coll
    ⟨rfl, target, timer, collected⟩

theorem post (n : Nat) (b : NoticeBody) : s.Follows P (t.post n b) :=
  h.trans { State.Follows.refl t with told := fun _ hm => hm.post n b }

theorem traceAllBy (b : Table Cand) (c : Cand → Cause) : s.Follows P (t.traceAllBy b c) := by
  refine foldl (fun u e _ hu => ?_) h
  split
  · exact .ite (fun _ => hu.post ..) fun _ => hu
  · exact hu

theorem traceAll (b : Table Cand) (c : Cause) : s.Follows P (t.traceAll b c) := h.traceAllBy ..

/-! ### The Collection Unit, at a slot outside `P` (R120 to R136) -/

theorem setTarget {q : Nat} (n : Nat) (hq : ¬ P q) : s.Follows P (t.setTarget q n) := h.modColl q (absurd · hq)

theorem resolveTarget {q : Nat} (hq : ¬ P q) : s.Follows P (t.resolveTarget q) := h.modColl q (absurd · hq)

theorem defer (i : Nat) : s.Follows P (t.modCand i Cand.setDeferred) := h.modCand i fun _ _ => ⟨rfl, fun _ => rfl, id⟩

theorem passOver (i n : Nat) (b : Bool) (ps : List Passed) : s.Follows P (t.passOver i n b ps).1 := by
  unfold State.passOver
  split
  · exact h.defer i
  · exact h

omit h in
theorem walkOn {q : Nat} (hq : ¬ P q) (fuel : Nat) (r : State × List Passed) (h : s.Follows P r.1) :
    s.Follows P (State.walkOn q fuel r).1 := by
  induction fuel generalizing r with
  | zero => exact h
  | succ fuel ih =>
    have hc : ∀ cursor, s.Follows P (r.1.modColl q fun c => { c with cursor := cursor }) := fun _ => h.modColl q
    unfold State.walkOn
    split
    · exact h
    split
    · exact h
    dsimp only
    split
    · exact hc _
    split
    · exact (hc _).setTarget _ hq
    · exact ih _ (hc _)
    · exact ih _ ((hc _).passOver ..)
    · exact ih _ ((hc _).passOver ..)

theorem findTarget {q : Nat} (hq : ¬ P q) : s.Follows P (t.findTarget q).1 := walkOn hq _ (t, []) h

theorem postSkip (q : Nat) (p : Passed) : s.Follows P (t.postSkip q p) := .ite (fun _ => h.post ..) fun _ => h

theorem postDeferred (q : Nat) (b : Table Cand) (ps : List Passed) : s.Follows P (t.postDeferred q b ps) :=
  (foldl (fun _ p _ hu => hu.postSkip q p) h).traceAll ..

theorem setColl (q : Nat) (new : CollState) (c : CollCause) : s.Follows P (t.setColl q new c) := by
  unfold State.setColl
  split
  · exact h
  · exact .ite (fun _ => h) fun _ => (h.modColl q).post ..

theorem settle (q : Nat) (c : CollCause) : s.Follows P (t.settle q c) := by
  unfold State.settle
  split
  · exact h
  · exact .ite (fun _ => h.setColl ..) fun _ => h.setColl ..

theorem startCollection {q : Nat} (hq : ¬ P q) (c : CollCause) : s.Follows P (t.startCollection q c) := by
  unfold State.startCollection
  split
  · exact h
  · exact .ite (fun _ => h) fun _ => ((h.findTarget hq).postDeferred ..).settle ..

theorem skipTarget {q : Nat} (hq : ¬ P q) (r : SkipReason) : s.Follows P (t.skipTarget q r) := by
  unfold State.skipTarget
  split
  · exact h
  split
  · exact h
  next i _ =>
  split
  · exact h
  · exact (((((h.defer i).resolveTarget hq).findTarget hq).post ..).postDeferred ..).settle ..

theorem tickTarget {q : Nat} (hq : ¬ P q) : s.Follows P (t.tickTarget q) := by
  unfold State.tickTarget
  split
  · exact h
  · have ht := h.modColl q (f := fun c => { c with timer := min (c.timer + 1) Config.maxTimeout }) (absurd · hq)
    exact .ite (fun _ => h) fun _ => .ite (fun _ => ht.skipTarget hq _) fun _ => ht

theorem tickCollection {q : Nat} (hq : ¬ P q) (b : State) : s.Follows P (b.tickCollection t q) :=
  .ite (fun _ => h.startCollection hq _) fun _ => h.tickTarget hq

/-! ### The Session Timer (R67 to R90) -/

theorem postPaperState (q : Nat) (x : PaperState) (c : PaperCause) : s.Follows P (t.postPaperState q x c) := by
  unfold State.postPaperState
  split
  · exact h
  · exact h.post ..

theorem makeAbsent (q : Nat) : s.Follows P (t.makeAbsent q) := by
  refine (h.mapCands q fun c => ?_).modColl q
  unfold Cand.toAbsent
  split
  next hs => exact .of_unfinished (by simp [hs]) rfl rfl
  next => exact .refl c

theorem closePaper (q : Nat) : s.Follows P (t.closePaper q) := ((h.makeAbsent q).modPaper q).postPaperState ..

theorem startRecords (q : Nat) (c : PaperCause) : s.Follows P (t.startRecords q c) := by
  unfold State.startRecords
  split
  · exact h
  refine ((h.mapCands q fun c => ?_).modPaper q).postPaperState ..
  unfold Cand.started
  split
  next hd => exact .of_unfinished (fun hs => by simp [Cand.atDesk, hs] at hd) rfl rfl
  next => exact .refl c

theorem scheduledRecords : s.Follows P t.scheduledRecords := foldl (fun _ q _ hu => hu.startRecords q _) h

theorem tickClock (i : Nat) : s.Follows P (t.tickClock i) := by
  unfold State.tickClock
  split
  · exact h
  next c hc =>
  have hgo : ∀ f : Cand → Cand, c.state ≠ .finished → (f c).number = c.number → (f c).flags.deferred = c.flags.deferred →
      s.Follows P (t.modCand i f) := fun f hs hn hd => h.modCand i fun d hd' => by
    obtain rfl : c = d := Option.some.inj (hc.symm.trans hd')
    exact .of_unfinished hs hn hd
  split
  next hs =>
    simp only [State.modCand_modCand]
    exact .ite (fun _ => .ite (fun _ => hgo _ (by simp [hs]) rfl rfl) fun _ => hgo _ (by simp [hs]) rfl rfl) fun _ => h
  next hs =>
    simp only [State.modCand_modCand]
    exact .ite (fun _ => (hgo _ (by simp [hs]) rfl rfl).post ..) fun _ => hgo _ (by simp [hs]) rfl rfl
  all_goals exact h

theorem tickAway (i : Nat) : s.Follows P (t.tickAway i) := by
  unfold State.tickAway
  split
  · exact h
  next c _ =>
  have hm : s.Follows P (t.modCand i fun x => { x with awayCount := min (c.awayCount + 1) Config.maxAway }) :=
    h.modCand i
  exact .ite (fun _ => h) fun _ => .ite (fun _ => (hm.modCand i).post ..) fun _ => hm

theorem endReading (q : Nat) : s.Follows P (t.endReading q) := by
  refine ((h.mapCands q fun c => ?_).modPaper q).postPaperState ..
  split
  next hs => exact .of_unfinished (by simp [hs]) rfl rfl
  next => exact .refl c

theorem endBase (q : Nat) : s.Follows P (t.endBase q) := ((h.makeAbsent q).modPaper q).postPaperState ..

theorem tickPaper (q : Nat) : s.Follows P (t.tickPaper q) := by
  unfold State.tickPaper
  split
  · exact h
  split
  · exact .ite (fun _ => h.endReading q) fun _ => h.modPaper q
  · exact .ite (fun _ => (h.modPaper q).endBase q) fun _ =>
      .ite (fun _ => (h.modPaper q).makeAbsent q) fun _ => h.modPaper q
  all_goals exact h

theorem tickRecords : s.Follows P t.tickRecords :=
  (foldl (fun _ q _ hu => hu.tickPaper q) (foldl (fun _ i _ hu => (hu.tickClock i).tickAway i) h)).scheduledRecords

theorem closeFinished (b : State) : s.Follows P (b.closeFinished t) :=
  (foldl (fun _ q _ hu => hu.closePaper q) h).traceAll ..

end State.Follows
end Sys2Proof.Machine
end

section
/-! PROOF. A target that is passed: the notices of the skip in their order, and that the walk does not come back to the seat
(R122, R124, R136). -/

namespace Sys2Proof.Machine

variable {s t : State} {slot n i k : Nat} {p : Paper} {x : Seat} {c : Cand} {reason : SkipReason}

/-! ### The notices of a skip (R136, log 45) -/

/-- The notices of the candidates passed over do not change the target they carry. -/
theorem State.foldl_postSkip {next : Option Nat} (ps : List Passed) (h : s.targetSeat slot = next) :
    ps.foldl (fun t q => t.postSkip slot q) s = ps.foldl (fun u q =>
      if q.fault then u.post slot (.collectSkipped slot q.seat q.index q.old.number .seatFault next) else u) s := by
  induction ps generalizing s with
  | nil => rfl
  | cons q ps ih =>
    have hq : (s.postSkip slot q).targetSeat slot = next := by
      obtain ⟨l, hl⟩ := State.postSkip_link slot q s
      rw [hl]
      exact h
    rw [List.foldl_cons, List.foldl_cons, ih hq, State.postSkip, h]

/-- The state from which the walk of a paper moves on when its target, with candidate `i`, is passed. -/
def State.passTarget (s : State) (slot i : Nat) : State := (s.modCand i Cand.setDeferred).resolveTarget slot

/-- A target with a candidate is passed: its COLLECT_SKIPPED, then the notices of the walk, then the collection state. -/
theorem State.skipTarget_eq (hp : s.paper slot = some p) (ht : p.coll.target = some n) (hx : s.seat n = some x)
    (ho : x.occupant = some i) (hc : s.cand i = some c) : s.skipTarget slot reason =
      ((((s.passTarget slot i).findTarget slot).1.post slot (.collectSkipped slot n i c.number reason
        (((s.passTarget slot i).findTarget slot).1.targetSeat slot))).postDeferred slot s.cands
          ((s.passTarget slot i).findTarget slot).2).settle slot .walkEnd := by
  simp only [State.skipTarget, State.targetSeat, hp, hx, hc, Option.bind_some, ht, ho, State.passTarget]

theorem State.modColl_paper_same {f : Collecting → Collecting} (hp : s.paper slot = some p) :
    (s.modColl slot f).paper slot = some { p with coll := f p.coll } := by
  simp [State.modColl, hp]

/-! ### The walk does not come back -/

/-- The seat of a candidate who is DEFERRED is not made target (R122). -/
theorem State.judge_ne_target_of_deferred (hx : s.seat n = some x) (ho : x.occupant = some i) (hc : s.cand i = some c)
    (hd : c.flags.deferred = true) : s.judge slot n ≠ .target := by
  simp only [State.judge, hx, ho, hc, hd, Bool.true_eq_false, and_false, if_false]
  split
  · simp
  · split <;> simp

/-- The paper in the slot has a target other than seat `n`, or none, with timer 0, and `k` scripts collected. -/
def State.OffTarget (t : State) (slot n k : Nat) : Prop :=
  ∃ q, t.paper slot = some q ∧ q.coll.target ≠ some n ∧ q.coll.timer = 0 ∧ q.coll.collected = k

theorem State.OffTarget.of_papers (h : s.OffTarget slot n k) (hp : t.papers = s.papers) : t.OffTarget slot n k := by
  obtain ⟨q, hq, h⟩ := h
  exact ⟨q, (State.paper_congr hp slot).trans hq, h⟩

theorem State.OffTarget.withCursor (h : s.OffTarget slot n k) (cursor : Cursor) :
    (s.modColl slot fun c => { c with cursor := cursor }).OffTarget slot n k := by
  obtain ⟨q, hq, h⟩ := h
  exact ⟨_, State.modColl_paper_same hq, h⟩

theorem State.OffTarget.setTarget (h : s.OffTarget slot n k) {m : Nat} (hm : m ≠ n) :
    (s.setTarget slot m).OffTarget slot n k := by
  obtain ⟨q, hq, -, -, h⟩ := h
  exact ⟨_, State.modColl_paper_same hq, by simpa using hm, rfl, h⟩

theorem State.passOver_papers (i n : Nat) (b : Bool) (ps : List Passed) : (s.passOver i n b ps).1.papers = s.papers := by
  unfold State.passOver
  split <;> rfl

/-- A walk that begins off a seat whose candidate is DEFERRED stays off it. -/
theorem State.OffTarget.walkOn (hx : s.seat n = some x) (ho : x.occupant = some i) (hc : s.cand i = some c)
    (hd : c.flags.deferred = true) (fuel : Nat) (r : State × List Passed) (hr : s.Follows (fun _ => False) r.1)
    (h : r.1.OffTarget slot n k) : (State.walkOn slot fuel r).1.OffTarget slot n k := by
  induction fuel generalizing r with
  | zero => exact h
  | succ fuel ih =>
    have hcur : ∀ cursor, s.Follows (fun _ => False) (r.1.modColl slot fun c => { c with cursor := cursor }) :=
      fun _ => hr.modColl slot
    unfold State.walkOn
    split
    · exact h
    split
    · exact h
    dsimp only
    split
    · exact h.withCursor _
    next m _ =>
    split
    next hj =>
      refine (h.withCursor _).setTarget ?_
      rintro rfl
      obtain ⟨d, hcd, hon⟩ := hr.cands i c hc
      exact State.judge_ne_target_of_deferred ((State.seat_congr hr.seats m).trans hx) ho hcd (hon.deferred hd) hj
    next => exact ih _ (hcur _) (h.withCursor _)
    next => exact ih _ ((hcur _).passOver ..) ((h.withCursor _).of_papers (State.passOver_papers ..))
    next => exact ih _ ((hcur _).passOver ..) ((h.withCursor _).of_papers (State.passOver_papers ..))

/-! ### A skip, and what follows it in the same event -/

/-- Seat `n`, the paper's target with candidate `i`, who was `c`, has been passed in this event (R124). -/
def State.Skipped (t : State) (slot n i k : Nat) (c : Cand) (reason : SkipReason) : Prop :=
  ∃ q d, t.paper slot = some q ∧ t.cand i = some d ∧ c.Onward d ∧ d.flags.deferred = true ∧ q.coll.target ≠ some n ∧
    q.coll.timer = 0 ∧ q.coll.collected = k ∧
    t.Told ⟨t.hallTime, slot, .collectSkipped slot n i c.number reason q.coll.target⟩

/-- What follows in the event leaves a skip as it is. -/
theorem State.Skipped.follows (h : s.Skipped slot n i k c reason) (hf : s.Follows (· = slot) t) :
    t.Skipped slot n i k c reason := by
  obtain ⟨q, d, hq, hd, hon, hdef, htgt, htim, hcol, htold⟩ := h
  obtain ⟨q', hq', hsame⟩ := hf.papers slot q rfl hq
  obtain ⟨d', hd', hon'⟩ := hf.cands i d hd
  refine ⟨q', d', hq', hd', hon.trans hon', hon'.deferred hdef, hsame.target ▸ htgt, hsame.timer ▸ htim,
    hsame.collected ▸ hcol, ?_⟩
  rw [hsame.target, hf.hallTime]
  exact hf.told _ htold

/-- A skip of a candidate is one of the record it had earlier in the event. -/
theorem State.Skipped.of_onward {d : Cand} (h : s.Skipped slot n i k d reason) (hc : c.Onward d) :
    s.Skipped slot n i k c reason := by
  obtain ⟨q, e, hq, he, hon, h⟩ := h
  exact ⟨q, e, hq, he, hc.trans hon, hc.number ▸ h⟩

/-- What the passing of a target does (R124). -/
theorem State.skipTarget_skipped (hp : s.paper slot = some p) (ht : p.coll.target = some n) (hx : s.seat n = some x)
    (ho : x.occupant = some i) (hc : s.cand i = some c) :
    (s.skipTarget slot reason).Skipped slot n i p.coll.collected c reason := by
  have hstart : s.Follows (fun _ => False) (s.passTarget slot i) := ((State.Follows.refl s).defer i).resolveTarget id
  have hdef : (s.passTarget slot i).cand i = some c.setDeferred := by
    have : (s.modCand i Cand.setDeferred).cand i = some c.setDeferred := by simp [hc]
    exact this
  have hoff : (s.passTarget slot i).OffTarget slot n p.coll.collected :=
    ⟨_, State.modColl_paper_same (s := s.modCand i Cand.setDeferred) hp, by simp, rfl, rfl⟩
  have hseat : (s.passTarget slot i).seat n = some x := (State.seat_congr hstart.seats n).trans hx
  obtain ⟨q, hq, htgt, htim, hcol⟩ := hoff.walkOn hseat ho hdef rfl (Config.maxWalk + 1) (s.passTarget slot i, []) (.refl _)
  obtain ⟨d, hd, hon⟩ := ((State.Follows.refl (s.passTarget slot i)).findTarget (P := fun _ => False) (q := slot) id).cands
    i _ hdef
  rw [State.skipTarget_eq hp ht hx ho hc]
  have hposted : (((s.passTarget slot i).findTarget slot).1.post slot (.collectSkipped slot n i c.number reason
      (((s.passTarget slot i).findTarget slot).1.targetSeat slot))).Skipped slot n i p.coll.collected c reason := by
    refine ⟨q, d, (State.post_paper ..).trans hq, (State.post_cand ..).trans hd, ⟨hon.number, fun _ => hon.deferred rfl,
      hon.finished⟩, hon.deferred rfl, htgt, htim, hcol, ?_⟩
    have hnext : ((s.passTarget slot i).findTarget slot).1.targetSeat slot = q.coll.target := by
      rw [State.targetSeat, State.findTarget, hq]
      rfl
    rw [hnext]
    exact State.post_told ..
  exact hposted.follows (((State.Follows.refl _).postDeferred ..).settle ..)

/-! ### The second event at which the timer runs out (R124) -/

/-- The target timer runs out: the target is passed. -/
theorem State.tickTarget_skipped (hp : s.paper slot = some p) (ht : p.coll.target = some n) (h0 : p.defn.collectTimeout ≠ 0)
    (hdue : p.defn.collectTimeout ≤ p.coll.timer + 1) (hx : s.seat n = some x) (ho : x.occupant = some i)
    (hc : s.cand i = some c) : (s.tickTarget slot).Skipped slot n i p.coll.collected c .timeout := by
  have e : s.tickTarget slot =
      (s.modColl slot (fun c => { c with timer := min (c.timer + 1) Config.maxTimeout })).skipTarget slot .timeout := by
    simp [State.tickTarget, hp, ht, h0, hdue]
  rw [e]
  exact State.skipTarget_skipped (p := { p with coll := { p.coll with timer := min (p.coll.timer + 1) Config.maxTimeout } })
    (State.modColl_paper_same hp) ht hx ho hc

/-- The second event of a hall that is not held (R67). -/
theorem State.secondEvent_running (h : s.hold = none) :
    s.secondEvent = { s with hallTime := nextTime s.hallTime }.runSecond := by
  unfold State.secondEvent
  split
  next cause hc => exact absurd (h.symm.trans hc) nofun
  next => rfl

/-- The second event of a hall that is not held passes a target whose timer runs out. -/
theorem State.runSecond_skipped (hslot : slot ∈ slots) (hp : s.paper slot = some p) (hs : p.state ≠ .writing)
    (ht : p.coll.target = some n) (h0 : p.defn.collectTimeout ≠ 0) (hdue : p.defn.collectTimeout ≤ p.coll.timer + 1)
    (hx : s.seat n = some x) (ho : x.occupant = some i) (hc : s.cand i = some c) :
    s.runSecond.Skipped slot n i p.coll.collected c .timeout := by
  obtain ⟨before, after, hsplit⟩ := List.append_of_mem hslot
  have hnodup : (before ++ slot :: after).Nodup := hsplit ▸ List.nodup_range
  obtain ⟨-, ⟨hafter, -⟩, hbefore⟩ := by simpa only [List.nodup_append, List.nodup_cons] using hnodup
  have hfirst : s.Follows (· = slot) (before.foldl (State.tickCollection s)
      (s.closeFinished (s.tickRecords.traceAllBy s.cands (s.eventCause .second)))) :=
    .foldl (fun u q hq hu => hu.tickCollection (fun e => hbefore q hq slot List.mem_cons_self e) s)
      (((State.Follows.refl s).tickRecords.traceAllBy ..).closeFinished s)
  unfold State.runSecond
  rw [hsplit, List.foldl_append, List.foldl_cons]
  generalize before.foldl (State.tickCollection s) _ = u at hfirst ⊢
  obtain ⟨q, hq, hsame⟩ := hfirst.papers slot p rfl hp
  obtain ⟨d, hd, hon⟩ := hfirst.cands i c hc
  have hown : s.tickCollection u slot = u.tickTarget slot := by
    have hw : s.paperWriting slot = false := by simp [State.paperWriting, hp, hs]
    simp [State.tickCollection, hw]
  have hskip : (u.tickTarget slot).Skipped slot n i q.coll.collected d .timeout :=
    State.tickTarget_skipped hq (hsame.target.trans ht) (hsame.defn ▸ h0) (by rw [hsame.defn, hsame.timer]; exact hdue)
      ((State.seat_congr hfirst.seats n).trans hx) ho hd
  rw [hown, ← hsame.collected]
  refine (hskip.of_onward hon).follows (.foldl (fun v r hr hv => hv.tickCollection ?_ s) (.refl _))
  rintro rfl
  exact hafter hr

theorem State.Follows.pump {P : Nat → Prop} (s : State) : s.Follows P s.pump :=
  { State.Follows.refl s with told := fun _ hm => hm.pump }

end Sys2Proof.Machine

section
open Sys2Proof Sys2Proof.Machine

/-- Settles O20: the walk stays off the seat of a DEFERRED candidate, and the rest of the event follows the skip. -/
theorem collectTimeoutPassesTheTarget : Obligations.CollectTimeoutPassesTheTarget := by
  refine ⟨fun s slot n i p x c reason hp ht hx ho hc r next hr hnext => ?_,
    fun s slot n i p x c hrun hb hp hs ht h0 hdue hx ho hc => ?_⟩
  · subst hr hnext
    rw [State.skipTarget_eq hp ht hx ho hc, State.postDeferred, State.foldl_postSkip _ rfl]
    rfl
  · have hslot : slot ∈ slots :=
      List.mem_range.2 (((Table.wf_iff 8 s.papers).1 hb.papers).2 _ (List.mem_map_of_mem (Table.get_mem hp)))
    have hdue' : s.pump.targetDue slot = true := by simp [State.targetDue, hrun.2, hp, ht, h0, hdue]
    have hev : s.pump.secondIf (s.pump.targetDue slot) = { s.pump with hallTime := nextTime s.pump.hallTime }.runSecond := by
      rw [hdue', State.secondIf_true, State.secondEvent_running (by simpa using hrun.2)]
    obtain ⟨q, d, hq, hd, hon, hdef, htgt, htim, hcol, htold⟩ := (State.runSecond_skipped
      (s := { s.pump with hallTime := nextTime s.pump.hallTime }) hslot hp hs ht h0 hdue hx ho hc).follows (.pump _)
    refine ⟨_, q, d, ?_, hq, hd, hdef, hon.finished, htgt, htim, hcol, htold⟩
    rw [← hev]
    exact running_high _ hrun.1

end
end

section
/-! PROOF. The neighbours of a seat and the target test (R30, R53, R62), with what is listed in a table's order. -/

namespace Sys2Proof.Machine

/-! ### Tables in rising order -/

/-- In a canonical table the records listed are the records read. -/
theorem Table.mem_iff_get {α : Type} {n : Nat} {t : Table α} (hw : Table.wf n t = true) {k : Nat} {v : α} :
    (k, v) ∈ t ↔ Table.get t k = some v :=
  ⟨fun h => Table.get_of_mem hw h, Table.get_mem⟩

/-- In a canonical table a search finds the record of the lowest number that passes. -/
theorem Table.find?_eq_some_of_lowest {α : Type} {n : Nat} {t : Table α} (hw : Table.wf n t = true) {k : Nat} {v : α}
    {test : Nat × α → Bool} (hv : Table.get t k = some v) (hk : test (k, v) = true)
    (hlow : ∀ j w, j < k → Table.get t j = some w → test (j, w) ≠ true) : t.find? test = some (k, v) := by
  obtain ⟨e, hf⟩ := Option.isSome_iff_exists.1 (List.find?_isSome.2 ⟨(k, v), Table.get_mem hv, hk⟩)
  obtain ⟨he, before, after, rfl, hbefore⟩ := List.find?_eq_some_iff_append.1 hf
  have hrise := ((Table.wf_iff n _).1 hw).1
  simp only [Table.keys, List.map_append, List.map_cons, List.pairwise_append, List.pairwise_cons] at hrise
  have hkv := Table.get_mem hv
  simp only [List.mem_append, List.mem_cons] at hkv
  rcases hkv with hkv | rfl | hkv
  · exact absurd hk (by simpa using hbefore _ hkv)
  · exact hf
  · have hlt : e.1 < k := hrise.2.1.1 k (List.mem_map_of_mem hkv)
    exact absurd he (hlow e.1 e.2 hlt (Table.get_of_mem hw (by simp)))

/-! ### Neighbours (R30) -/

variable {s : State}

theorem differByOne_iff {a b : Nat} : differByOne a b = true ↔ a = b + 1 ∨ b = a + 1 := by
  simp [differByOne]

theorem neighbours_none_iff {a b : Seat} : neighbours .none a b = true ↔ False := iff_of_false nofun id

theorem neighbours_row_iff {a b : Seat} :
    neighbours .row a b = true ↔ a.row = b.row ∧ (a.col = b.col + 1 ∨ b.col = a.col + 1) := by
  simp [neighbours, differByOne_iff]

theorem neighbours_grid_iff {a b : Seat} : neighbours .grid a b = true ↔
    a.row = b.row ∧ (a.col = b.col + 1 ∨ b.col = a.col + 1) ∨
      a.col = b.col ∧ (a.row = b.row + 1 ∨ b.row = a.row + 1) := by
  simp [neighbours, differByOne_iff]

theorem neighbours_diag_iff {a b : Seat} : neighbours .diag a b = true ↔
    a.row = b.row ∧ (a.col = b.col + 1 ∨ b.col = a.col + 1) ∨
      (a.row = b.row + 1 ∨ b.row = a.row + 1) ∧ (a.col = b.col ∨ a.col = b.col + 1 ∨ b.col = a.col + 1) := by
  simp only [neighbours, differByOne_iff, Bool.or_eq_true, Bool.and_eq_true, beq_iff_eq]
  tauto

/-! ### The separation test (R53) -/

theorem State.holdsPaper_iff {y : Seat} {paper : Nat} :
    s.holdsPaper y paper = true ↔ ∃ i c, y.occupant = some i ∧ s.cand i = some c ∧ c.paper = paper := by
  cases ho : y.occupant with
  | none => simp [State.holdsPaper, ho]
  | some i => cases hc : s.cand i <;> simp [State.holdsPaper, ho, hc]

/-- A defined seat that is a neighbour and that a candidate of the paper holds. -/
theorem State.holdsNeighbour_iff {mode : Separation} {x y : Seat} {k paper : Nat} {adjacent : Prop}
    (h : neighbours mode x y = true ↔ adjacent) :
    (∃ i c, s.seat k = some y ∧ y.occupant = some i ∧ s.cand i = some c ∧ c.paper = paper ∧ adjacent) ↔
      s.seat k = some y ∧ neighbours mode x y = true ∧ s.holdsPaper y paper = true := by
  rw [h, State.holdsPaper_iff]
  constructor
  · rintro ⟨i, c, hy, ho, hc, hp, ha⟩
    exact ⟨hy, ha, i, c, ho, hc, hp⟩
  · rintro ⟨hy, ha, i, c, ho, hc, hp⟩
    exact ⟨i, c, hy, ho, hc, hp, ha⟩

/-- Seat `k` stands in the way of a candidate of the paper at seat `n`: a neighbour, not the candidate's own seat, that a
candidate of the paper holds (R53). -/
def State.Blocks (s : State) (mode : Separation) (paper n : Nat) (x : Seat) (own : Option Nat) (k : Nat) : Prop :=
  k ≠ n ∧ own ≠ some k ∧ ∃ y, s.seat k = some y ∧ neighbours mode x y = true ∧ s.holdsPaper y paper = true

section
variable {mode : Separation} {paper n k : Nat} {x : Seat} {own : Option Nat}

theorem State.firstBlocking_eq_none_iff (hb : s.Bounded) :
    s.firstBlocking mode paper n x own = none ↔ ∀ k, ¬ s.Blocks mode paper n x own k := by
  simp only [State.firstBlocking, Option.map_eq_none_iff, List.find?_eq_none, Prod.forall, Table.mem_iff_get hb.seats,
    Bool.and_eq_true, bne_iff_ne, and_assoc]
  refine forall_congr' fun k => ⟨fun h hk => ?_, fun h y hy hk => ?_⟩
  · obtain ⟨hn, hown, y, hy, hrest⟩ := hk
    exact h y hy ⟨hn, hown, hrest⟩
  · obtain ⟨hn, hown, hrest⟩ := hk
    exact h ⟨hn, hown, y, hy, hrest⟩

/-- The lowest of the seats in the way is the first. -/
theorem State.firstBlocking_eq_some (hb : s.Bounded) (hk : s.Blocks mode paper n x own k)
    (hlow : ∀ j, j < k → ¬ s.Blocks mode paper n x own j) : s.firstBlocking mode paper n x own = some k := by
  obtain ⟨hn, hown, y, hy, hadj, hpaper⟩ := hk
  have hf := Table.find?_eq_some_of_lowest hb.seats (test := fun e =>
    e.1 != n && own != some e.1 && neighbours mode x e.2 && s.holdsPaper e.2 paper) hy (by simp [hn, hown, hadj, hpaper])
    fun j z hj hz ht => by
      simp only [Bool.and_eq_true, bne_iff_ne] at ht
      exact hlow j hj ⟨ht.1.1.1, ht.1.1.2, z, hz, ht.1.2, ht.2⟩
  rw [State.firstBlocking, hf, Option.map_some]

/-! ### The target test (R62) -/

variable {access : Bool}

theorem State.targetFailure_of_not_enabled (hx : s.seat n = some x) (he : x.state ≠ .enabled) :
    s.targetFailure n paper mode access own = some (.state, ⟨1, x.state.code⟩) := by
  simp [State.targetFailure, hx, he]

theorem State.targetFailure_of_occupied {i : Nat} (hx : s.seat n = some x) (he : x.state = .enabled)
    (ho : x.occupant = some i) : s.targetFailure n paper mode access own = some (.conflict, ⟨2, i⟩) := by
  simp [State.targetFailure, hx, he, ho]

theorem State.targetFailure_of_not_access (hx : s.seat n = some x) (he : x.state = .enabled) (ho : x.occupant = none)
    (ha : access = true) (hc : x.cls ≠ .access) : s.targetFailure n paper mode access own = some (.conflict, ⟨3, 0⟩) := by
  simp [State.targetFailure, hx, he, ho, ha, hc]

/-- Past the class the separation test decides. -/
theorem State.targetFailure_eq_firstBlocking (hx : s.seat n = some x) (he : x.state = .enabled) (ho : x.occupant = none)
    (ha : access = true → x.cls = .access) : s.targetFailure n paper mode access own =
      (s.firstBlocking mode paper n x own).map (fun k => (.conflict, ⟨4, k⟩)) := by
  have hcls : ¬ (access = true ∧ x.cls ≠ .access) := fun h => h.2 (ha h.1)
  simp only [State.targetFailure, hx, he, ho, hcls, ne_eq, not_true_eq_false, if_false]
  cases s.firstBlocking mode paper n x own <;> rfl

/-- The test passes exactly where no check fails. -/
theorem State.targetFailure_eq_none_iff (hb : s.Bounded) (hx : s.seat n = some x) :
    s.targetFailure n paper mode access own = none ↔
      x.state = .enabled ∧ x.occupant = none ∧ (access = true → x.cls = .access) ∧
        ∀ k, ¬ s.Blocks mode paper n x own k := by
  by_cases he : x.state = .enabled
  case neg => simp [State.targetFailure_of_not_enabled hx he, he]
  cases ho : x.occupant with
  | some i => simp [State.targetFailure_of_occupied hx he ho]
  | none =>
    by_cases ha : access = true → x.cls = .access
    · rw [State.targetFailure_eq_firstBlocking hx he ho ha, Option.map_eq_none_iff, State.firstBlocking_eq_none_iff hb]
      simp only [he, true_and, and_iff_right ha]
    · obtain ⟨hacc, hcls⟩ := Classical.not_imp.1 ha
      simp [State.targetFailure_of_not_access hx he ho hacc hcls, ha]

end

end Sys2Proof.Machine

section
open Sys2Proof Sys2Proof.Machine

/-- Settles O33: the checks in their order, the last of them by the seats in the way. -/
theorem targetTestFollowsItsTable : Obligations.TargetTestFollowsItsTable := by
  intro s n paper mode access own x blocks hb hx hblocks
  have hin : ∀ k, blocks k ↔ s.Blocks mode paper n x own k := by
    intro k
    rw [hblocks]
    refine and_congr_right fun _ => and_congr_right fun _ => exists_congr fun y => ?_
    cases mode with
    | none => exact State.holdsNeighbour_iff neighbours_none_iff
    | row => exact State.holdsNeighbour_iff neighbours_row_iff
    | grid => exact State.holdsNeighbour_iff neighbours_grid_iff
    | diag => exact State.holdsNeighbour_iff neighbours_diag_iff
  simp only [hin]
  refine ⟨State.targetFailure_eq_none_iff hb hx, fun k he ho ha hk hlow => ?_, fun he => ?_,
    fun i he ho => State.targetFailure_of_occupied hx he ho, fun he ho ha hc => ?_⟩
  · rw [State.targetFailure_eq_firstBlocking hx he ho ha, State.firstBlocking_eq_some hb hk hlow, Option.map_some]
  · rw [State.targetFailure_of_not_enabled hx he]
    cases x.state <;> rfl
  · exact State.targetFailure_of_not_access hx he ho ha (by simp [hc])

end
end

section
/-! PROOF. The seat loop's closing polls, the end of a reply window, and the third missed reply (R36, R98 to R103, R125). -/

namespace Sys2Proof.Machine

variable {s : State} {n slot i : Nat} {x : Seat} {r : LoopRec} {c : Cand} {p : Paper}

/-! ### Closing polls (R98, R100) -/

/-- The four bytes of a poll with lamp OFF: the check byte makes them sum to 0xFF (R100). -/
theorem pollBytes_off (n : Nat) : pollBytes n (LampCmd.of .off) =
    [BitVec.ofNat 8 (128 + n / 256), BitVec.ofNat 8 n, 0,
      0xFF - BitVec.ofNat 8 (128 + n / 256) - BitVec.ofNat 8 n] := by
  have hsum : ∀ a b : Byte, checkByte [a, b, 0] = 0xFF - a - b := fun a b => by
    simp [checkByte, sub_add_eq_sub_sub]
  rw [← hsum]
  rfl

theorem State.closingPoll_of_sweep (hw : s.window = none) (hn : n < 512) (hs : s.sweep = some n) :
    s.closingPoll = { s.sendClosing n with sweep := some (n + 1) } := by
  simp [State.closingPoll, hw, hs, hn]

theorem State.closingPoll_of_closing {rest : List Nat} (hw : s.window = none) (hs : s.sweep = none)
    (hc : s.closing = n :: rest) : s.closingPoll = { s.sendClosing n with closing := rest } := by
  simp [State.closingPoll, hw, hs, hc]

/-! ### The end of a reply window (R98, R99, R102) -/

theorem State.missedReply_of_closing {spoiled : Bool} (hw : s.window = some ⟨n, true, spoiled⟩) :
    s.missedReply = s.endWindow := by
  simp [State.missedReply, hw]

theorem State.missedReply_of_regular {spoiled : Bool} (hw : s.window = some ⟨n, false, spoiled⟩) :
    s.missedReply = s.endWindow.miss n := by
  simp [State.missedReply, hw]

/-- A transmitter that has chosen chooses nothing more at the end of a command that leaves the link as it was. -/
theorem State.pump_eq_self_of_link {t : State} (h : t.link = s.pump.link) : t.pump = t := by
  have hl : t.link.pump = t.link := h ▸ s.link.pump_pump
  rw [State.pump, hl]

/-! ### A missed reply (R36, R103) -/

/-- A miss is counted, and the third in a row at an ENABLED seat faults it (R103). -/
theorem State.miss_eq (hx : s.seat n = some x) (hr : s.loop n = some r) : s.miss n =
    if x.state = .enabled ∧ r.misses = 2 then
      (s.modLoop n (fun q => { q with misses := min (q.misses + 1) 255 })).faultSeat n x
    else s.modLoop n (fun q => { q with misses := min (q.misses + 1) 255 }) := by
  simp [State.miss, hx, hr, Config.maxMisses, Config.faultMisses]

theorem State.targetOf_eq_none (h : ∀ e ∈ s.papers, e.2.coll.target ≠ some n) : s.targetOf n = none := by
  simpa [State.targetOf, List.find?_eq_none] using h

theorem State.targetOf_eq_some (hp : s.paper slot = some p) (ht : p.coll.target = some n)
    (hone : ∀ e ∈ s.papers, e.2.coll.target = some n → e.1 = slot) : s.targetOf n = some slot := by
  obtain ⟨e, he⟩ := Option.isSome_iff_exists.1 (List.find?_isSome (p := fun e => e.2.coll.target == some n).2
    ⟨(slot, p), Table.get_mem hp, by simp [ht]⟩)
  have hslot := hone e (List.mem_of_find?_eq_some he) (by simpa using List.find?_some he)
  rw [State.targetOf, he, Option.map_some, hslot]

/-- The records and notices of a seat's fault, before a walk that waits there passes on (R36): FAULTY with NO_REPLY, the
occupant's SEAT_FAULT, SEAT_FAULTED, and the WATCH_TRACE. -/
def State.markFaulty (s : State) (n : Nat) (x : Seat) : Option (Nat × Cand) → State
  | none => (s.modSeat n (fun y => { y with state := .faulty, fault := some .noReply })).post 0
      (.seatFaulted n x.row x.col none)
  | some (i, c) => (((s.modSeat n (fun y => { y with state := .faulty, fault := some .noReply })).modCand i
      (fun d => { d with flags := { d.flags with seatFault := true } })).post 0
      (.seatFaulted n x.row x.col (some (i, c.paper)))).traceOne i c .seat

theorem State.faultSeat_of_vacant (ho : x.occupant = none) (ht : s.targetOf n = none) :
    s.faultSeat n x = s.markFaulty n x none := by
  simp only [State.faultSeat, ho, ht]
  rfl

/-- A walk that waits at the seat passes on when the seat has been reported (R125). -/
theorem State.faultSeat_of_occupied (ho : x.occupant = some i) (hc : s.cand i = some c) :
    s.faultSeat n x = (s.targetOf n).elim (s.markFaulty n x (some (i, c)))
      (fun slot => (s.markFaulty n x (some (i, c))).skipTarget slot .seatFault) := by
  simp only [State.faultSeat, ho, hc]
  cases s.targetOf n <;> rfl

end Sys2Proof.Machine

section
open Sys2Proof Sys2Proof.Machine

/-- Settles O48: the end of the window, then the miss, then the fault with what follows it. -/
theorem closingPollsAndMissedReplies : Obligations.ClosingPollsAndMissedReplies := by
  intro ended poll hpoll hended
  have hend : ∀ s, ended s = s.pump.endWindow := fun s => by rw [hended, State.endWindow_eq]; rfl
  have hbytes : ∀ n, poll n = pollBytes n (LampCmd.of .off) := fun n => by rw [hpoll, pollBytes_off]
  clear hended hpoll
  refine ⟨fun s n hlow hw => ⟨fun hn hs => ?_, fun rest hs hc => ?_⟩, fun s n spoiled hlow hw => ?_,
    fun s n spoiled x r hlow hw hx hr hd u hu => ?_⟩
  · rw [hbytes]
    refine (running_high State.closingPoll hlow).trans ?_
    rw [State.closingPoll_of_sweep (s := s.pump) hw hn hs]
    rfl
  · rw [hbytes]
    refine (running_high State.closingPoll hlow).trans ?_
    rw [State.closingPoll_of_closing (s := s.pump) hw hs hc]
    rfl
  · refine (running_high State.missedReply hlow).trans ?_
    rw [State.missedReply_of_closing (s := s.pump) hw, hend, State.pump_eq_self_of_link (State.endWindow_link _)]
  · have hmiss : exec .missedReply s = .next
        (if x.state = .enabled ∧ r.misses = 2 then u.faultSeat n x else u).pump := by
      refine (running_high State.missedReply hlow).trans ?_
      rw [State.missedReply_of_regular (s := s.pump) hw, State.miss_eq (by simpa [State.seat] using hx)
        (by simpa [State.loop] using hr), hu, hend]
    have hcand : ∀ i, u.cand i = s.cand i := State.cand_congr (by simp [hu, hend])
    have hpapers : u.papers = s.papers := by simp [hu, hend]
    refine ⟨fun hno => ?_, fun he hm v hv => ⟨fun ho hfree => ?_, fun i c ho hc w hwat => ⟨fun hfree => ?_,
      fun slot p hp ht hone => ?_⟩⟩⟩
    · rw [hmiss, if_neg fun h => ?_]
      rcases hno with hf | hm
      · simp [hf] at h
      · exact hm h.2
    all_goals rw [hmiss, if_pos ⟨he, hm⟩]
    · rw [State.faultSeat_of_vacant ho (State.targetOf_eq_none (hpapers ▸ hfree)), hv]
      rfl
    all_goals
      have hmark : u.markFaulty n x (some (i, c)) = w := by
        rw [hwat, hv]
        rfl
      rw [State.faultSeat_of_occupied ho ((hcand i).trans hc), hmark]
    · rw [State.targetOf_eq_none (hpapers ▸ hfree), Option.elim_none]
    · rw [State.targetOf_eq_some (s := u) ((State.paper_congr hpapers slot).trans hp) ht (hpapers ▸ hone),
        Option.elim_some]

end
end

section
/-! PROOF. HALL_CONFIG: each check of R24 with what it refuses, and the settings as taken (R24, R25). -/

namespace Sys2Proof.Machine

variable {s : State} {a : HallConfigArgs}

/-! ### The checks of R24 -/

/-- The values that check 1 of R24 takes. -/
theorem hallInRange_iff : hallInRange a = true ↔
    1 ≤ a.rows ∧ a.rows ≤ 32 ∧ 1 ≤ a.cols ∧ a.cols ≤ 32 ∧ a.presentPolarity ≤ 1 ∧ a.donePolarity ≤ 1 ∧
      a.callPolarity ≤ 1 ∧ a.keyPolarity ≤ 1 ∧ 1 ≤ a.presentDebounce ∧ 1 ≤ a.doneDebounce ∧ 1 ≤ a.callDebounce ∧
      1 ≤ a.keyDebounce ∧ a.callSense ≤ 1 := by
  simp only [hallInRange, Bool.and_eq_true, decide_eq_true_eq, and_assoc]

theorem decideHallConfig_range (hr : ¬ hallInRange a) : decideHallConfig a s = refuse .range s := if_pos hr

/-- Past check 2 a running paper, a seat outside the new grid and a stored walk that starts outside it each refuse. -/
theorem decideHallConfig_state (hr : hallInRange a) (hj : s.job = none)
    (h : (∃ e ∈ s.papers, e.2.state.running = true) ∨ (∃ e ∈ s.seats, a.rows ≤ e.2.row ∨ a.cols ≤ e.2.col) ∨
      (∃ e ∈ s.papers, ∃ w, e.2.defn.walk = some w ∧ (a.rows ≤ w.startRow ∨ a.cols ≤ w.startCol))) :
    decideHallConfig a s = refuse .state s := by
  refine (if_neg (not_not.2 hr)).trans ((if_neg (by simp [hj])).trans ?_)
  split
  next => rfl
  next hrun =>
  split
  next => rfl
  next hseats =>
  split
  next => rfl
  next hwalks =>
  exfalso
  rw [not_not, List.all_eq_true] at hseats hwalks
  rcases h with ⟨e, he, hst⟩ | ⟨e, he, hout⟩ | ⟨e, he, w, hw, hout⟩
  · exact hrun (List.any_eq_true.2 ⟨e, he, hst⟩)
  · have hin := hseats e he
    simp only [Bool.and_eq_true, decide_eq_true_eq] at hin
    omega
  · have hin := hwalks e he
    simp only [hw, Bool.and_eq_true, decide_eq_true_eq] at hin
    omega

theorem decideHallConfig_taken (hr : hallInRange a) (hj : s.job = none)
    (hrun : ∀ e ∈ s.papers, ¬ e.2.state.running = true)
    (hseats : ∀ e ∈ s.seats, e.2.row < a.rows ∧ e.2.col < a.cols)
    (hwalks : ∀ e ∈ s.papers, ∀ w, e.2.defn.walk = some w → w.startRow < a.rows ∧ w.startCol < a.cols) :
    decideHallConfig a s =
      ({ s.freshTakes with hall := hallTaken a }, .ok ((hallTaken a).bytes ++ u16 s.seats.length)) := by
  refine (if_neg (not_not.2 hr)).trans ((if_neg (by simp [hj])).trans
    ((if_neg ?_).trans ((if_neg (not_not.2 ?_)).trans (if_neg (not_not.2 ?_)))))
  · simpa using hrun
  · simpa using hseats
  · refine List.all_eq_true.2 fun e he => ?_
    cases hw : e.2.defn.walk with
    | none => rfl
    | some w => simpa using hwalks e he w hw

/-! ### The settings as taken (R24, R199) -/

/-- A polarity byte in range is written back as it came. -/
theorem inputConf_bytes {polarity debounce : Nat} (h : polarity ≤ 1) :
    (inputConf polarity debounce).bytes = u8 polarity ++ u8 (min debounce 4) := by
  interval_cases polarity <;> rfl

/-- The reply's settings: each as it came, but for the clamps. -/
theorem hallTaken_bytes (hr : hallInRange a) : (hallTaken a).bytes =
    u8 a.rows ++ u8 a.cols ++ u8 a.presentPolarity ++ u8 (min a.presentDebounce 4) ++ u8 a.donePolarity ++
      u8 (min a.doneDebounce 4) ++ u8 a.callPolarity ++ u8 (min a.callDebounce 4) ++ u8 a.keyPolarity ++
      u8 (min a.keyDebounce 4) ++ u8 a.callSense ++ u16 (min a.awayLimit 1800) ++ u16 (min a.holdLimit 7200) := by
  obtain ⟨-, -, -, -, hpresent, hdone, hcall, hkey, -, -, -, -, hsense⟩ := hallInRange_iff.1 hr
  have hcode : (if a.callSense = 0 then CallSense.latch else CallSense.level).code = a.callSense := by
    interval_cases a.callSense <;> rfl
  simp only [Hall.bytes, hallTaken, inputConf_bytes hpresent, inputConf_bytes hdone, inputConf_bytes hcall,
    inputConf_bytes hkey, hcode, List.append_assoc]

end Sys2Proof.Machine

section
open Sys2Proof Sys2Proof.Machine

/-- Settles O30: the checks of R24 in their order; the settings taken are `hallTaken a`. -/
theorem hallConfigReplacesTheSettings : Obligations.HallConfigReplacesTheSettings := by
  refine ⟨fun tag a s h inRange hin => ⟨fun hr => ?_, fun hr hj hbad => ?_⟩,
    fun tag a s h hr hj hrun hseats hwalks => ?_⟩
  · rw [hin, ← hallInRange_iff] at hr
    exact running_hostRequest_refused h (r := .hallConfig a) (decideHallConfig_range hr)
  · rw [hin, ← hallInRange_iff] at hr
    simp only [← PaperState.running_iff] at hbad
    exact running_hostRequest_refused h (r := .hallConfig a) (decideHallConfig_state (s := s.pump) hr hj hbad)
  · rw [← hallInRange_iff] at hr
    simp only [← PaperState.running_iff] at hrun
    have hd := decideHallConfig_taken (s := s.pump) hr hj hrun hseats hwalks
    rw [hallTaken_bytes hr] at hd
    exact ⟨hallTaken a, rfl, rfl, rfl, rfl, rfl, rfl, rfl, rfl, rfl,
      running_hostRequest_ok h (r := .hallConfig a) (by simp) hd⟩

end
end

section
/-! PROOF. The polling order under the Seat Map's requests, and SEAT_DEFINE (R31 to R33, R97 to R99). -/

namespace Sys2Proof.Machine

variable {s : State} {n row col cls : Nat} {x : Seat}

/-! ### The polling order (R97 to R99) -/

theorem State.passInProgress_eq_false_iff :
    s.passInProgress = false ↔ s.passList = [] ∧ s.window.all (fun w => w.closing) = true := by
  cases hw : s.window <;> simp [State.passInProgress, hw]

/-- The list of the pass that is in progress after a change of the polling order (R99, log 39). -/
theorem State.nextPass_eq (s : State) : s.nextPass = { s with
    passList := if s.passList = [] ∧ s.sweep = none ∧ s.window.all (fun w => w.closing) = true then s.pollingOrder
      else s.passList } := by
  rcases s.nextPass_cases with ⟨hs, hp, e⟩ | ⟨h, e⟩
  · obtain ⟨hl, hw⟩ := State.passInProgress_eq_false_iff.1 hp
    rw [e, if_pos ⟨hl, hs, hw⟩]
  · rw [e, if_neg]
    rintro ⟨hl, hs, hw⟩
    rcases h with h | h
    · exact h hs
    · rw [State.passInProgress_eq_false_iff.2 ⟨hl, hw⟩] at h
      exact absurd h nofun

/-- What joining the polling order changes (R97 to R99, log 39). -/
theorem State.joinLoop_eq (s : State) (n : Nat) : s.joinLoop n = { s with
    loops := Table.insert s.loops n LoopRec.new
    closing := s.closing.filter (fun k => k ≠ n)
    passList := if s.passList = [] ∧ s.sweep = none ∧ s.window.all (fun w => w.closing) = true then s.pollingOrder
      else s.passList } := by
  rw [State.joinLoop, State.nextPass_eq]
  rfl

/-- A window open for the seat that leaves becomes that of a closing poll (R102). -/
theorem window_all_closing_map (w : Option Window) (n : Nat) :
    (w.map (fun w => if w.seat = n then { w with closing := true } else w)).all (fun w => w.closing) =
      w.all (fun w => w.closing || w.seat == n) := by
  cases w with
  | none => rfl
  | some w => by_cases h : w.seat = n <;> simp [h]

/-- What leaving the polling order changes (R98, R99, R102, log 39). -/
theorem State.leaveLoop_eq (s : State) (n : Nat) : s.leaveLoop n = { s with
    loops := Table.erase s.loops n
    closing := s.closing.filter (fun k => k ≠ n) ++ [n]
    passList := if s.passList.filter (fun k => k ≠ n) = [] ∧ s.sweep = none ∧
        s.window.all (fun w => w.closing || w.seat == n) = true then s.pollingOrder
      else s.passList.filter (fun k => k ≠ n)
    window := s.window.map (fun w => if w.seat = n then { w with closing := true } else w) } := by
  rw [State.leaveLoop, State.nextPass_eq, ← window_all_closing_map]
  rfl

/-! ### SEAT_DEFINE with action DEFINE (R31, R32) -/

/-- A seat that is given the record it has leaves the Seat Map as it was. -/
theorem State.modSeat_const_self {k : Nat} (hw : Table.wf k s.seats = true) (hx : s.seat n = some x) :
    s.modSeat n (fun _ => x) = s := by
  have hid : Table.modify s.seats n (fun _ => x) = Table.modify s.seats n id :=
    Table.modify_congr hw fun y hy => Option.some.inj (hx.symm.trans hy)
  rw [State.modSeat, hid]
  simp [Table.modify]

/-- The values that check 1 of R31 takes. -/
def State.DefineInRange (s : State) (n row col cls : Nat) : Prop :=
  n < 512 ∧ cls ≤ 1 ∧ row < s.hall.rows ∧ col < s.hall.cols

/-- Another seat has the position (R31). -/
theorem State.positionTaken_iff : s.seats.any (fun e => e.1 != n && e.2.row == row && e.2.col == col) = true ↔
    ∃ e ∈ s.seats, e.1 ≠ n ∧ e.2.row = row ∧ e.2.col = col := by
  simp [and_assoc]

theorem decideSeatDefine_range (h : ¬ s.DefineInRange n row col cls) :
    decideSeatDefine n row col cls s = refuse .range s := if_pos h

theorem decideSeatDefine_conflict (hr : s.DefineInRange n row col cls) (hj : s.job = none)
    (h : ∃ e ∈ s.seats, e.1 ≠ n ∧ e.2.row = row ∧ e.2.col = col) :
    decideSeatDefine n row col cls s = refuse .conflict s :=
  (if_neg (not_not.2 hr)).trans ((if_neg (by simp [hj])).trans (if_pos (State.positionTaken_iff.2 h)))

section
variable (hr : s.DefineInRange n row col cls) (hj : s.job = none)
  (hfree : ∀ e ∈ s.seats, e.1 = n ∨ e.2.row ≠ row ∨ e.2.col ≠ col)
include hr hj hfree

/-- Past the checks that the seat has no part in, its record decides. -/
theorem decideSeatDefine_free : decideSeatDefine n row col cls s = (s.seat n).elim
    ({ s with seats := Table.insert s.seats n ⟨row, col, seatClassOf cls, .enabled, none, none⟩ }.joinLoop n,
      .ok (Seat.bytes ⟨row, col, seatClassOf cls, .enabled, none, none⟩))
    (fun old =>
      if old.occupant.isSome ∧ ¬ (old.row = row ∧ old.col = col ∧ old.cls = seatClassOf cls) then refuse .state s
      else (s.modSeat n (fun _ => { old with row := row, col := col, cls := seatClassOf cls }),
        .ok { old with row := row, col := col, cls := seatClassOf cls }.bytes)) := by
  have htaken : ¬ s.seats.any (fun e => e.1 != n && e.2.row == row && e.2.col == col) = true :=
    mt State.positionTaken_iff.1 fun ⟨e, he, hne, hrow, hcol⟩ =>
      (hfree e he).elim hne fun h => h.elim (· hrow) (· hcol)
  refine (if_neg (not_not.2 hr)).trans ((if_neg (by simp [hj])).trans ((if_neg htaken).trans ?_))
  cases s.seat n <;> rfl

theorem decideSeatDefine_new (hx : s.seat n = none) : decideSeatDefine n row col cls s =
    ({ s with seats := Table.insert s.seats n ⟨row, col, seatClassOf cls, .enabled, none, none⟩ }.joinLoop n,
      .ok (Seat.bytes ⟨row, col, seatClassOf cls, .enabled, none, none⟩)) := by
  rw [decideSeatDefine_free hr hj hfree, hx, Option.elim_none]

theorem decideSeatDefine_vacant (hx : s.seat n = some x) (ho : x.occupant = none) : decideSeatDefine n row col cls s =
    (s.modSeat n (fun _ => { x with row := row, col := col, cls := seatClassOf cls }),
      .ok { x with row := row, col := col, cls := seatClassOf cls }.bytes) := by
  rw [decideSeatDefine_free hr hj hfree, hx, Option.elim_some, if_neg (by simp [ho])]

/-- An occupied seat stays as it is: its own position and class are taken, any other is refused (R32). -/
theorem decideSeatDefine_occupied {i k : Nat} (hw : Table.wf k s.seats = true) (hx : s.seat n = some x)
    (ho : x.occupant = some i) :
    decideSeatDefine n row col cls s =
      if x.row = row ∧ x.col = col ∧ x.cls = seatClassOf cls then (s, .ok x.bytes) else refuse .state s := by
  rw [decideSeatDefine_free hr hj hfree, hx, Option.elim_some]
  by_cases hsame : x.row = row ∧ x.col = col ∧ x.cls = seatClassOf cls
  · rw [if_neg fun h => h.2 hsame, if_pos hsame]
    obtain ⟨rfl, rfl, hcls⟩ := hsame
    rw [← hcls, State.modSeat_const_self hw hx]
  · rw [if_pos ⟨by simp [ho], hsame⟩, if_neg hsame]

end

/-- The class written is the class byte (R198). -/
theorem seatClassOf_code (h : cls ≤ 1) : (seatClassOf cls).code = cls := by
  interval_cases cls <;> rfl

theorem SeatState.code_eq (c : SeatState) : c.code = match c with | .enabled => 1 | .disabled => 2 | .faulty => 3 := by
  cases c <;> rfl

/-- The fault cause's byte, 0xFF where there is none (log 42). -/
theorem opt8_fault (f : Option FaultCause) :
    opt8 (f.map (fun _ => 0)) = u8 (match f with | none => 0xFF | some _ => 0) := by
  cases f <;> rfl

/-- A seat's record as bytes (log 15). -/
theorem Seat.bytes_eq (x : Seat) : x.bytes = u8 x.row ++ u8 x.col ++ u8 x.cls.code ++
    u8 (match x.state with | .enabled => 1 | .disabled => 2 | .faulty => 3) ++ u16 (x.occupant.getD 0xFFFF) ++
    u8 (match x.fault with | none => 0xFF | some _ => 0) := by
  rw [Seat.bytes, SeatState.code_eq, opt8_fault]
  rfl

/-! ### SEAT_DEFINE with action REMOVE (R33) -/

theorem decideSeatRemove_range (h : 512 ≤ n) : decideSeatRemove n s = refuse .range s :=
  if_pos (by simpa [Config.indexCount] using h)

theorem decideSeatRemove_notFound (hn : n < 512) (hj : s.job = none) (hx : s.seat n = none) :
    decideSeatRemove n s = refuse .notFound s := by
  simp [decideSeatRemove, hn, hj, hx]

theorem decideSeatRemove_occupied {i : Nat} (hn : n < 512) (hj : s.job = none) (hx : s.seat n = some x)
    (ho : x.occupant = some i) : decideSeatRemove n s = refuse .state s := by
  simp [decideSeatRemove, hn, hj, hx, ho]

theorem decideSeatRemove_vacant (hn : n < 512) (hj : s.job = none) (hx : s.seat n = some x) (ho : x.occupant = none) :
    decideSeatRemove n s = (if x.state = .disabled then { s with seats := Table.erase s.seats n }
      else { s with seats := Table.erase s.seats n }.leaveLoop n, .ok (u8 x.row ++ u8 x.col)) := by
  simp [decideSeatRemove, hn, hj, hx, ho]

end Sys2Proof.Machine

section
open Sys2Proof Sys2Proof.Machine

/-- Settles O31: DEFINE by the seat's record, REMOVE with what leaving the polling order changes. -/
theorem seatsAreDefinedAndRemoved : Obligations.SeatsAreDefinedAndRemoved := by
  refine ⟨fun tag n row col cls s h => ⟨fun hr => ?_, fun hn => ?_, fun hn hc hrow hcol hj hused => ?_⟩,
    fun tag n row col cls s h hn hj => ⟨fun hrow hcol hc hfree => ⟨fun hx seats hseats => ?_,
      fun x hx record hrecord => ⟨fun ho => ?_, fun i hb ho => ?_⟩⟩, fun hx => ?_, fun x i hx ho => ?_,
      fun x hx ho seats hseats => ?_⟩⟩
  · refine running_hostRequest_refused h (r := .seatDefine n 0 row col cls) (decideSeatDefine_range fun hin => ?_)
    obtain ⟨hn, hc, hrow, hcol⟩ : n < 512 ∧ cls ≤ 1 ∧ row < s.hall.rows ∧ col < s.hall.cols := hin
    omega
  · exact running_hostRequest_refused h (r := .seatDefine n 1 0 0 0) (decideSeatRemove_range hn)
  · exact running_hostRequest_refused h (r := .seatDefine n 0 row col cls)
      (decideSeatDefine_conflict (s := s.pump) ⟨hn, hc, hrow, hcol⟩ hj hused)
  · have hd := decideSeatDefine_new (s := s.pump) ⟨hn, hc, hrow, hcol⟩ hj hfree hx
    rw [State.joinLoop_eq, Seat.bytes_eq, seatClassOf_code hc] at hd
    subst hseats
    exact running_hostRequest_ok h (r := .seatDefine n 0 row col cls) (by simp) hd
  · have hd := decideSeatDefine_vacant (s := s.pump) ⟨hn, hc, hrow, hcol⟩ hj hfree hx ho
    rw [Seat.bytes_eq, seatClassOf_code hc] at hd
    subst hrecord
    rw [← ho]
    exact running_hostRequest_ok h (r := .seatDefine n 0 row col cls) (by simp) hd
  · have hd := decideSeatDefine_occupied (s := s.pump) ⟨hn, hc, hrow, hcol⟩ hj hfree hb.seats hx ho
    rw [Seat.bytes_eq] at hd
    subst hrecord
    by_cases hsame : x.row = row ∧ x.col = col ∧ x.cls = if cls = 0 then .standard else .access
    · replace hd := hd.trans (if_pos hsame)
      rw [if_pos hsame]
      obtain ⟨rfl, rfl, hcls⟩ := hsame
      rw [show x.cls.code = cls from hcls ▸ seatClassOf_code hc, ho] at hd
      exact running_hostRequest_ok h (r := .seatDefine n 0 x.row x.col cls) (by simp) hd
    · rw [if_neg hsame]
      exact running_hostRequest_refused h (r := .seatDefine n 0 row col cls) (hd.trans (if_neg hsame))
  · exact running_hostRequest_refused h (r := .seatDefine n 1 0 0 0) (decideSeatRemove_notFound (s := s.pump) hn hj hx)
  · exact running_hostRequest_refused h (r := .seatDefine n 1 0 0 0)
      (decideSeatRemove_occupied (s := s.pump) hn hj hx ho)
  · have hd := decideSeatRemove_vacant (s := s.pump) hn hj hx ho
    rw [State.leaveLoop_eq] at hd
    subst hseats
    exact running_hostRequest_ok h (r := .seatDefine n 1 0 0 0) (by simp) hd

end
end

section
/-! PROOF. SEAT_STATE: R34's table, one lemma for each action (R34, R35). -/

namespace Sys2Proof.Machine

variable {s : State} {n action : Nat} {x : Seat}

theorem decideSeatState_range (h : 512 ≤ n) : decideSeatState n action s = refuse .range s :=
  if_pos fun hr => by
    have hn : n < 512 := hr.1
    omega

theorem decideSeatState_notFound (hn : n < 512) (ha : action ≤ 2) (hj : s.job = none) (hx : s.seat n = none) :
    decideSeatState n action s = refuse .notFound s := by
  simp [decideSeatState, hn, ha, hj, hx]

section
variable (hn : n < 512) (hj : s.job = none) (hx : s.seat n = some x)
include hn hj hx

theorem decideSeatState_enable : decideSeatState n 0 s = match x.state with
    | .enabled => (s, seatStateAnswer .enabled x.occupant)
    | .disabled =>
      ((s.modSeat n (fun y => { y with state := .enabled })).joinLoop n, seatStateAnswer .enabled x.occupant)
    | .faulty => refuse .state s := by
  cases hs : x.state <;> simp [decideSeatState, hn, hj, hx, hs]

theorem decideSeatState_disable : decideSeatState n 1 s =
    if x.state = .disabled then (s, seatStateAnswer .disabled x.occupant)
    else if x.occupant ≠ none then refuse .state s
    else ((s.modSeat n (fun y => { y with state := .disabled, fault := none })).leaveLoop n,
      seatStateAnswer .disabled x.occupant) := by
  cases hs : x.state <;> cases ho : x.occupant <;> simp [decideSeatState, hn, hj, hx, hs, ho]

theorem decideSeatState_clear : decideSeatState n 2 s = match x.state with
    | .enabled => (s.clearMisses n, seatStateAnswer .enabled x.occupant)
    | .disabled => refuse .state s
    | .faulty => (s.clearFault n x, seatStateAnswer .enabled x.occupant) := by
  cases hs : x.state <;> simp [decideSeatState, hn, hj, hx, hs]

end

/-- A FAULTY seat that is cleared, and its occupant's SEAT_FAULT with the WATCH_TRACE (R34, R35). -/
theorem State.clearFault_eq (s : State) (n : Nat) (x : Seat) : s.clearFault n x = match x.occupant with
    | none => (s.modSeat n (fun y => { y with state := .enabled, fault := none })).modLoop n
        (fun r => { r.toFresh with misses := 0 })
    | some i => ((s.modSeat n (fun y => { y with state := .enabled, fault := none })).modLoop n
        (fun r => { r.toFresh with misses := 0 })).changeCand i
          (fun c => { c with flags := { c.flags with seatFault := false } }) .seat := by
  rw [State.clearFault]
  cases x.occupant <;> rfl

/-- A SEAT_STATE that is taken. -/
theorem running_seatState_ok (h : s.LinkFree) {tag : Nat} {u : State} {state : SeatState} {occupant : Option Nat}
    (hd : decideSeatState n action s.pump = (u, seatStateAnswer state occupant)) :
    running (State.hostRequest tag (.seatState n action)) s =
      .next (State.replied u 0x07 tag (u8 state.code ++ u16 (occupant.getD 0xFFFF))) :=
  running_hostRequest_ok h (r := .seatState n action) (by simp) hd

/-- A SEAT_STATE that is refused changes nothing. -/
theorem running_seatState_refused (h : s.LinkFree) {tag : Nat} {code : ResultCode}
    (hd : decideSeatState n action s.pump = refuse code s.pump) :
    running (State.hostRequest tag (.seatState n action)) s = .next (s.turnedDown 0x07 tag code 0 0) :=
  running_hostRequest_refused h (r := .seatState n action) hd

end Sys2Proof.Machine

section
open Sys2Proof Sys2Proof.Machine

/-- Settles O32: each action's line of R34's table, by the seat's state. -/
theorem seatStateFollowsItsTable : Obligations.SeatStateFollowsItsTable := by
  refine ⟨fun tag n s h hn => ⟨?_, ?_, ?_⟩, fun s n order horder => ⟨?_, ?_⟩, fun r => rfl,
    fun tag n s h hn hj hx => ⟨?_, ?_, ?_⟩, fun tag n x s h hn hj hx => ⟨?_, ?_, ?_⟩⟩
  · exact running_seatState_refused h (decideSeatState_range hn)
  · exact running_seatState_refused h (decideSeatState_range hn)
  · exact running_seatState_refused h (decideSeatState_range hn)
  · rw [State.joinLoop_eq, horder]
    rfl
  · rw [State.leaveLoop_eq, horder]
    rfl
  · exact running_seatState_refused h (decideSeatState_notFound (s := s.pump) hn (by decide) hj hx)
  · exact running_seatState_refused h (decideSeatState_notFound (s := s.pump) hn (by decide) hj hx)
  · exact running_seatState_refused h (decideSeatState_notFound (s := s.pump) hn (by decide) hj hx)
  · have hd := decideSeatState_enable (s := s.pump) hn hj hx
    cases hs : x.state <;> rw [hs] at hd
    case enabled => exact running_seatState_ok h hd
    case disabled => exact running_seatState_ok h hd
    case faulty => exact running_seatState_refused h hd
  · have hd := decideSeatState_disable (s := s.pump) hn hj hx
    split
    next hs => exact running_seatState_ok h (hd.trans (if_pos hs))
    next hs =>
      replace hd := hd.trans (if_neg hs)
      split
      next ho => exact running_seatState_refused h (hd.trans (if_pos ho))
      next ho =>
        rw [if_neg ho, not_not.1 ho] at hd
        exact running_seatState_ok h hd
  · have hd := decideSeatState_clear (s := s.pump) hn hj hx
    rw [State.clearFault_eq] at hd
    cases hs : x.state <;> rw [hs] at hd
    case enabled => exact running_seatState_ok h hd
    case disabled => exact running_seatState_refused h hd
    case faulty => exact running_seatState_ok h hd

end
end

section
/-! PROOF. SEAT_READ and COLLECTION_READ: what each is refused for, and the bytes each reports (R30, R37, R38, R131, R132). -/

namespace Sys2Proof.Machine

variable {s : State} {n mode sel start : Nat} {x y : Seat}

/-! ### The checks of SEAT_READ (R37) -/

theorem decideSeatRead_range {place : Nat} (h : 3 < mode ∧ mode ≠ 0xFF ∨ 1 < sel ∨ sel = 0 ∧ 512 ≤ place ∨
    sel = 1 ∧ (31 < place / 256 ∨ 31 < place % 256)) : decideSeatRead sel place mode s = refuse .range s := by
  by_cases hm : mode ≤ 3 ∨ mode = Config.absent8
  case neg => exact if_pos hm
  refine (if_neg (not_not.2 hm)).trans ?_
  have hm' : ¬ (3 < mode ∧ mode ≠ 0xFF) := fun h => hm.elim (by omega) h.2
  rcases h.resolve_left hm' with hs | ⟨rfl, hp⟩ | ⟨rfl, hp⟩
  · obtain ⟨k, rfl⟩ : ∃ k, sel = k + 2 := ⟨sel - 2, by omega⟩
    rfl
  · exact if_pos (by simpa [Config.indexCount] using hp)
  · exact if_pos (by omega)

theorem decideSeatRead_number (hm : mode ≤ 3 ∨ mode = 0xFF) (hn : n < 512) :
    decideSeatRead 0 n mode s = (s, .ok (s.seatBytes n (separationOf mode))) :=
  (if_neg (not_not.2 hm)).trans (if_neg (not_not.2 hn))

theorem decideSeatRead_position {row col : Nat} (hm : mode ≤ 3 ∨ mode = 0xFF) (hrow : row ≤ 31) (hcol : col ≤ 31) :
    decideSeatRead 1 (row * 256 + col) mode s = (s.seatAt ((row : Nat), (col : Nat))).elim (refuse .notFound s)
      (fun n => (s, .ok (s.seatBytes n (separationOf mode)))) := by
  have hdiv : (row * 256 + col) / 256 = row := by omega
  have hmod : (row * 256 + col) % 256 = col := by omega
  refine (if_neg (not_not.2 hm)).trans ?_
  simp only [hdiv, hmod, hrow, hcol, and_self, not_true_eq_false, if_false]
  cases s.seatAt ((row : Nat), (col : Nat)) <;> rfl

/-- A position of the grid that one seat alone has is found there (R23). -/
theorem State.seatAt_unique {k : Nat} (hw : Table.wf k s.seats = true) (hx : s.seat n = some x) (hrow : x.row < s.hall.rows)
    (hcol : x.col < s.hall.cols) (hone : ∀ k y, s.seat k = some y → y.row = x.row → y.col = x.col → k = n) :
    s.seatAt ((x.row : Nat), (x.col : Nat)) = some n := by
  obtain ⟨e, he⟩ := Option.isSome_iff_exists.1 (List.find?_isSome
    (p := fun e : Nat × Seat => (e.2.row : Int) == (x.row : Int) && (e.2.col : Int) == (x.col : Int)).2
    ⟨(n, x), Table.get_mem hx, by simp⟩)
  have hpos : e.2.row = x.row ∧ e.2.col = x.col := by simpa using List.find?_some he
  have hen := hone e.1 e.2 (Table.get_of_mem hw (List.mem_of_find?_eq_some he)) hpos.1 hpos.2
  rw [State.seatAt, if_pos (by omega), he, Option.map_some, hen]

/-- An aisle and a position outside the grid have no seat (R23). -/
theorem State.seatAt_eq_none {row col : Nat}
    (h : (∀ k y, (k, y) ∈ s.seats → y.row ≠ row ∨ y.col ≠ col) ∨ s.hall.rows ≤ row ∨ s.hall.cols ≤ col) :
    s.seatAt ((row : Nat), (col : Nat)) = none := by
  rw [State.seatAt]
  split
  next hin =>
    have haisle := h.resolve_right (by omega)
    rw [Option.map_eq_none_iff, List.find?_eq_none]
    rintro ⟨k, y⟩ hy hpos
    simp only [Bool.and_eq_true, beq_iff_eq, Nat.cast_inj] at hpos
    exact (haisle k y hy).elim (· hpos.1) (· hpos.2)
  next => rfl

/-! ### The neighbours reported (R30, R38) -/

/-- The neighbours of a seat under the mode of the request, none where the mode asks for no list. -/
def State.neighboursUnder (s : State) (mode n : Nat) : Table Seat :=
  (separationOf mode).elim [] (fun m => s.neighbourList m n)

theorem State.mem_neighbourList (hb : s.Bounded) {m : Separation} {k : Nat} : (k, y) ∈ s.neighbourList m n ↔
    s.seat k = some y ∧ k ≠ n ∧ ∃ x, s.seat n = some x ∧ neighbours m x y = true := by
  rw [State.neighbourList]
  cases s.seat n with
  | none => simp
  | some x => simp [Table.mem_iff_get hb.seats, State.seat]

theorem State.neighbourList_pairwise (hb : s.Bounded) (m : Separation) :
    (s.neighbourList m n).Pairwise (fun a b => a.1 < b.1) := by
  rw [State.neighbourList]
  cases s.seat n with
  | none => exact .nil
  | some x => exact (List.pairwise_map.1 ((Table.wf_iff _ _).1 hb.seats).1).filter _

theorem State.neighboursUnder_pairwise (hb : s.Bounded) :
    (s.neighboursUnder mode n).Pairwise (fun a b => a.1 < b.1) := by
  rw [State.neighboursUnder]
  cases separationOf mode with
  | none => exact .nil
  | some m => exact State.neighbourList_pairwise hb m

/-- The neighbours under the mode byte: modes 1 to 3 in one row, 2 and 3 in one column, 3 on the diagonals (R30, R198). -/
theorem State.mem_neighboursUnder (hb : s.Bounded) (hm : mode ≤ 3 ∨ mode = 0xFF) {k : Nat} :
    (k, y) ∈ s.neighboursUnder mode n ↔ s.seat k = some y ∧ k ≠ n ∧ ∃ x, s.seat n = some x ∧
      ((1 ≤ mode ∧ mode ≤ 3 ∧ x.row = y.row ∧ (x.col = y.col + 1 ∨ y.col = x.col + 1)) ∨
        ((mode = 2 ∨ mode = 3) ∧ x.col = y.col ∧ (x.row = y.row + 1 ∨ y.row = x.row + 1)) ∨
        (mode = 3 ∧ (x.row = y.row + 1 ∨ y.row = x.row + 1) ∧ (x.col = y.col + 1 ∨ y.col = x.col + 1))) := by
  rcases hm with hm | rfl
  · interval_cases mode <;> refine (State.mem_neighbourList hb).trans (and_congr_right fun _ => and_congr_right fun _ =>
      exists_congr fun x => and_congr_right fun _ => ?_)
    · simp [neighbours_none_iff]
    · simp [neighbours_row_iff]
    · simp [neighbours_grid_iff]
    · rw [neighbours_diag_iff]
      omega
  · simp [State.neighboursUnder, separationOf]

/-! ### The bytes of SEAT_READ (R37, log 15) -/

/-- The data of SEAT_READ by its groups: the seat, the occupant, the target, the loop record, the neighbours. -/
theorem State.seatBytes_eq_groups (s : State) (n : Nat) (m : Option Separation) : s.seatBytes n m =
    u24 s.hallTime ++ u8 s.hall.rows ++ u8 s.hall.cols ++ u16 n ++
    (u8 ((s.seat n).elim 0 (fun x => x.state.code)) ++
      group (fun x => u8 x.row ++ u8 x.col ++ u8 x.cls.code ++ opt8 (x.fault.map (fun _ => 0))) (s.seat n)) ++
    group s.occupantBytes ((s.seat n).bind Seat.occupant) ++ opt8 (s.targetOf n) ++ group LoopRec.bytes (s.loop n) ++
    m.elim [] (fun m => listOf s.neighbourBytes (s.neighbourList m n)) := by
  cases m <;> simp only [State.seatBytes, List.append_assoc, Option.elim_none, Option.elim_some]

theorem Level.code_eq (c : Level) : c.code = match c with | .inactive => 0 | .active => 1 | .unknown => 2 := by
  cases c <;> rfl

/-- The grid, the seat's state and its group. -/
theorem seatGroup_eq (o : Option Seat) : u8 (o.elim 0 (fun x => x.state.code)) ++
    group (fun x => u8 x.row ++ u8 x.col ++ u8 x.cls.code ++ opt8 (x.fault.map (fun _ => 0))) o =
      match o with
      | none => u8 0 ++ u8 0
      | some x => u8 (match x.state with | .enabled => 1 | .disabled => 2 | .faulty => 3) ++ (u8 1 ++ u8 x.row ++
          u8 x.col ++ u8 (match x.cls with | .standard => 0 | .access => 1) ++
          u8 (match x.fault with | none => 0xFF | some _ => 0)) := by
  cases o with
  | none => rfl
  | some x =>
    have hcls : x.cls.code = match x.cls with | .standard => 0 | .access => 1 := by
      cases x.cls <;> rfl
    rw [Option.elim_some, group, SeatState.code_eq, opt8_fault, hcls]
    rfl

theorem occupantGroup_eq (s : State) (o : Option Nat) : group s.occupantBytes o =
    match o with
    | none => u8 0
    | some i => u8 1 ++ (match s.cand i with
      | none => [] | some c => u16 i ++ u24 c.number ++ u8 c.paper ++ u8 c.state.code) := by
  cases o with
  | none => rfl
  | some i =>
    simp only [group, State.occupantBytes]
    cases s.cand i <;> rfl

theorem loopGroup_eq (o : Option LoopRec) : group LoopRec.bytes o =
    match o with
    | none => u8 0
    | some r => u8 1 ++ (u8 r.misses ++
        [r.presentIn, r.doneIn, r.callIn, r.keyIn].flatMap (fun i => u8 (match i.cond with
          | .inactive => 0 | .active => 1 | .unknown => 2)) ++
        flag r.call.isSome ++ u8 (match r.lamp with | none => 0xFF | some l => l.lamp.code)) := by
  cases o with
  | none => rfl
  | some r =>
    have hlamp : opt8 (r.lamp.map (fun x => x.lamp.code)) =
        u8 (match r.lamp with | none => 0xFF | some l => l.lamp.code) := by
      cases r.lamp <;> rfl
    simp only [group, LoopRec.bytes, Level.code_eq, hlamp]
    rfl

/-- The neighbour list, with its count, where a mode is given (R38). -/
theorem neighbourGroup_eq (s : State) (n : Nat) (hm : mode ≤ 3 ∨ mode = 0xFF) :
    (separationOf mode).elim [] (fun m => listOf s.neighbourBytes (s.neighbourList m n)) =
    if mode = 0xFF then [] else u8 (s.neighboursUnder mode n).length ++ (s.neighboursUnder mode n).flatMap (fun e =>
      u16 e.1 ++ u8 (match e.2.state with | .enabled => 1 | .disabled => 2 | .faulty => 3) ++
        u8 (match e.2.occupant.bind s.cand with | none => 0xFF | some c => c.paper)) := by
  have hentry : s.neighbourBytes = fun e : Nat × Seat =>
      u16 e.1 ++ u8 (match e.2.state with | .enabled => 1 | .disabled => 2 | .faulty => 3) ++
        u8 (match e.2.occupant.bind s.cand with | none => 0xFF | some c => c.paper) := by
    funext e
    rw [State.neighbourBytes, SeatState.code_eq, State.occupantPaper]
    cases e.2.occupant.bind s.cand <;> rfl
  rw [← hentry]
  rcases hm with hm | rfl
  · interval_cases mode <;> rfl
  · rfl

/-! ### COLLECTION_READ (R131, R132) -/

theorem decideCollectionRead_range (h : 8 ≤ sel ∧ sel ≠ 0xFF ∨ 512 ≤ start) :
    decideCollectionRead sel start s = refuse .range s :=
  if_pos fun ⟨hsel, hstart⟩ => by
    simp only [Config.slotCount, Config.absent8, Config.indexCount] at hsel hstart
    omega

theorem decideCollectionRead_notFound (hsel : sel < 8) (hstart : start < 512) (hp : s.paper sel = none) :
    decideCollectionRead sel start s = refuse .notFound s :=
  (if_neg (not_not.2 ⟨.inl hsel, hstart⟩)).trans
    (if_pos ⟨by simp only [Config.absent8]; omega, by simp [hp]⟩)

/-- A selector that is ALL or names a defined paper is answered. -/
theorem decideCollectionRead_entries (hstart : start < 512) (hsel : sel = 0xFF ∨ sel < 8 ∧ s.paper sel ≠ none) :
    decideCollectionRead sel start s = (s, .ok (u24 s.hallTime ++
      listOf (fun e => e.1.bytes e.2) ((s.entriesFrom sel start).take 20) ++ u16 s.collection.length ++
      opt16 (nextPosition (s.entriesFrom sel start)))) := by
  refine (if_neg (not_not.2 ⟨?_, hstart⟩)).trans (if_neg ?_)
  · rintro ⟨hall, hnone⟩
    exact hsel.elim hall fun h => h.2 (by simpa using hnone)
  · exact hsel.elim .inr fun h => .inl h.1

theorem State.entriesFrom_eq (s : State) (sel start : Nat) : s.entriesFrom sel start =
    s.collection.zipIdx.filter (fun e => start ≤ e.2 ∧ (sel = 0xFF ∨ e.1.paper = sel)) :=
  List.filter_congr fun e _ => by
    rw [Bool.eq_iff_iff]
    simp [Config.absent8]

/-- The next position as bytes, 0xFFFF where no further entry matches (R132). -/
theorem opt16_nextPosition (es : List (CollEntry × Nat)) : opt16 (nextPosition es) =
    u16 (if es.length ≤ 20 then 0xFFFF else ((es.take 20).getLast?.map (fun e => e.2 + 1)).getD 0xFFFF) := by
  rw [nextPosition]
  split <;> rfl

end Sys2Proof.Machine

section
open Sys2Proof Sys2Proof.Machine

/-- Settles O28: the checks of both reads, the groups of SEAT_READ in their order, and the entries of COLLECTION_READ. -/
theorem seatAndCollectionReads : Obligations.SeatAndCollectionReads := by
  refine ⟨fun tag sel place mode s h hbad => ?_, fun tag sel start s h => ⟨fun hbad => ?_, fun hsel hstart hp => ?_⟩,
    fun tag n mode s h hb hn hm => ⟨s.neighboursUnder mode n, State.neighboursUnder_pairwise hb,
      fun k y => State.mem_neighboursUnder hb hm, ?_⟩,
    fun tag n mode x s h hb hm hx hrow hcol hrow31 hcol31 hone => ?_, fun tag row col mode s h hm hrow hcol hnone => ?_,
    fun tag sel start s h hstart hsel => ?_⟩
  · exact running_hostRequest_refused h (r := .seatRead sel place mode) (decideSeatRead_range hbad)
  · exact running_hostRequest_refused h (r := .collectionRead sel start) (decideCollectionRead_range hbad)
  · exact running_hostRequest_refused h (r := .collectionRead sel start)
      (decideCollectionRead_notFound (s := s.pump) hsel hstart hp)
  · have hd := decideSeatRead_number (s := s.pump) hm hn
    rw [State.seatBytes_eq_groups, neighbourGroup_eq _ _ hm, loopGroup_eq, occupantGroup_eq, seatGroup_eq] at hd
    exact running_hostRequest_ok h (r := .seatRead 0 n mode) (by simp) hd
  · have hpos := decideSeatRead_position (s := s.pump) (row := x.row) (col := x.col) hm hrow31 hcol31
    rw [State.seatAt_unique (s := s.pump) hb.seats hx hrow hcol hone, Option.elim_some] at hpos
    have hnum := decideSeatRead_number (s := s.pump) hm (Table.get_lt hb.seats hx)
    exact (running_hostRequest_ok h (r := .seatRead 1 (x.row * 256 + x.col) mode) (by simp) hpos).trans
      (running_hostRequest_ok h (r := .seatRead 0 n mode) (by simp) hnum).symm
  · have hd := decideSeatRead_position (s := s.pump) hm hrow hcol
    rw [State.seatAt_eq_none (s := s.pump) hnone] at hd
    exact running_hostRequest_refused h (r := .seatRead 1 (row * 256 + col) mode) hd
  · have hd := decideCollectionRead_entries (s := s.pump) hstart hsel
    simp only [opt16_nextPosition, State.entriesFrom_eq, CollEntry.bytes, EntryFlags.code_eq] at hd
    exact running_hostRequest_ok h (r := .collectionRead sel start) (by simp) hd

end
end

section
/-! PROOF. STATUS and TIME_SET: the groups of the reply to STATUS in the order they stand (R48, R68, R157, R193). -/

namespace Sys2Proof.Machine

/-! ### The groups of STATUS (R157, R193, logs 15, 42, 59) -/

theorem holdCode_eq (c : Option HoldCause) :
    holdCode c = match c with | none => 0 | some .request => 1 | some .line => 2 := by
  rcases c with _ | _ | _ <;> rfl

theorem BufState.code_eq (b : BufState) :
    b.code = match b with | .free => 0 | .filling => 1 | .full => 2 | .marking => 3 := by
  cases b <;> rfl

theorem SheetState.code_eq (x : SheetState) : x.code = match x with
    | .receiving => 0 | .stored => 1 | .marking => 2 | .decided => 3 | .diverted => 4 := by
  cases x <;> rfl

theorem opt8_spoil (x : Option Spoil) : opt8 (x.map Spoil.code) = u8 (match x with
    | none => 0xFF | some .noBuffer => 0 | some .overrun => 1 | some .geometry => 2) := by
  rcases x with _ | _ | _ | _ <;> rfl

/-- A decision's two bytes: the stacker's, 0xFF where there is none, and the reason's (log 15). -/
theorem decisionBytes_eq (d : Option Decision) : decisionBytes d = match d with
    | none => u8 0xFF ++ u8 0 | some .accept => u8 0 ++ u8 0 | some (.reject r) => u8 1 ++ u8 r.code := by
  rcases d with _ | _ | r <;> rfl

theorem SheetRec.bytes_eq (x : SheetRec) : x.bytes = u8 x.tag ++ u8 (match x.state with
      | .receiving => 0 | .stored => 1 | .marking => 2 | .decided => 3 | .diverted => 4) ++
    u8 (x.buffer.getD 0xFF) ++ u8 x.rows ++ u8 (match x.spoil with
      | none => 0xFF | some .noBuffer => 0 | some .overrun => 1 | some .geometry => 2) ++
    (match x.decision with
     | none => u8 0xFF ++ u8 0 | some .accept => u8 0 ++ u8 0 | some (.reject r) => u8 1 ++ u8 r.code) := by
  simp only [SheetRec.bytes, SheetState.code_eq, opt8_spoil, decisionBytes_eq] <;> rfl

/-- The allocation group behind what comes before it: the job's items, zeros where no job runs, then the last outcome (R48). -/
theorem State.append_allocBytes (s : State) (before : List Byte) : before ++ s.allocBytes = before ++ (match s.job with
     | none => u8 0 ++ u8 0 ++ u16 0 ++ u16 0 ++ u16 0
     | some j => u8 (match j.pass with | .access => 1 | .general => 2) ++ (u8 1 ++ j.bytes) ++
        u16 j.generalCount ++ u16 j.placed ++ u16 j.unplacedAccess) ++
    (match s.lastOutcome with | none => u8 0 | some o => u8 1 ++ o.bytes) := by
  rw [State.allocBytes, List.append_assoc before]
  congr 1
  cases s.job with
  | none => cases s.lastOutcome <;> rfl
  | some j =>
    have hpass : j.pass.code = match j.pass with | .access => 1 | .general => 2 := by cases j.pass <;> rfl
    simp only [Option.map_some, Option.getD_some, hpass]
    cases s.lastOutcome <;> rfl

theorem Marker.bytes_eq (m : Marker) : m.bytes = match m with
    | .idle => u8 0 ++ u8 0 ++ u8 0
    | .marking j => u8 1 ++ (u8 1 ++ u8 j.tag) ++ u8 0
    | .rescoring slot next _ => u8 2 ++ u8 0 ++ (u8 1 ++ u8 slot ++ u16 next) := by
  cases m <;> rfl

theorem Reader.bytes_eq (r : Reader) : r.bytes =
    u8 (r.bound.getD 0xFF) ++ flag r.ready ++ flag r.feedSent ++ u16 r.fifo.length ++
      (match r.owner with | none => u8 0 | some g => u8 1 ++ u8 g) ++
      [r.buf0.state, r.buf1.state].flatMap (fun b => u8 b.code) ++
      (u8 r.records.length ++ r.records.flatMap (fun e : Nat × SheetRec => e.2.bytes)) := by
  have howner : group u8 r.owner = match r.owner with | none => u8 0 | some g => u8 1 ++ u8 g := by
    cases r.owner <;> rfl
  simp only [Reader.bytes, howner, List.append_assoc] <;> rfl

/-! ### TIME_SET (R68) -/

variable {s : State}

theorem decideTimeSet_taken {time : Nat} (h : time ≤ 16777215) :
    decideTimeSet time s = ({ s with hallTime := time }, .ok (u24 s.hallTime ++ u24 time)) := if_neg (not_not.2 h)

theorem decideTimeSet_range {time : Nat} (h : ¬ time ≤ 16777215) : decideTimeSet time s = refuse .range s := if_pos h

end Sys2Proof.Machine

section
open Sys2Proof Sys2Proof.Machine

/-- Settles O24: the groups of STATUS one by one, and TIME_SET on either side of its bound. -/
theorem statusAndTimeSet : Obligations.StatusAndTimeSet := by
  refine ⟨fun tag s h => ?_, fun tag time s h => ?_⟩
  · have hd : decideStatus s.pump = (s.pump, .ok s.pump.statusData) := rfl
    simp only [State.statusData, holdCode_eq, State.append_allocBytes, Marker.bytes_eq, Reader.bytes_eq, BufState.code_eq,
      SheetRec.bytes_eq] at hd
    exact running_hostRequest_ok h (r := .status) (by simp) hd
  · split
    next ht => exact running_hostRequest_ok h (r := .timeSet time) (by simp) (decideTimeSet_taken (s := s.pump) ht)
    next ht => exact running_hostRequest_refused h (r := .timeSet time) (decideTimeSet_range (s := s.pump) ht)

end
end

section
/-! PROOF. The order in which a walk takes its positions, and the seats that an advance offers (R40, R41, R43). -/

namespace Sys2Proof.Machine

/-! ### The runs of a walk (R40) -/

/-- The cursor at the position taken `r`-th in the run with outer index `h` and middle index `m`: a run of odd middle index
goes back where the alternate flag is set (R40). -/
def Cursor.inRun (L : Nat) (alt : Bool) (h m r : Nat) : Cursor :=
  { h := h, m := m, l := if alt = true ∧ m % 2 = 1 then L - 1 - r else r, exhausted := false }

theorem runForward_iff {alt : Bool} {m : Nat} : runForward alt m = true ↔ ¬ (alt = true ∧ m % 2 = 1) := by
  cases alt <;> simp [runForward]

theorem runFirst_eq (L : Nat) (alt : Bool) (m : Nat) :
    runFirst L alt m = if alt = true ∧ m % 2 = 1 then L - 1 else 0 := by
  simp only [runFirst, runForward_iff, ite_not]

theorem runLast_eq (L : Nat) (alt : Bool) (m : Nat) :
    runLast L alt m = if alt = true ∧ m % 2 = 1 then 0 else L - 1 := by
  simp only [runLast, runForward_iff, ite_not]

section
variable {L M H h m r : Nat} {alt : Bool}

/-- Inside a run the inner index moves on by one, forward or back. -/
theorem Cursor.next_inRun (hr : r + 1 < L) :
    Cursor.next L M H alt (.inRun L alt h m r) = .inRun L alt h m (r + 1) := by
  by_cases hback : alt = true ∧ m % 2 = 1
  · have hl : L - 1 - r ≠ 0 := by omega
    simp [Cursor.next, Cursor.inRun, runLast_eq, runForward_iff, hback, hl, ← Nat.sub_sub, Nat.sub_right_comm _ r 1]
  · have hl : r ≠ L - 1 := by omega
    simp [Cursor.next, Cursor.inRun, runLast_eq, runForward_iff, hback, hl]

/-- Behind a run the middle index goes on, and the next run begins. -/
theorem Cursor.next_endOfRun (hr : r + 1 = L) (hm : m + 1 < M) :
    Cursor.next L M H alt (.inRun L alt h m r) = .inRun L alt h (m + 1) 0 := by
  subst hr
  simp [Cursor.next, Cursor.inRun, runLast_eq, runFirst_eq, hm]

/-- Behind the last run of a layer the outer index goes on, and the next layer begins at middle index 0. -/
theorem Cursor.next_endOfLayer (hr : r + 1 = L) (hm : m + 1 = M) (hh : h + 1 < H) :
    Cursor.next L M H alt (.inRun L alt h m r) = .inRun L alt (h + 1) 0 0 := by
  subst hr hm
  simp [Cursor.next, Cursor.inRun, runLast_eq, hh]

/-- The last position of the walk leaves its indices and the exhausted mark (R41). -/
theorem Cursor.next_endOfWalk (hr : r + 1 = L) (hm : m + 1 = M) (hh : h + 1 = H) :
    Cursor.next L M H alt (.inRun L alt h m r) = { Cursor.inRun L alt h m r with exhausted := true } := by
  subst hr hm hh
  simp [Cursor.next, Cursor.inRun, runLast_eq]

end

/-! ### The positions by their number (R40, R41) -/

/-- The `n`-th position of a walk. -/
def Cursor.nth (L M : Nat) (alt : Bool) (n : Nat) : Cursor := .inRun L alt (n / (L * M)) (n / L % M) (n % L)

section
variable {L M H : Nat} {alt : Bool} {n : Nat}

theorem Cursor.nth_of_indices {h m r : Nat} (hm : m < M) (hr : r < L) :
    Cursor.nth L M alt ((h * M + m) * L + r) = .inRun L alt h m r := by
  have hrun : ((h * M + m) * L + r) / L = h * M + m := by
    rw [Nat.mul_comm, Nat.mul_add_div (by omega), Nat.div_eq_of_lt hr, Nat.add_zero]
  have hlayer : (h * M + m) / M = h := by
    rw [Nat.mul_comm, Nat.mul_add_div (by omega), Nat.div_eq_of_lt hm, Nat.add_zero]
  rw [Cursor.nth, ← Nat.div_div_eq_div_mul, hrun, hlayer, Nat.mul_add_mod', Nat.mod_eq_of_lt hm, Nat.mul_add_mod',
    Nat.mod_eq_of_lt hr]

/-- A number below L x M x H is that of the position with indices below H, M and L. -/
theorem Cursor.exists_indices (hn : n < L * M * H) :
    ∃ h m r, h < H ∧ m < M ∧ r < L ∧ n = (h * M + m) * L + r := by
  have hL : 0 < L := Nat.pos_of_ne_zero fun h => by simp [h] at hn
  have hM : 0 < M := Nat.pos_of_ne_zero fun h => by simp [h] at hn
  refine ⟨n / (L * M), n / L % M, n % L, Nat.div_lt_of_lt_mul hn, Nat.mod_lt _ hM, Nat.mod_lt _ hL, ?_⟩
  rw [← Nat.div_div_eq_div_mul, Nat.mul_comm (n / L / M), Nat.div_add_mod, Nat.mul_comm, Nat.div_add_mod]

/-- An advance that does not take the last position goes on to the next one. -/
theorem Cursor.next_nth (hn : n + 1 < L * M * H) :
    Cursor.next L M H alt (.nth L M alt n) = .nth L M alt (n + 1) := by
  obtain ⟨h, m, r, hh, hm, hr, rfl⟩ := Cursor.exists_indices (Nat.lt_of_succ_lt hn)
  rw [Cursor.nth_of_indices hm hr]
  rcases (show r + 1 < L ∨ r + 1 = L by omega) with hr' | hr'
  · rw [Cursor.next_inRun hr', Nat.add_assoc, Cursor.nth_of_indices hm hr']
  rcases (show m + 1 < M ∨ m + 1 = M by omega) with hm' | hm'
  · have hnext : (h * M + m) * L + r + 1 = (h * M + (m + 1)) * L + 0 := by rw [← hr']; ring
    rw [Cursor.next_endOfRun hr' hm', hnext, Cursor.nth_of_indices hm' (by omega)]
  · have hnext : (h * M + m) * L + r + 1 = ((h + 1) * M + 0) * L + 0 := by rw [← hr', ← hm']; ring
    have hh' : h + 1 < H := by
      rw [hnext, Nat.add_zero, Nat.add_zero, Nat.mul_comm, ← Nat.mul_assoc, Nat.mul_comm (L * (h + 1)),
        ← Nat.mul_assoc, Nat.mul_comm M L] at hn
      exact Nat.lt_of_mul_lt_mul_left hn
    rw [Cursor.next_endOfLayer hr' hm' hh', hnext, Cursor.nth_of_indices (by omega) (by omega)]

/-- The cursor behind the walk's last position. -/
def Cursor.ended (L M H : Nat) (alt : Bool) : Cursor :=
  { Cursor.inRun L alt (H - 1) (M - 1) (L - 1) with exhausted := true }

theorem Cursor.next_of_exhausted {c : Cursor} (h : c.exhausted = true) : Cursor.next L M H alt c = c := if_pos h

theorem Cursor.iterate_next_of_exhausted {c : Cursor} (h : c.exhausted = true) (n : Nat) :
    (Cursor.next L M H alt)^[n] c = c := Function.iterate_fixed (Cursor.next_of_exhausted h) n

theorem Cursor.iterate_next_lt (hn : n < L * M * H) :
    (Cursor.next L M H alt)^[n] Cursor.start = .nth L M alt n := by
  induction n with
  | zero => simp [Cursor.nth, Cursor.inRun, Cursor.start]
  | succ n ih => rw [Function.iterate_succ_apply', ih (Nat.lt_of_succ_lt hn), Cursor.next_nth hn]

theorem Cursor.iterate_next_ge (hL : 1 ≤ L) (hM : 1 ≤ M) (hH : 1 ≤ H) (hn : L * M * H ≤ n) :
    (Cursor.next L M H alt)^[n] Cursor.start = .ended L M H alt := by
  obtain ⟨l, rfl⟩ := Nat.exists_eq_add_of_le' hL
  obtain ⟨m, rfl⟩ := Nat.exists_eq_add_of_le' hM
  obtain ⟨h, rfl⟩ := Nat.exists_eq_add_of_le' hH
  have hsize : (l + 1) * (m + 1) * (h + 1) = (h * (m + 1) + m) * (l + 1) + l + 1 := by ring
  have hlast : (Cursor.next (l + 1) (m + 1) (h + 1) alt)^[(l + 1) * (m + 1) * (h + 1)] Cursor.start =
      .ended (l + 1) (m + 1) (h + 1) alt := by
    rw [hsize, Function.iterate_succ_apply', Cursor.iterate_next_lt (by omega),
      Cursor.nth_of_indices (Nat.lt_succ_self m) (Nat.lt_succ_self l), Cursor.next_endOfWalk rfl rfl rfl]
    rfl
  obtain ⟨k, rfl⟩ := Nat.exists_eq_add_of_le' hn
  rw [Function.iterate_add_apply, hlast, Cursor.iterate_next_of_exhausted rfl]

end

/-! ### The advance of a seat walk (R43) -/

section
variable {s : State} {w : SeatWalk} {c c' : Cursor} {fuel : Nat}

theorem State.advanceSeatWalk_exhausted (h : c.exhausted = true) : s.advanceSeatWalk w fuel c = (c, none) := by
  cases fuel with
  | zero => rfl
  | succ fuel => exact if_pos h

theorem State.advanceSeatWalk_seat {n : Nat} (h : c.exhausted = false) (hn : s.seatAt (w.position c) = some n) :
    s.advanceSeatWalk w (fuel + 1) c = (c.next w.countL w.countM w.countH w.alternate, some n) := by
  simp [State.advanceSeatWalk, h, hn]

theorem State.advanceSeatWalk_pass (h : c.exhausted = false) (hn : s.seatAt (w.position c) = none) :
    s.advanceSeatWalk w (fuel + 1) c = s.advanceSeatWalk w fuel (c.next w.countL w.countM w.countH w.alternate) := by
  simp [State.advanceSeatWalk, h, hn]

/-- An advance that offers nothing has taken a position for each unit of its fuel. -/
theorem State.advanceSeatWalk_none (h : s.advanceSeatWalk w fuel c = (c', none)) :
    c' = (Cursor.next w.countL w.countM w.countH w.alternate)^[fuel] c := by
  induction fuel generalizing c with
  | zero => exact (congrArg Prod.fst h).symm
  | succ fuel ih =>
    cases he : c.exhausted with
    | true =>
      rw [State.advanceSeatWalk_exhausted he] at h
      rw [Cursor.iterate_next_of_exhausted he]
      exact (congrArg Prod.fst h).symm
    | false =>
      cases hn : s.seatAt (w.position c) with
      | some n =>
        rw [State.advanceSeatWalk_seat he hn] at h
        cases congrArg Prod.snd h
      | none =>
        rw [State.advanceSeatWalk_pass he hn] at h
        exact ih h

/-- An aisle and a position outside the grid offer no seat, whatever the position's sign (R23, R43). -/
theorem State.seatAt_eq_none_of_int {row col : Int}
    (h : row < 0 ∨ (s.hall.rows : Int) ≤ row ∨ col < 0 ∨ (s.hall.cols : Int) ≤ col ∨
      ∀ e ∈ s.seats, (e.2.row : Int) ≠ row ∨ (e.2.col : Int) ≠ col) : s.seatAt (row, col) = none := by
  by_cases hin : 0 ≤ row ∧ 0 ≤ col
  · obtain ⟨r, rfl⟩ := Int.eq_ofNat_of_zero_le hin.1
    obtain ⟨k, rfl⟩ := Int.eq_ofNat_of_zero_le hin.2
    refine State.seatAt_eq_none ?_
    rcases h with h | h | h | h | h
    · omega
    · exact .inr (.inl (by omega))
    · omega
    · exact .inr (.inr (by omega))
    · exact .inl fun n y hy => by simpa using h (n, y) hy
  · exact if_neg fun hgrid => hin ⟨hgrid.1, hgrid.2.2.1⟩

end

end Sys2Proof.Machine

section
open Sys2Proof Sys2Proof.Machine

/-- Settles O39: the `n`-th position in closed form, and an advance by the seat at the position it takes. -/
theorem walkTakesPositionsInOrder : Obligations.WalkTakesPositionsInOrder := by
  refine fun L M H alt n hL hM hH => ⟨Cursor.iterate_next_lt, fun hn => ?_,
    fun s w c fuel row col hwL hwM hwH hwalt hrow hcol => ⟨State.advanceSeatWalk_exhausted, fun he => ⟨?_, ?_⟩, ?_⟩⟩
  · rw [Cursor.iterate_next_ge hL hM hH hn, Cursor.ended, Cursor.inRun, Nat.sub_self]
  all_goals
    subst hwL hwM hwH hwalt
    have hposition : w.position c = (row, col) := by rw [hrow, hcol]; rfl
  · intro n x hb hx hgridRow hgridCol hxrow hxcol hone
    refine State.advanceSeatWalk_seat he ?_
    rw [hposition, ← hxrow, ← hxcol]
    exact State.seatAt_unique hb.seats hx hgridRow hgridCol hone
  · exact fun hnone => State.advanceSeatWalk_pass he (hposition ▸ State.seatAt_eq_none_of_int hnone)
  · rintro hsize rfl c' hadvance
    rw [State.advanceSeatWalk_none hadvance, ← Function.iterate_add_apply,
      Cursor.iterate_next_ge hL hM hH (hsize.trans (Nat.le_add_right _ _))]
    rfl

end
end

section
/-! PROOF. FORMAT_READ and KEY_READ: what each is refused for, and the bytes of a format and of its addresses (R45, R46, R138,
R160, R162, R166). -/

namespace Sys2Proof.Machine

/-! ### The bytes of a format (R138, R198, R199) -/

theorem Policy.code_eq (p : Policy) : p.code = match p with | .asBlank => 0 | .asWrong => 1 := by cases p <;> rfl

theorem AnswerBlock.bytes_eq (b : AnswerBlock) : b.bytes =
    u8 b.first ++ u8 b.count ++ u8 b.options ++ u16 b.walk.start ++ s16 b.walk.o1 ++ s16 b.walk.o2 := by
  simp only [AnswerBlock.bytes, BlockWalk.bytes, List.append_assoc]

theorem Format.bytes_eq (f : Format) : f.bytes = [f.mask.extractLsb' 0 8, f.mask.extractLsb' 8 8,
      f.mask.extractLsb' 16 8, f.mask.extractLsb' 24 8, f.mask.extractLsb' 32 8, f.mask.extractLsb' 40 8] ++
    u8 f.subSamples ++ u8 f.rows ++ u8 f.refRow ++ u8 f.tBlank ++ u8 f.tMark ++ u8 f.margin ++ u8 f.faint.code ++
    u8 f.multi.code ++ flag f.sectionFloor ++ s16 f.paperFloor ++ u16 f.idBlock.start ++ s16 f.idBlock.o1 ++
    s16 f.idBlock.o2 ++ u8 f.blocks.length ++ f.blocks.flatMap (fun b =>
      u8 b.first ++ u8 b.count ++ u8 b.options ++ u16 b.walk.start ++ s16 b.walk.o1 ++ s16 b.walk.o2) := by
  have hmask : maskBytes f.mask = [f.mask.extractLsb' 0 8, f.mask.extractLsb' 8 8, f.mask.extractLsb' 16 8,
    f.mask.extractLsb' 24 8, f.mask.extractLsb' 32 8, f.mask.extractLsb' 40 8] := rfl
  simp only [Format.bytes, hmask, BlockWalk.bytes, listOf, funext AnswerBlock.bytes_eq, List.append_assoc]

/-- What FORMAT_LOAD and FORMAT_READ report: the format, its sizes, and each block walk's addresses (R161, R162, log 15). -/
theorem Format.report_eq (f : Format) : f.report = f.bytes ++ u8 f.channels ++ u8 f.questions ++
    u16 (f.rows * f.channels * f.subSamples) ++ u8 f.walks.length ++ f.walks.flatMap (fun w =>
      u16 (w.1.lowest w.2.1 w.2.2.1 w.2.2.2).toNat ++ u16 (w.1.highest w.2.1 w.2.2.1 w.2.2.2).toNat) := by
  simp only [Format.report, Format.sheetSize, Format.addressBytes, listOf, List.append_assoc]

theorem KeyEntry.group_bytes (e : Option KeyEntry) : group KeyEntry.bytes e = match e with
    | none => [0]
    | some e => [1, e.keySet] ++ u8 e.weight ++ u8 e.penalty ++ u8 e.sect := by
  cases e <;> rfl

/-! ### The addresses of a block walk (R45, R46) -/

theorem axisLow_eq (count : Nat) (step : Int) :
    axisLow count step = if ((count : Int) - 1) * step < 0 then ((count : Int) - 1) * step else 0 := by
  rw [axisLow, min_comm, min_def]
  split_ifs <;> omega

theorem axisHigh_eq (count : Nat) (step : Int) :
    axisHigh count step = if 0 < ((count : Int) - 1) * step then ((count : Int) - 1) * step else 0 := by
  rw [axisHigh, max_def]
  split_ifs <;> omega

/-! ### The checks (R162, R166) -/

variable {s : State} {slot first count : Nat} {p : Paper}

theorem decideFormatRead_range (h : 8 ≤ slot) : decideFormatRead slot s = refuse .range s := if_pos (Nat.not_lt.2 h)

theorem decideFormatRead_notFound (h : slot < 8) (hp : s.paper slot = none) :
    decideFormatRead slot s = refuse .notFound s := by
  simp [decideFormatRead, h, hp]

theorem decideFormatRead_defined (h : slot < 8) (hp : s.paper slot = some p) :
    decideFormatRead slot s = (s, .ok (u24 s.hallTime ++ group Format.report p.format)) := by
  simp [decideFormatRead, h, hp]

/-- The slot, question number and count that check 1 of R166 takes. -/
def KeyReadInRange (slot first count : Nat) : Prop := slot < 8 ∧ 1 ≤ first ∧ first ≤ 200 ∧ 1 ≤ count ∧ count ≤ 50

theorem decideKeyRead_range (h : ¬ KeyReadInRange slot first count) :
    decideKeyRead slot first count s = refuse .range s := if_pos h

theorem decideKeyRead_notFound (h : KeyReadInRange slot first count) (hp : s.paper slot = none) :
    decideKeyRead slot first count s = refuse .notFound s := by
  refine (if_neg (not_not.2 h)).trans ?_
  rw [hp]

theorem decideKeyRead_state (h : KeyReadInRange slot first count) (hp : s.paper slot = some p) (hf : p.format = none) :
    decideKeyRead slot first count s = refuse .state s := by
  refine (if_neg (not_not.2 h)).trans ?_
  simp only [hp, hf]

theorem decideKeyRead_format {f : Format} (h : KeyReadInRange slot first count) (hp : s.paper slot = some p)
    (hf : p.format = some f) : decideKeyRead slot first count s =
      if first + count - 1 ≤ f.questions then
        (s, .ok (u24 s.hallTime ++ u16 p.generation ++ u8 (p.key.countP Option.isNone) ++
          listOf (group KeyEntry.bytes) ((p.key.drop (first - 1)).take count)))
      else refuse .range s := by
  refine (if_neg (not_not.2 h)).trans ?_
  simp only [hp, hf, ite_not, Paper.unwritten]

end Sys2Proof.Machine

section
open Sys2Proof Sys2Proof.Machine

/-- Settles O29: the layout of a format and of its addresses, then the checks of both reads in their order. -/
theorem formatAndKeyReads : Obligations.FormatAndKeyReads := by
  refine ⟨fun f => ?_, fun f => ⟨rfl, rfl, rfl⟩, fun w L M H el em eh hel hem heh => ?_,
    fun tag slot first count s h => ⟨fun hs => ?_, fun hs hp => ?_, fun hbad => ?_, fun hs h1 h2 h3 h4 =>
      ⟨fun hp => ?_, fun p hp hf => ?_⟩⟩,
    fun tag slot p s h hs hp => ⟨fun hf => ?_, fun f hf => ?_, fun f first count hf h1 h2 h3 h4 => ?_⟩⟩
  · have hbytes := Format.bytes_eq f
    rw [Policy.code_eq, Policy.code_eq] at hbytes
    exact hbytes
  · subst hel hem heh
    exact ⟨by rw [BlockWalk.lowest, axisLow_eq, axisLow_eq, axisLow_eq],
      by rw [BlockWalk.highest, axisHigh_eq, axisHigh_eq, axisHigh_eq]⟩
  · exact running_hostRequest_refused h (r := .formatRead slot) (decideFormatRead_range hs)
  · exact running_hostRequest_refused h (r := .formatRead slot) (decideFormatRead_notFound (s := s.pump) hs hp)
  · refine running_hostRequest_refused h (r := .keyRead slot first count) (decideKeyRead_range fun hin => ?_)
    obtain ⟨hs, h1, h2, h3, h4⟩ := hin
    omega
  · exact running_hostRequest_refused h (r := .keyRead slot first count)
      (decideKeyRead_notFound (s := s.pump) ⟨hs, h1, h2, h3, h4⟩ hp)
  · exact running_hostRequest_refused h (r := .keyRead slot first count)
      (decideKeyRead_state (s := s.pump) ⟨hs, h1, h2, h3, h4⟩ hp hf)
  · have hd := decideFormatRead_defined (s := s.pump) hs hp
    rw [hf] at hd
    exact running_hostRequest_ok h (r := .formatRead slot) (by simp) hd
  · have hd := decideFormatRead_defined (s := s.pump) hs hp
    rw [hf, group, Format.report_eq] at hd
    simp only [← List.append_assoc] at hd
    exact running_hostRequest_ok h (r := .formatRead slot) (by simp) hd
  · have hd := decideKeyRead_format (s := s.pump) ⟨hs, h1, h2, h3, h4⟩ hp hf
    rw [funext KeyEntry.group_bytes] at hd
    split
    next hq => exact running_hostRequest_ok h (r := .keyRead slot first count) (by simp) (hd.trans (if_pos hq))
    next hq => exact running_hostRequest_refused h (r := .keyRead slot first count) (hd.trans (if_neg hq))

end
end

section
/-! PROOF. The Allocation Engine's job: the ends of its passes, its own end, and one advance (R51 to R56, R59, R72). -/

namespace Sys2Proof.Machine

variable {s t : State}

/-! ### The end of a job (R56, R59, R72) -/

/-- The job record is IDLE, with the last outcome, and ALLOC_END is posted (R56, R57). -/
def State.recordOutcome (t : State) (slot : Nat) (outcome : JobOutcome) (placed ua ug : Nat) : State :=
  { t with job := none, lastOutcome := some ⟨slot, outcome, placed, ua, ug, t.hallTime⟩ }.post slot
    (.allocEnd slot outcome placed ua ug)

theorem State.startDue_iff {slot : Nat} : s.startDue slot = true ↔
    ((s.paper slot).any (fun p => p.state == .planned && p.defn.start.any (fun x => x ≤ s.hallTime)) = true ∧
      s.hold = none) ∧ s.allocating slot = false := by
  unfold State.startDue
  cases s.paper slot with
  | none => simp
  | some p => simp [and_assoc]

/-- A job's end, and the scheduled start that is due at it: the job is over, so it does not stand in the way (R59, R72). -/
theorem State.endJob_eq (t : State) (j : Job) (outcome : JobOutcome) (ua ug : Nat) : t.endJob j outcome ua ug =
    if (t.paper j.paper).any (fun p => p.state == .planned && p.defn.start.any (fun x => x ≤ t.hallTime)) = true ∧
        t.hold = none then
      (t.recordOutcome j.paper outcome j.placed ua ug).startPaper j.paper .schedule
    else t.recordOutcome j.paper outcome j.placed ua ug :=
  if_congr (State.startDue_iff.trans (and_iff_left rfl)) rfl rfl

theorem State.endJob_of_paper {j : Job} {p : Paper} (hp : t.paper j.paper = some p) (outcome : JobOutcome) (ua ug : Nat) :
    t.endJob j outcome ua ug =
      if p.state = .planned ∧ p.defn.start.any (fun x => x ≤ t.hallTime) = true ∧ t.hold = none then
        (t.recordOutcome j.paper outcome j.placed ua ug).startPaper j.paper .schedule
      else t.recordOutcome j.paper outcome j.placed ua ug := by
  rw [State.endJob_eq]
  exact if_congr (by simp [hp, and_assoc]) rfl rfl

/-! ### The ends of passes (R55, R56) -/

section
variable {j : Job}

/-- DONE with no one unplaced, else PARTIAL (R56). -/
theorem State.endGeneral_eq : t.endGeneral j =
    t.endJob j (if j.unplacedAccess = 0 ∧ j.waiting.length = 0 then .done else .partly) j.unplacedAccess
      j.waiting.length := by
  simp only [State.endGeneral, List.length_eq_zero_iff]

theorem Job.passOver_iff : j.passOver = true ↔ j.waiting = [] ∨ j.cursor.exhausted = true := by
  simp [Job.passOver]

theorem State.checkPass_goesOn (h : ¬ (j.waiting = [] ∨ j.cursor.exhausted = true)) :
    t.checkPass j = { t with job := some j } := by
  rw [← Job.passOver_iff] at h
  cases hp : j.pass <;> simp [State.checkPass, State.checkGeneral, hp, h]

theorem State.checkPass_toGeneral (h : j.waiting = [] ∨ j.cursor.exhausted = true) (hp : j.pass = .access)
    (hg : t.waitingList j.paper false ≠ []) :
    t.checkPass j = { t with job := some (j.toGeneral (t.waitingList j.paper false)) } := by
  have hover : (j.toGeneral (t.waitingList j.paper false)).passOver = false := by
    simp [Job.passOver, Job.toGeneral, Cursor.start, hg]
  simp [State.checkPass, State.checkGeneral, hp, Job.passOver_iff.2 h, hover]

/-- With no one to place in PASS_GENERAL it ends at once, and the job with it. -/
theorem State.checkPass_accessEnds (h : j.waiting = [] ∨ j.cursor.exhausted = true) (hp : j.pass = .access)
    (hg : t.waitingList j.paper false = []) : t.checkPass j = t.endGeneral (j.toGeneral []) := by
  have hover : (j.toGeneral []).passOver = true := Job.passOver_iff.2 (.inl rfl)
  simp [State.checkPass, State.checkGeneral, hp, Job.passOver_iff.2 h, hg, hover]

theorem State.checkPass_generalEnds (h : j.waiting = [] ∨ j.cursor.exhausted = true) (hp : j.pass = .general) :
    t.checkPass j = t.endGeneral j := by
  simp [State.checkPass, State.checkGeneral, hp, Job.passOver_iff.2 h]

end

/-! ### The seat offered (R52, R53) -/

@[simp] theorem State.pump_firstBlocking (m : Separation) (p n : Nat) (x : Seat) (own : Option Nat) :
    s.pump.firstBlocking m p n x own = s.firstBlocking m p n x own := rfl

theorem State.pump_advanceSeatWalk (w : SeatWalk) (fuel : Nat) (c : Cursor) :
    s.pump.advanceSeatWalk w fuel c = s.advanceSeatWalk w fuel c := by
  induction fuel generalizing c with
  | zero => rfl
  | succ fuel ih =>
    simp only [State.advanceSeatWalk, ih]
    rfl

/-- The offered seat passes R52's test in the job's pass, and R53's under the paper's separation mode. -/
def State.Suits (s : State) (j : Job) (mode : Separation) (n : Nat) (x : Seat) : Prop :=
  x.state = .enabled ∧ x.occupant = none ∧ (j.pass = .access → x.cls = .access) ∧
    (j.pass = .general → x.cls = .standard ∨ j.spill = true) ∧ s.firstBlocking mode j.paper n x none = none

section
variable {j : Job} {i n : Nat} {rest : List Nat} {c : Cand} {p : Paper} {x : Seat}

theorem Job.eligible_iff : j.eligible x = true ↔ x.state = .enabled ∧ x.occupant = none ∧
    (j.pass = .access → x.cls = .access) ∧ (j.pass = .general → x.cls = .standard ∨ j.spill = true) := by
  cases hp : j.pass <;> simp [Job.eligible, hp, and_assoc]

theorem State.separated_iff (hp : s.paper j.paper = some p) :
    s.separated j.paper n x = true ↔ s.firstBlocking p.defn.separation j.paper n x none = none := by
  simp [State.separated, hp]

theorem State.suits_iff (hp : s.paper j.paper = some p) :
    s.Suits j p.defn.separation n x ↔ j.eligible x = true ∧ s.separated j.paper n x = true := by
  simp only [State.Suits, Job.eligible_iff, State.separated_iff hp, and_assoc]

variable (hw : j.waiting = i :: rest) (hc : s.cand i = some c) (hp : s.paper j.paper = some p) (hx : s.seat n = some x)
include hw hc hp hx

theorem State.placeable_of_suits (hst : c.state = .unseated) (h : s.Suits j p.defn.separation n x) :
    s.placeable j n = some (i, c) := by
  obtain ⟨heligible, hseparated⟩ := (State.suits_iff hp).1 h
  simp [State.placeable, hx, hw, hc, heligible, hseparated, hst]

theorem State.placeable_eq_none (h : ¬ s.Suits j p.defn.separation n x) : s.placeable j n = none := by
  rw [State.suits_iff hp, not_and, Bool.not_eq_true] at h
  simp only [State.placeable, hx, hw, hc]
  exact if_neg fun hall => by simp_all

end

/-! ### One advance (R51, R54) -/

theorem State.seatPresent_eq (n : Nat) :
    s.seatPresent n = (s.loop n).any (fun r => r.presentIn.cond == Level.active) := by
  unfold State.seatPresent
  cases s.loop n with
  | none => rfl
  | some r => cases hr : r.presentIn.cond <;> simp [hr]

/-- Candidate `i` becomes SEATED at seat `n` with the seat's present level, and the WATCH_TRACE is posted (R54). -/
def State.place (s : State) (i n : Nat) : State :=
  (s.modSeat n (fun y => { y with occupant := some i })).changeCand i (fun d => { d with
    seat := some n, state := .seated,
    present := (s.loop n).any (fun r : LoopRec => r.presentIn.cond == Level.active) }) (.request 0x18)

/-- The job record after an advance: the cursor moved on, and who waits and how many are placed (R51, R54). -/
def Job.advanced (j : Job) (cur : Cursor) (waiting : List Nat) (placed : Nat) : Job :=
  { j with cursor := cur, waiting := waiting, placed := placed }

section
variable {j : Job} {i n : Nat} {c : Cand} {cur : Cursor} {offered : Option Nat}

theorem State.occupy_traceOne (hc : s.cand i = some c) : (s.occupy i n).traceOne i c (.request 0x18) = s.place i n := by
  have hmod : (s.modSeat n (fun y => { y with occupant := some i })).cand i = some c := hc
  simp only [State.place, State.changeCand, hmod, ← State.seatPresent_eq, State.occupy]

/-- No seat offered, or one that is declined, leaves all but the cursor. -/
theorem State.allocAdvance_declined (hj : s.job = some j) (ha : s.advanceSeatWalk j.walk 4096 j.cursor = (cur, offered))
    (h : ∀ n, offered = some n → s.placeable { j with cursor := cur } n = none) :
    s.allocAdvance = s.checkPass (j.advanced cur j.waiting j.placed) := by
  simp only [State.allocAdvance, hj, Config.maxWalk, ha]
  cases offered with
  | none => rfl
  | some n =>
    simp only [State.offer, h n rfl]
    rfl

theorem State.allocAdvance_placed {rest : List Nat} (hj : s.job = some j)
    (ha : s.advanceSeatWalk j.walk 4096 j.cursor = (cur, some n)) (hw : j.waiting = i :: rest) (hc : s.cand i = some c)
    (h : s.placeable { j with cursor := cur } n = some (i, c)) :
    s.allocAdvance = (s.place i n).checkPass (j.advanced cur rest (j.placed + 1)) := by
  simp only [State.allocAdvance, hj, Config.maxWalk, ha, State.offer, h]
  rw [State.occupy_traceOne hc, hw]
  rfl

end

end Sys2Proof.Machine

section
open Sys2Proof Sys2Proof.Machine

/-- Settles O38: what the advance leaves of the job, then the pass's and the job's end. -/
theorem allocAdvancePlacesOrDeclines : Obligations.AllocAdvancePlacesOrDeclines := by
  rintro s t j i placed rest waiting cur offered c p hlow hj hw ha hc hst hp fits rfl ht passEnds general rfl rfl ended
    hended
  obtain ⟨hpapers, htime, hhold⟩ : t.papers = s.papers ∧ t.hallTime = s.hallTime ∧ t.hold = s.hold := by
    rcases ht with ⟨-, rfl, -⟩ | ⟨n, x, -, -, -, -, -, rfl⟩ <;> simp
  have hadvance : s.pump.allocAdvance = t.checkPass (j.advanced cur waiting placed) := by
    rw [← State.pump_advanceSeatWalk] at ha
    rcases ht with ⟨hdecline, rfl, rfl, rfl⟩ | ⟨n, x, rfl, hx, hfits, rfl, rfl, rfl⟩
    · refine State.allocAdvance_declined (s := s.pump) hj ha fun n hn => ?_
      obtain ⟨x, hx, hfits⟩ := hdecline n hn
      exact State.placeable_eq_none (s := s.pump) hw hc hp hx hfits
    · exact State.allocAdvance_placed (s := s.pump) hj ha hw hc
        (State.placeable_of_suits (s := s.pump) (j := { j with cursor := cur }) hw hc hp hx hst hfits)
  have hexec : ∀ u, t.checkPass (j.advanced cur waiting placed) = u →
      exec .allocAdvance s = .next u.pump := by
    rintro u rfl
    rw [← hadvance]
    exact running_high State.allocAdvance hlow
  have hend : ∀ ua ug, t.endJob (j.advanced cur waiting placed)
      (if ua = 0 ∧ ug = 0 then .done else .partly) ua ug = ended ua ug := by
    intro ua ug
    rw [hended, ← htime, ← hhold]
    exact State.endJob_of_paper (j := j.advanced cur waiting placed) ((State.paper_congr hpapers _).trans hp) ..
  refine ⟨fun hgo => hexec _ (State.checkPass_goesOn hgo),
    fun hends hpass hgeneral => hexec _ (State.checkPass_toGeneral hends hpass hgeneral),
    fun hends hpass hgeneral => hexec _ ?_, fun hends hpass => hexec _ ?_⟩
  · rw [← hend]
    exact (State.checkPass_accessEnds (j := j.advanced cur waiting placed) hends hpass hgeneral).trans State.endGeneral_eq
  · rw [← hend]
    exact (State.checkPass_generalEnds (j := j.advanced cur waiting placed) hends hpass).trans State.endGeneral_eq

end
end

section
/-! PROOF. ALLOCATE and ALLOC_ABORT, the waiting lists, and what a running job refuses (R49, R50, R57, R58). -/

namespace Sys2Proof.Machine

variable {s : State}

/-! ### The waiting lists (R50, R55) -/

/-- A list sorted by a number that belongs to each entry rises in it. -/
theorem pairwise_insertionSort_key {α : Type} (key : α → Nat) (l : List α) :
    (l.insertionSort (fun a b => key a ≤ key b)).Pairwise (fun a b => key a ≤ key b) :=
  have : Std.Total (fun a b => key a ≤ key b) := ⟨fun _ _ => Nat.le_total ..⟩
  have : IsTrans α (fun a b => key a ≤ key b) := ⟨fun _ _ _ => Nat.le_trans⟩
  List.pairwise_insertionSort _ l

theorem State.mem_waitingList (hb : s.Bounded) {slot i : Nat} {access : Bool} : i ∈ s.waitingList slot access ↔
    ∃ c, s.cand i = some c ∧ c.paper = slot ∧ c.state = .unseated ∧ c.needsAccess = access := by
  simp only [State.waitingList, List.mem_map, List.mem_insertionSort, List.mem_filter, Prod.exists,
    Table.mem_iff_get hb.cands, Bool.and_eq_true, beq_iff_eq, decide_eq_true_eq, and_assoc]
  constructor
  · rintro ⟨_, c, hc, hslot, hstate, hneeds, rfl⟩
    exact ⟨c, hc, hslot, hstate, hneeds⟩
  · rintro ⟨c, hc, hslot, hstate, hneeds⟩
    exact ⟨i, c, hc, hslot, hstate, hneeds, rfl⟩

theorem State.waitingList_pairwise (hb : s.Bounded) (slot : Nat) (access : Bool) :
    (s.waitingList slot access).Pairwise (fun i j => ∀ c d, s.cand i = some c → s.cand j = some d →
      c.number ≤ d.number) := by
  refine List.pairwise_map.2 ((pairwise_insertionSort_key (fun e : Nat × Cand => e.2.number) _).imp_of_mem
    fun {a b} ha hb' hle c d hc hd => ?_)
  have hread : ∀ e : Nat × Cand, e ∈ s.cands → s.cand e.1 = some e.2 := fun e he => Table.get_of_mem hb.cands he
  rw [List.mem_insertionSort] at ha hb'
  rw [hread a (List.mem_of_mem_filter ha), Option.some.injEq] at hc
  rw [hread b (List.mem_of_mem_filter hb'), Option.some.injEq] at hd
  rwa [← hc, ← hd]

/-! ### ALLOCATE (R49, R50) -/

section
variable {slot spill : Nat} {w : SeatWalkArgs} {p : Paper} {j : Job}

theorem decideAllocate_range (h : 8 ≤ slot ∨ 1 < spill) : decideAllocate slot w spill s = refuse .range s :=
  if_pos fun hin => by
    obtain ⟨hslot, hspill⟩ : slot < 8 ∧ spill ≤ 1 := hin
    omega

variable (hslot : slot < 8) (hspill : spill ≤ 1)
include hslot hspill

theorem decideAllocate_notFound (hp : s.paper slot = none) : decideAllocate slot w spill s = refuse .notFound s := by
  simp [decideAllocate, hslot, hspill, hp]

variable (hp : s.paper slot = some p)
include hp

theorem decideAllocate_format (hw : ¬ seatWalkValid w s.hall = true) :
    decideAllocate slot w spill s = refuse .format s := by
  simp [decideAllocate, hslot, hspill, hp, hw]

variable (hw : seatWalkValid w s.hall = true)
include hw

theorem decideAllocate_busy (hj : s.job = some j) : decideAllocate slot w spill s = refuse .busy s := by
  simp [decideAllocate, hslot, hspill, hp, hw, hj]

theorem decideAllocate_state (hj : s.job = none) (hst : p.state ≠ .planned) :
    decideAllocate slot w spill s = refuse .state s := by
  simp [decideAllocate, hslot, hspill, hp, hw, hj, hst]

theorem decideAllocate_taken (hj : s.job = none) (hst : p.state = .planned) : decideAllocate slot w spill s =
    (s.checkPass (Job.new slot (seatWalkTaken w) (spill == 1) (s.waitingList slot true)
      (s.waitingList slot false).length),
      .ok (u16 (s.waitingList slot true).length ++ u16 (s.waitingList slot false).length)) := by
  simp [decideAllocate, hslot, hspill, hp, hw, hj, hst]

end

section
variable {slot : Nat} {walk : SeatWalk} {spill : Bool}

/-- A job with ACCESS candidates waiting begins with PASS_ACCESS (R50). -/
theorem State.checkPass_new_access {waiting : List Nat} {general : Nat} (h : waiting ≠ []) :
    s.checkPass (Job.new slot walk spill waiting general) =
      { s with job := some (Job.new slot walk spill waiting general) } :=
  State.checkPass_goesOn fun hover => hover.elim h (by simp [Job.new, Cursor.start])

/-- With no ACCESS candidate waiting PASS_ACCESS ends at once (R55). -/
theorem State.checkPass_new_general {general : Nat} (h : s.waitingList slot false ≠ []) :
    s.checkPass (Job.new slot walk spill [] general) =
      { s with job := some ((Job.new slot walk spill [] general).toGeneral (s.waitingList slot false)) } :=
  State.checkPass_toGeneral (.inl rfl) rfl h

/-- With no one waiting at all the job is DONE at once (R55, R56). -/
theorem State.checkPass_new_done {general : Nat} (h : s.waitingList slot false = []) :
    s.checkPass (Job.new slot walk spill [] general) = s.endJob (Job.new slot walk spill [] general) .done 0 0 :=
  (State.checkPass_accessEnds (.inl rfl) rfl h).trans State.endGeneral_eq

end

/-! ### ALLOC_ABORT (R57) -/

/-- The candidates left unplaced, with and without ACCESS need, as the job's pass counts them (R57). -/
def Job.unplaced (j : Job) : Nat × Nat :=
  match j.pass with
  | .access => (j.waiting.length, j.generalCount)
  | .general => (j.unplacedAccess, j.waiting.length)

theorem decideAllocAbort_idle (hj : s.job = none) : decideAllocAbort s = refuse .state s := by
  simp [decideAllocAbort, hj]

theorem decideAllocAbort_running {j : Job} (hj : s.job = some j) : decideAllocAbort s =
    (s.endJob j .aborted j.unplaced.1 j.unplaced.2,
      .ok (u16 j.placed ++ u16 j.unplaced.1 ++ u16 j.unplaced.2)) := by
  cases hpass : j.pass <;> simp [decideAllocAbort, hj, Job.unplaced, hpass]

/-! ### What a running job refuses (R58) -/

section
variable {j : Job} (hj : s.job = some j)
include hj

theorem decideMove_busy (i n : Nat) : decideMove i n s = refuse .busy s := if_pos (by simp [hj])

theorem decideUnseat_busy (i : Nat) : decideUnseat i s = refuse .busy s := if_pos (by simp [hj])

theorem decideCandRemove_busy (i : Nat) : decideCandRemove i s = refuse .busy s := if_pos (by simp [hj])

theorem decideCandAdd_busy (number slot allowance needs restBudget seat : Nat) :
    decideCandAdd number slot allowance needs restBudget seat s = refuse .busy s := if_pos (by simp [hj])

theorem decideSeatDefine_busy {n row col cls : Nat} (h : s.DefineInRange n row col cls) :
    decideSeatDefine n row col cls s = refuse .busy s := (if_neg (not_not.2 h)).trans (if_pos (by simp [hj]))

theorem decideSeatRemove_busy {n : Nat} (hn : n < 512) : decideSeatRemove n s = refuse .busy s :=
  (if_neg (not_not.2 hn)).trans (if_pos (by simp [hj]))

theorem decideSeatState_busy {n action : Nat} (hn : n < 512) (ha : action ≤ 2) :
    decideSeatState n action s = refuse .busy s :=
  (if_neg (not_not.2 ⟨hn, ha⟩)).trans (if_pos (by simp [hj]))

theorem decideHallConfig_busy {a : HallConfigArgs} (h : hallInRange a = true) : decideHallConfig a s = refuse .busy s :=
  (if_neg (not_not.2 h)).trans (if_pos (by simp [hj]))

theorem decidePaperDefine_busy {a : PaperArgs} (h : paperInRange j.paper a = true)
    (hw : ¬ (a.walkPresent = 1 ∧ ¬ seatWalkValid a.walk s.hall)) : decidePaperDefine j.paper a s = refuse .busy s :=
  (if_neg (not_not.2 h)).trans ((if_neg hw).trans (if_pos (by simp [hj])))

end

end Sys2Proof.Machine

section
open Sys2Proof Sys2Proof.Machine

/-- Settles O37: ALLOCATE and ALLOC_ABORT by their checks and by who waits, and each request that a running job refuses. -/
theorem allocateAndAbort : Obligations.AllocateAndAbort := by
  rintro ended hended
  have hend : ∀ (t : State) (j : Job) (outcome : JobOutcome) (ua ug : Nat),
      t.endJob j outcome ua ug = ended t j.paper outcome j.placed ua ug := by
    rw [hended]
    exact State.endJob_eq
  refine ⟨fun tag s h hj => ?_, fun w => rfl, fun tag slot spill w s h => ⟨fun hbad => ?_, fun hslot hspill =>
      ⟨fun hp => ?_, fun p hp => ⟨fun hw => ?_, fun hw hj hst => ?_⟩⟩⟩,
    fun tag slot spill w p s h hslot hspill hp hw hj hst => ?_,
    fun s slot i access hb => ⟨State.mem_waitingList hb, State.waitingList_pairwise hb slot access⟩,
    fun tag j s h hj => ?_, fun tag j s h hj => ⟨fun slot spill w hslot hspill hp hw => ?_, fun i n => ?_,
      fun i => ⟨?_, ?_⟩, fun number slot allowance needs restBudget seat => ?_,
      fun n hn => ⟨fun row col cls hrow hcol hcls => ?_, ?_, ?_, ?_, ?_⟩,
      fun a h1 h2 h3 h4 h5 h6 h7 h8 h9 h10 h11 h12 h13 => ?_, fun a h1 h2 h3 h4 h5 h6 h7 hw => ?_⟩⟩
  · exact running_hostRequest_refused h (r := .allocAbort) (decideAllocAbort_idle (s := s.pump) hj)
  · exact running_hostRequest_refused h (r := .allocate slot w spill) (decideAllocate_range hbad)
  · exact running_hostRequest_refused h (r := .allocate slot w spill)
      (decideAllocate_notFound (s := s.pump) hslot hspill hp)
  · rw [← seatWalkValid_iff] at hw
    exact running_hostRequest_refused h (r := .allocate slot w spill)
      (decideAllocate_format (s := s.pump) hslot hspill hp hw)
  · exact running_hostRequest_refused h (r := .allocate slot w spill)
      (decideAllocate_state (s := s.pump) hslot hspill hp hw hj hst)
  · refine ⟨_, running_hostRequest_ok h (r := .allocate slot w spill) (by simp)
      (decideAllocate_taken (s := s.pump) hslot hspill hp hw hj hst), fun ha => State.checkPass_new_access ha,
      fun ha hg => ?_, fun ha hg => ?_⟩
    · have hwait : s.pump.waitingList slot true = [] := ha
      rw [hwait]
      exact State.checkPass_new_general hg
    · have hwait : s.pump.waitingList slot true = [] := ha
      rw [hwait]
      exact (State.checkPass_new_done (s := s.pump) hg).trans (hend ..)
  · refine ⟨j.unplaced.1, j.unplaced.2, fun hpass => by simp [Job.unplaced, hpass],
      fun hpass => by simp [Job.unplaced, hpass], ?_⟩
    rw [← hend]
    exact running_hostRequest_ok h (r := .allocAbort) (by simp) (decideAllocAbort_running (s := s.pump) hj)
  · obtain ⟨p, hp⟩ := Option.ne_none_iff_exists'.1 hp
    exact running_hostRequest_refused h (r := .allocate slot w spill)
      (decideAllocate_busy (s := s.pump) hslot hspill hp hw hj)
  · exact running_hostRequest_refused h (r := .move i n) (decideMove_busy (s := s.pump) hj i n)
  · exact running_hostRequest_refused h (r := .unseat i) (decideUnseat_busy (s := s.pump) hj i)
  · exact running_hostRequest_refused h (r := .candRemove i) (decideCandRemove_busy (s := s.pump) hj i)
  · exact exec_candAdd_refused h (decideCandAdd_busy (s := s.pump) hj ..)
  · exact running_hostRequest_refused h (r := .seatDefine n 0 row col cls)
      (decideSeatDefine_busy (s := s.pump) hj ⟨hn, hcls, hrow, hcol⟩)
  · exact running_hostRequest_refused h (r := .seatDefine n 1 0 0 0) (decideSeatRemove_busy (s := s.pump) hj hn)
  · exact running_seatState_refused h (decideSeatState_busy (s := s.pump) hj hn (by decide))
  · exact running_seatState_refused h (decideSeatState_busy (s := s.pump) hj hn (by decide))
  · exact running_seatState_refused h (decideSeatState_busy (s := s.pump) hj hn (by decide))
  · refine running_hostRequest_refused h (r := .hallConfig a) (decideHallConfig_busy (s := s.pump) hj ?_)
    exact hallInRange_iff.2 ⟨h1, h2, h3, h4, h5, h6, h7, h8, h9, h10, h11, h12, h13⟩
  · refine exec_paperDefine_refused h (decidePaperDefine_busy (s := s.pump) hj
      ((paperInRange_iff j.paper a).2 ⟨h1, h2, h3, h4, h5, h6, h7, by omega⟩) fun hbad => ?_)
    rcases hw with hw | ⟨-, hw⟩
    · omega
    · exact hbad.2 hw

end
end

section
/-! PROOF. FORMAT_LOAD: each check of R160 with what it refuses, said of the body as it came (R46, R160, R161). -/

namespace Sys2Proof.Machine

variable {s : State} {slot : Nat} {a : FormatArgs} {p : Paper}

/-! ### Check 1 of R160 (log 49) -/

/-- The ranges of a block walk's start and offsets (R45). -/
def BlockWalkArgs.InRange (w : BlockWalkArgs) : Prop :=
  w.start ≤ 8191 ∧ -8191 ≤ w.o1 ∧ w.o1 ≤ 8191 ∧ -8191 ≤ w.o2 ∧ w.o2 ≤ 8191

theorem blockWalkInRange_iff {w : BlockWalkArgs} : blockWalkInRange w = true ↔ BlockWalkArgs.InRange w := by
  simp only [blockWalkInRange, BlockWalkArgs.InRange, Bool.and_eq_true, decide_eq_true_eq, and_assoc]

theorem formatInRange_iff : formatInRange a = true ↔ a.mask ≠ 0 ∧ 1 ≤ a.subSamples ∧ a.subSamples ≤ 4 ∧ 4 ≤ a.rows ∧
    a.rows ≤ 64 ∧ a.refRow < a.rows ∧ a.faintPolicy ≤ 1 ∧ a.multiPolicy ≤ 1 ∧ a.sectionFloor ≤ 1 ∧ a.paperFloor ≤ 0 ∧
    1 ≤ a.blocks.length ∧ a.blocks.length ≤ 5 ∧ BlockWalkArgs.InRange a.idBlock ∧
    ∀ b ∈ a.blocks, 1 ≤ b.first ∧ b.first ≤ 200 ∧ 2 ≤ b.options ∧ b.options ≤ 8 ∧ BlockWalkArgs.InRange b.walk := by
  simp only [formatInRange, blockWalkInRange_iff, Bool.and_eq_true, decide_eq_true_eq, List.all_eq_true, and_assoc]

/-! ### Check 4 of R160: the question counts -/

/-- Check 4 of R160, past check 1 (log 49). -/
theorem formatTaken_walksValid_iff (h : formatInRange a = true) :
    (formatTaken a).walksValid = true ↔ ∀ b ∈ a.blocks, 1 ≤ b.count ∧ b.count ≤ 64 := by
  rw [formatTaken_walksValid h]
  simp

/-! ### Check 5 of R160: the questions -/

/-- An answer block as taken. -/
def answerBlockTaken (b : AnswerBlockArgs) : AnswerBlock :=
  { first := b.first, count := b.count, options := b.options, walk := blockWalkTaken b.walk }

theorem formatTaken_blocks (a : FormatArgs) : (formatTaken a).blocks = a.blocks.map answerBlockTaken := rfl

theorem formatTaken_questions (a : FormatArgs) :
    (formatTaken a).questions = (a.blocks.map AnswerBlockArgs.count).sum := by
  rw [Format.questions, formatTaken_blocks, List.map_map]
  rfl

/-- Blocks that number the questions from `next` on without a gap: each begins behind those before it. -/
theorem contiguous_taken_iff {next : Nat} {bs : List AnswerBlockArgs} :
    contiguous next (bs.map answerBlockTaken) = true ↔
      ∀ k b, bs[k]? = some b → b.first = next + ((bs.take k).map AnswerBlockArgs.count).sum := by
  induction bs generalizing next with
  | nil => simp [contiguous]
  | cons b bs ih =>
    have hstep : contiguous next ((b :: bs).map answerBlockTaken) = true ↔
        b.first = next ∧ contiguous (next + b.count) (bs.map answerBlockTaken) = true := by
      simp [contiguous, answerBlockTaken]
    rw [hstep, ih]
    constructor
    · rintro ⟨hfirst, hrest⟩ (_ | k) c hc
      · simp_all
      · simpa [Nat.add_assoc] using hrest k c hc
    · refine fun h => ⟨by simpa using h 0 b rfl, fun k c hc => ?_⟩
      simpa [Nat.add_assoc] using h (k + 1) c hc

theorem le_first_of_contiguous {next : Nat} {bs : List AnswerBlock} (h : contiguous next bs = true) :
    ∀ b ∈ bs, next ≤ b.first := by
  induction bs generalizing next with
  | nil => simp
  | cons b bs ih =>
    obtain ⟨hfirst, hrest⟩ : b.first = next ∧ contiguous (next + b.count) bs = true := by simpa [contiguous] using h
    intro c hc
    rcases List.mem_cons.1 hc with rfl | hc
    · exact hfirst.ge
    · exact (Nat.le_add_right ..).trans (ih hrest c hc)

/-- Without an empty block, no two blocks begin at one question. -/
theorem nodup_first_of_contiguous {next : Nat} {bs : List AnswerBlock} (h : contiguous next bs = true)
    (hcount : ∀ b ∈ bs, 1 ≤ b.count) : (bs.map AnswerBlock.first).Nodup := by
  induction bs generalizing next with
  | nil => simp
  | cons b bs ih =>
    obtain ⟨hfirst, hrest⟩ : b.first = next ∧ contiguous (next + b.count) bs = true := by simpa [contiguous] using h
    refine List.nodup_cons.2 ⟨fun hmem => ?_, ih hrest fun c hc => hcount c (List.mem_cons_of_mem _ hc)⟩
    obtain ⟨c, hc, heq⟩ := List.mem_map.1 hmem
    have hbehind := le_first_of_contiguous hrest c hc
    have hb := hcount b List.mem_cons_self
    omega

/-- Blocks in rising order that number the questions without a gap are the format's blocks in ascending order. -/
theorem Format.ascending_eq_of_contiguous {f : Format} {bs : List AnswerBlock} (hperm : bs.Perm f.blocks)
    (hrise : bs.Pairwise (fun b c => b.first ≤ c.first)) {next : Nat} (h : contiguous next bs = true)
    (hcount : ∀ b ∈ f.blocks, 1 ≤ b.count) : f.ascending = bs := by
  have hsame : bs.Perm f.ascending := hperm.trans (List.perm_insertionSort ..).symm
  have hnodup := nodup_first_of_contiguous h fun b hb => hcount b (hperm.subset hb)
  refine (hsame.eq_of_pairwise (fun b c hb hc hle hge => ?_) hrise (pairwise_insertionSort_key AnswerBlock.first _)).symm
  exact List.inj_on_of_nodup_map hnodup hb (hsame.symm.subset hc) (Nat.le_antisymm hle hge)

/-- Check 5 of R160, where every block has a question. -/
theorem formatTaken_questionsValid_iff (hcount : ∀ b ∈ a.blocks, 1 ≤ b.count) :
    (formatTaken a).questionsValid = true ↔ (formatTaken a).questions ≤ 200 ∧
      ∃ bs : List AnswerBlockArgs, bs.Perm a.blocks ∧ bs.Pairwise (fun b c => b.first ≤ c.first) ∧
        ∀ k b, bs[k]? = some b → b.first = 1 + ((bs.take k).map AnswerBlockArgs.count).sum := by
  simp only [Format.questionsValid, Bool.and_eq_true, decide_eq_true_eq, and_comm (b := (formatTaken a).questions ≤ 200),
    ← contiguous_taken_iff]
  refine and_congr_right fun _ => ⟨fun h => ?_, fun ⟨bs, hperm, hrise, h⟩ => ?_⟩
  · refine ⟨a.blocks.insertionSort (fun b c => b.first ≤ c.first), List.perm_insertionSort ..,
      pairwise_insertionSort_key AnswerBlockArgs.first _, ?_⟩
    rwa [List.map_insertionSort (fun b c : AnswerBlockArgs => b.first ≤ c.first)
      (fun b c : AnswerBlock => b.first ≤ c.first) answerBlockTaken _ fun b _ c _ => Iff.rfl]
  · rw [Format.ascending_eq_of_contiguous (hperm.map answerBlockTaken) (List.pairwise_map.2 hrise) h]
    · exact h
    · simpa [formatTaken_blocks, answerBlockTaken] using hcount

/-! ### Check 6 of R160: the sheet and the addresses (R46) -/

/-- Along an axis the offsets lie between the lowest and the highest. -/
theorem axis_bounds {count k : Nat} (h : k < count) (step : Int) :
    axisLow count step ≤ k * step ∧ k * step ≤ axisHigh count step := by
  have hk : (k : Int) ≤ (count : Int) - 1 := by omega
  rcases le_total 0 step with hs | hs
  · exact ⟨(min_le_left ..).trans (by positivity), (mul_le_mul_of_nonneg_right hk hs).trans (le_max_right ..)⟩
  · exact ⟨(min_le_right ..).trans (mul_le_mul_of_nonpos_right hk hs),
      (mul_nonpos_of_nonneg_of_nonpos (by positivity) hs).trans (le_max_left ..)⟩

/-- Along an axis the lowest offset is that of an end. -/
theorem exists_axisLow {count : Nat} (h : 1 ≤ count) (step : Int) : ∃ k < count, (k : Int) * step = axisLow count step := by
  rcases min_choice 0 (((count : Int) - 1) * step) with hmin | hmin
  · exact ⟨0, h, by rw [axisLow, hmin]; simp⟩
  · exact ⟨count - 1, by omega, by rw [axisLow, hmin, Nat.cast_sub h, Nat.cast_one]⟩

/-- Along an axis the highest offset is that of an end. -/
theorem exists_axisHigh {count : Nat} (h : 1 ≤ count) (step : Int) :
    ∃ k < count, (k : Int) * step = axisHigh count step := by
  rcases max_choice 0 (((count : Int) - 1) * step) with hmax | hmax
  · exact ⟨0, h, by rw [axisHigh, hmax]; simp⟩
  · exact ⟨count - 1, by omega, by rw [axisHigh, hmax, Nat.cast_sub h, Nat.cast_one]⟩

/-- A block walk stays inside the sheet exactly where each of its addresses does (R46). -/
theorem BlockWalk.fits_iff {w : BlockWalk} {L M H size : Nat} (hL : 1 ≤ L) (hM : 1 ≤ M) (hH : 1 ≤ H) :
    w.fits L M H size = true ↔
      ∀ h m l : Nat, h < H → m < M → l < L → 0 ≤ w.address h m l ∧ w.address h m l < size := by
  simp only [BlockWalk.fits, Bool.and_eq_true, decide_eq_true_eq]
  simp only [BlockWalk.lowest, BlockWalk.highest, BlockWalk.address]
  constructor
  · rintro ⟨hlow, hhigh⟩ h m l hh hm hl
    have hboundH := axis_bounds hh w.o2
    have hboundM := axis_bounds hm w.o1
    have hboundL := axis_bounds hl 1
    omega
  · intro hall
    obtain ⟨hlo, hhlo, eqhlo⟩ := exists_axisLow hH w.o2
    obtain ⟨mlo, hmlo, eqmlo⟩ := exists_axisLow hM w.o1
    obtain ⟨llo, hllo, eqllo⟩ := exists_axisLow hL 1
    obtain ⟨hhi, hhhi, eqhhi⟩ := exists_axisHigh hH w.o2
    obtain ⟨mhi, hmhi, eqmhi⟩ := exists_axisHigh hM w.o1
    obtain ⟨lhi, hlhi, eqlhi⟩ := exists_axisHigh hL 1
    have hlowest := (hall hlo mlo llo hhlo hmlo hllo).1
    have hhighest := (hall hhi mhi lhi hhhi hmhi hlhi).2
    omega

/-- Check 6 of R160, where every block has a question and an option. -/
theorem formatTaken_fits_iff (hsub : 1 ≤ a.subSamples) (hblocks : ∀ b ∈ a.blocks, 1 ≤ b.options ∧ 1 ≤ b.count) :
    (formatTaken a).fits = true ↔ (formatTaken a).sheetSize ≤ 8192 ∧
      ∀ (w : BlockWalkArgs) (countM countH : Nat), (w = a.idBlock ∧ countM = 10 ∧ countH = 6 ∨
          ∃ b ∈ a.blocks, w = b.walk ∧ countM = b.options ∧ countH = b.count) →
        ∀ h m l : Nat, h < countH → m < countM → l < a.subSamples →
          0 ≤ (blockWalkTaken w).address h m l ∧ (blockWalkTaken w).address h m l < (formatTaken a).sheetSize := by
  simp only [Format.fits, Bool.and_eq_true, decide_eq_true_eq, Format.walks, List.all_cons, List.all_map,
    formatTaken_blocks, List.all_eq_true, Function.comp]
  refine and_congr_right fun _ => ⟨fun ⟨hid, hanswer⟩ => ?_, fun hall => ⟨?_, fun b hb => ?_⟩⟩
  · rintro w countM countH (⟨rfl, rfl, rfl⟩ | ⟨b, hb, rfl, rfl, rfl⟩)
    · exact (BlockWalk.fits_iff (M := 10) (H := 6) hsub (by decide) (by decide)).1 hid
    · exact (BlockWalk.fits_iff hsub (hblocks b hb).1 (hblocks b hb).2).1 (hanswer b hb)
  · exact (BlockWalk.fits_iff (M := 10) (H := 6) hsub (by decide) (by decide)).2 (hall a.idBlock 10 6 (.inl ⟨rfl, rfl, rfl⟩))
  · exact (BlockWalk.fits_iff hsub (hblocks b hb).1 (hblocks b hb).2).2
      (hall b.walk b.options b.count (.inr ⟨b, hb, rfl, rfl, rfl⟩))

/-! ### The checks, in order -/

theorem decideFormatLoad_range (h : ¬ (slot < 8 ∧ formatInRange a = true)) :
    decideFormatLoad slot a s = refuse .range s := if_pos h

section
variable (h : slot < 8 ∧ formatInRange a = true)
include h

theorem decideFormatLoad_notFound (hp : s.paper slot = none) : decideFormatLoad slot a s = refuse .notFound s := by
  refine (if_neg (not_not.2 h)).trans ?_
  rw [hp]

variable (hp : s.paper slot = some p)
include hp

/-- Past check 2 the decision goes by the format, then by the paper. -/
theorem decideFormatLoad_defined : decideFormatLoad slot a s =
    if (formatTaken a).tBlank < (formatTaken a).tMark ∧ (formatTaken a).walksValid ∧
        (formatTaken a).questionsValid ∧ (formatTaken a).fits then
      if (p.marking = .notReady ∨ p.marking = .ready) ∧ s.anyMarked slot = false then
        (s.modPaper slot (Paper.loadFormat (formatTaken a)), .ok (formatTaken a).report)
      else refuse .state s
    else refuse .format s := by
  refine (if_neg (not_not.2 h)).trans ?_
  rw [hp]
  dsimp only
  split_ifs <;> simp_all

end

theorem State.anyMarked_eq_false_iff :
    s.anyMarked slot = false ↔ ∀ e ∈ s.cands, e.2.paper = slot → e.2.state ≠ .marked := by
  simp [State.anyMarked, List.any_eq_false]

end Sys2Proof.Machine
end

section
/-! PROOF. KEY_LOAD: each check of R164 with what it refuses, and the key as taken (R159, R163 to R165). -/

namespace Sys2Proof.Machine

variable {s : State} {slot first : Nat} {entries : List KeyEntryArgs} {p : Paper} {f : Format}

/-! ### Key sets (R163, R164 check 4) -/

/-- The option count of a question is that of the one block that holds it. -/
theorem Format.optionsOf_eq {b : AnswerBlock} {q : Nat} (hb : b ∈ f.blocks) (hlow : b.first ≤ q)
    (hhigh : q < b.first + b.count) (hone : ∀ c ∈ f.blocks, c.first ≤ q → q < c.first + c.count → c = b) :
    f.optionsOf q = b.options := by
  obtain ⟨c, hc⟩ := Option.isSome_iff_exists.1 (List.find?_isSome
    (p := fun c : AnswerBlock => Decidable.decide (c.first ≤ q) && Decidable.decide (q < c.first + c.count)).2
    ⟨b, hb, by simp [hlow, hhigh]⟩)
  have hholds : c.first ≤ q ∧ q < c.first + c.count := by simpa using List.find?_some hc
  rw [Format.optionsOf, hc, hone c (List.mem_of_find?_eq_some hc) hholds.1 hholds.2]
  rfl

theorem keySetsFit_iff {q : Nat} {es : List KeyEntryArgs} :
    keySetsFit f q es = true ↔ ∀ k e, es[k]? = some e → e.keySet.toNat < 2 ^ f.optionsOf (q + k) := by
  induction es generalizing q with
  | nil => simp [keySetsFit]
  | cons e es ih =>
    rw [keySetsFit, Bool.and_eq_true, decide_eq_true_eq, ih]
    constructor
    · rintro ⟨he, hrest⟩ (_ | k) c hc
      · simp_all
      · simpa [Nat.add_assoc, Nat.add_comm 1] using hrest k c hc
    · refine fun h => ⟨by simpa using h 0 e rfl, fun k c hc => ?_⟩
      simpa [Nat.add_assoc, Nat.add_comm 1] using h (k + 1) c hc

/-! ### The marker at work for the paper (R164 check 5) -/

theorem State.markerBusy_iff : s.markerBusy slot = true ↔
    (∃ j, s.marker = .marking j ∧ s.reader.bound = some slot) ∨ ∃ n m, s.marker = .rescoring slot n m := by
  unfold State.markerBusy
  cases s.marker <;> simp

/-- An idle marker and one at work for another paper leave the key free. -/
theorem State.not_markerBusy (h : s.marker = .idle ∨ (∃ j, s.marker = .marking j ∧ s.reader.bound ≠ some slot) ∨
    (∃ q n m, s.marker = .rescoring q n m ∧ q ≠ slot)) : ¬ s.markerBusy slot = true := by
  rcases h with hm | ⟨j, hm, hne⟩ | ⟨q, n, m, hm, hne⟩
  · simp [State.markerBusy, hm]
  · simp [State.markerBusy, hm, hne]
  · simp [State.markerBusy, hm, hne]

/-! ### The key as taken (R163, R165) -/

@[simp] theorem length_writeKey {key : List (Option KeyEntry)} {es : List KeyEntry} :
    (writeKey key first es).length = key.length := by
  induction es generalizing key first with
  | nil => rfl
  | cons e es ih => rw [writeKey, ih, List.length_set]

/-- A KEY_LOAD leaves the entries of the other questions. -/
theorem getElem?_writeKey_other {key : List (Option KeyEntry)} {es : List KeyEntry} {q : Nat} (hfirst : 1 ≤ first)
    (hq : q < first - 1 ∨ first - 1 + es.length ≤ q) : (writeKey key first es)[q]? = key[q]? := by
  induction es generalizing key first with
  | nil => rfl
  | cons e es ih =>
    rw [List.length_cons] at hq
    rw [writeKey, ih (Nat.le_add_left ..) (by omega), List.getElem?_set_ne (by omega)]

/-- A KEY_LOAD writes its entries from the first question on. -/
theorem getElem?_writeKey_written {key : List (Option KeyEntry)} {es : List KeyEntry} {k : Nat} {e : KeyEntry}
    (hfirst : 1 ≤ first) (hlen : first - 1 + es.length ≤ key.length) (hk : es[k]? = some e) :
    (writeKey key first es)[first - 1 + k]? = some (some e) := by
  induction es generalizing key first k with
  | nil => simp at hk
  | cons d es ih =>
    rw [List.length_cons] at hlen
    rw [writeKey]
    cases k with
    | zero =>
      obtain rfl : d = e := by simpa using hk
      rw [Nat.add_zero (first - 1), getElem?_writeKey_other (Nat.le_add_left ..) (by omega), List.getElem?_set_self (by omega)]
    | succ k =>
      rw [show first - 1 + (k + 1) = first + 1 - 1 + k by omega]
      exact ih (Nat.le_add_left ..) (by rw [List.length_set]; omega) (by simpa using hk)

/-- The paper after a taken KEY_LOAD: NOT_READY becomes READY where every entry is written (R159, R165). -/
theorem Paper.loadKey_eq (hf : p.format = some f) (es : List KeyEntry) : p.loadKey first es = { p with
    key := writeKey p.key first es, generation := if p.generation = 65535 then 1 else p.generation + 1
    marking := if p.marking = .notReady ∧ (∀ e ∈ writeKey p.key first es, e ≠ none) then .ready else p.marking } := by
  have hcomplete : ({ p with key := writeKey p.key first es, generation := nextGeneration p.generation } :
      Paper).keyComplete = true ↔ ∀ e ∈ writeKey p.key first es, e ≠ none := by
    simp [Paper.keyComplete, hf, Option.isSome_iff_ne_none]
  refine (if_congr ((and_congr_left' hcomplete).trans and_comm) rfl rfl).trans ?_
  by_cases hready : p.marking = .notReady ∧ ∀ e ∈ writeKey p.key first es, e ≠ none
  · rw [if_pos hready, if_pos hready]
    rfl
  · rw [if_neg hready, if_neg hready]
    rfl

/-- A change of a defined paper writes the record that the change gives. -/
theorem State.modPaper_eq_const {n : Nat} (hw : Table.wf n s.papers = true) (hp : s.paper slot = some p)
    (g : Paper → Paper) : s.modPaper slot g = s.modPaper slot (fun _ => g p) := by
  have hsame : ∀ q, Table.get s.papers slot = some q → g q = g p := fun q hq =>
    congrArg g (Option.some.inj (hq.symm.trans hp))
  rw [State.modPaper, Table.modify_congr hw hsame, State.modPaper]

theorem listOf_map {α β : Type} (enc : β → List Byte) (g : α → β) (xs : List α) :
    listOf enc (xs.map g) = listOf (fun x => enc (g x)) xs := by
  rw [listOf, listOf, List.length_map, List.flatMap_map]

/-! ### The checks, in order -/

/-- The slot, the questions and the sections that check 1 of R164 takes. -/
def KeyLoadInRange (slot first : Nat) (entries : List KeyEntryArgs) : Prop :=
  slot < 8 ∧ 1 ≤ first ∧ first ≤ 200 ∧ 1 ≤ entries.length ∧ entries.length ≤ 50 ∧ ∀ e ∈ entries, e.sect ≤ 7

theorem keyLoadInRange_iff : KeyLoadInRange slot first entries ↔
    slot < Config.slotCount ∧ 1 ≤ first ∧ first ≤ 200 ∧ 1 ≤ entries.length ∧ entries.length ≤ 50 ∧
      entries.all (fun e => Decidable.decide (e.sect ≤ 7)) = true := by
  simp only [KeyLoadInRange, Config.slotCount, List.all_eq_true, decide_eq_true_eq]

/-- What check 4 of R164 takes: questions of the format, and options that their blocks have. -/
def Format.Names (f : Format) (first : Nat) (entries : List KeyEntryArgs) : Prop :=
  first + entries.length - 1 ≤ f.questions ∧
    ∀ k e, entries[k]? = some e → e.keySet.toNat < 2 ^ f.optionsOf (first + k)

theorem Format.names_iff :
    f.Names first entries ↔ first + entries.length - 1 ≤ f.questions ∧ keySetsFit f first entries = true :=
  and_congr_right' keySetsFit_iff.symm

theorem decideKeyLoad_range (h : ¬ KeyLoadInRange slot first entries) :
    decideKeyLoad slot first entries s = refuse .range s := if_pos (keyLoadInRange_iff.not.1 h)

section
variable (h : KeyLoadInRange slot first entries)
include h

theorem decideKeyLoad_notFound (hp : s.paper slot = none) :
    decideKeyLoad slot first entries s = refuse .notFound s := by
  refine (if_neg (not_not.2 (keyLoadInRange_iff.1 h))).trans ?_
  rw [hp]

variable (hp : s.paper slot = some p)
include hp

theorem decideKeyLoad_state (hf : p.format = none) : decideKeyLoad slot first entries s = refuse .state s := by
  refine (if_neg (not_not.2 (keyLoadInRange_iff.1 h))).trans ?_
  simp only [hp, hf]

variable (hf : p.format = some f)
include hf

theorem decideKeyLoad_unnamed (hn : ¬ f.Names first entries) :
    decideKeyLoad slot first entries s = refuse .range s := by
  refine (if_neg (not_not.2 (keyLoadInRange_iff.1 h))).trans ?_
  simp only [hp, hf]
  exact if_pos (Format.names_iff.not.1 hn)

variable (hn : f.Names first entries)
include hn

theorem decideKeyLoad_busy (hb : s.markerBusy slot = true) :
    decideKeyLoad slot first entries s = refuse .busy s := by
  refine (if_neg (not_not.2 (keyLoadInRange_iff.1 h))).trans ?_
  simp only [hp, hf]
  exact (if_neg (not_not.2 (Format.names_iff.1 hn))).trans (if_pos hb)

theorem decideKeyLoad_taken (hb : ¬ s.markerBusy slot = true) {es : List KeyEntry} (hes : entries.map keyEntryTaken = es)
    {q : Paper} (hq : p.loadKey first es = q) : decideKeyLoad slot first entries s =
      (s.modPaper slot (Paper.loadKey first es),
        .ok (listOf KeyEntry.bytes es ++ u16 q.generation ++ u8 q.unwritten ++ u8 q.marking.code)) := by
  refine (if_neg (not_not.2 (keyLoadInRange_iff.1 h))).trans ?_
  simp only [hp, hf]
  rw [hes, hq]
  exact (if_neg (not_not.2 (Format.names_iff.1 hn))).trans (if_neg hb)

end

end Sys2Proof.Machine

section
open Sys2Proof Sys2Proof.Machine

/-- Settles O58: the checks of R160 and of R164 in their order, and what is taken past them. -/
theorem formatsAndKeysAreLoaded : Obligations.FormatsAndKeysAreLoaded := by
  refine ⟨fun tag slot a s h walk inRange hwalk hin => ?_, fun f b q => Format.optionsOf_eq,
    fun tag slot first entries s h inRange refused hin hrefused => ?_,
    fun tag slot a f p s h hslot hp h1 h2 h3 h4 h5 h6 h7 h8 h9 h10 h11 h12 hblocks hwalks hf thresholds counts tiles fits
      free hthresholds hcounts htiles hfits hfree => ?_,
    fun tag slot first entries p f s h hb hslot hp hf hlen h1 h2 h3 h4 h5 h6 h7 hmarker => ?_⟩
  · have hiff : inRange ↔ slot < 8 ∧ formatInRange a = true := by
      subst hwalk hin
      exact and_congr_right' formatInRange_iff.symm
    rw [hiff]
    exact ⟨fun hr => running_hostRequest_refused h (r := .formatLoad slot a) (decideFormatLoad_range hr),
      fun hr hp => running_hostRequest_refused h (r := .formatLoad slot a)
        (decideFormatLoad_notFound (s := s.pump) hr hp)⟩
  · subst hin hrefused
    refine ⟨fun hr => ?_, fun hr hp => ?_, fun p hr hp => ⟨fun hf => ?_, fun f named hf hnamed => ?_⟩⟩
    · exact running_hostRequest_refused h (r := .keyLoad slot first entries) (decideKeyLoad_range hr)
    · exact running_hostRequest_refused h (r := .keyLoad slot first entries)
        (decideKeyLoad_notFound (s := s.pump) hr hp)
    · exact running_hostRequest_refused h (r := .keyLoad slot first entries)
        (decideKeyLoad_state (s := s.pump) hr hp hf)
    · subst hnamed
      exact ⟨fun hn => running_hostRequest_refused h (r := .keyLoad slot first entries)
          (decideKeyLoad_unnamed (s := s.pump) hr hp hf hn),
        fun hn hbusy => running_hostRequest_refused h (r := .keyLoad slot first entries)
          (decideKeyLoad_busy (s := s.pump) hr hp hf hn (State.markerBusy_iff.2 hbusy))⟩
  · obtain rfl : f = formatTaken a := hf
    have hin : slot < 8 ∧ formatInRange a = true := by
      refine ⟨hslot, formatInRange_iff.2 ⟨h1, h2, h3, h4, h5, h6, h7, h8, h9, h10, h11, h12, hwalks _ (.inl rfl),
        fun b hmem => ?_⟩⟩
      obtain ⟨hb1, hb2, hb3, hb4⟩ := hblocks b hmem
      exact ⟨hb1, hb2, hb3, hb4, hwalks _ (.inr ⟨b, hmem, rfl⟩)⟩
    have hd := decideFormatLoad_defined (s := s.pump) hin hp
    have hcheck4 : counts ↔ (formatTaken a).walksValid = true := by
      rw [hcounts, formatTaken_walksValid_iff hin.2]
    have hcheck5 : counts → (tiles ↔ (formatTaken a).questionsValid = true) := by
      intro hc
      rw [hcounts] at hc
      rw [htiles, formatTaken_questionsValid_iff fun b hmem => (hc b hmem).1]
      exact and_iff_right (formatTaken_questions a)
    have hcheck6 : counts → (fits ↔ (formatTaken a).fits = true) := by
      intro hc
      rw [hcounts] at hc
      rw [hfits, formatTaken_fits_iff h2 fun b hmem => ⟨by have := hblocks b hmem; omega, (hc b hmem).1⟩]
      rfl
    have hcheck7 : free ↔ (p.marking = .notReady ∨ p.marking = .ready) ∧ s.pump.anyMarked slot = false := by
      rw [hfree, State.anyMarked_eq_false_iff]
      rfl
    subst hthresholds
    refine ⟨fun ht hc hti hfi hfr => ?_, fun hbad => ?_, fun ht hc hti hfi hfr => ?_⟩
    · replace hd := hd.trans ((if_pos ⟨ht, hcheck4.1 hc, (hcheck5 hc).1 hti, (hcheck6 hc).1 hfi⟩).trans
        (if_pos (hcheck7.1 hfr)))
      rw [Format.report_eq] at hd
      exact running_hostRequest_ok h (r := .formatLoad slot a) (by simp) hd
    · refine running_hostRequest_refused h (r := .formatLoad slot a) (hd.trans (if_neg ?_))
      rintro ⟨ht, hvalid, hquestions, hfit⟩
      have hc := hcheck4.2 hvalid
      rcases hbad with hno | hno | hno | hno
      · exact hno ht
      · exact hno hc
      · exact hno ((hcheck5 hc).2 hquestions)
      · exact hno ((hcheck6 hc).2 hfit)
    · exact running_hostRequest_refused h (r := .formatLoad slot a)
        (hd.trans ((if_pos ⟨ht, hcheck4.1 hc, (hcheck5 hc).1 hti, (hcheck6 hc).1 hfi⟩).trans
          (if_neg (hcheck7.not.1 hfr))))
  · have hd := decideKeyLoad_taken (s := s.pump) ⟨hslot, h1, h2, h3, h4, h5⟩ hp hf ⟨h6, h7⟩
      (State.not_markerBusy hmarker) rfl (Paper.loadKey_eq hf _)
    rw [State.modPaper_eq_const (s := s.pump) hb.papers hp, Paper.loadKey_eq hf, listOf_map, MarkState.code_eq] at hd
    refine ⟨_, _, length_writeKey, fun k e he => ?_, fun q hq => ?_, rfl,
      running_hostRequest_ok h (r := .keyLoad slot first entries) (by simp) hd⟩
    · refine getElem?_writeKey_written h1 ?_ ?_
      · rw [List.length_map]
        omega
      · rw [List.getElem?_map, he]
        rfl
    · refine getElem?_writeKey_other h1 ?_
      rwa [List.length_map]

end
end

section
/-! PROOF. MOVE and UNSEAT: each check with what it refuses, and what it leaves (R61 to R65, R113, log 20, log 50). -/

namespace Sys2Proof.Machine

variable {s : State}

/-! ### MOVE (R61 to R63) -/

theorem CandState.movable_eq_true_iff {x : CandState} : x.movable = true ↔
    x = .seated ∨ x = .reading ∨ x = .writing ∨ x = .resting ∨ x = .finished := by
  cases x <;> simp [CandState.movable]

theorem CandState.movable_eq_false_iff {x : CandState} : x.movable = false ↔
    x = .unseated ∨ x = .absent ∨ x = .collected ∨ x = .missing ∨ x = .markPending ∨ x = .marked := by
  cases x <;> simp [CandState.movable]

section
variable {i n : Nat} (hj : s.job = none)
include hj

theorem decideMove_range (h : 512 ≤ i ∨ 512 ≤ n) : decideMove i n s = refuse .range s :=
  (if_neg (by simp [hj])).trans (if_pos fun hin => by
    obtain ⟨hi, hn⟩ : i < 512 ∧ n < 512 := hin
    omega)

variable (hi : i < 512) (hn : n < 512)
include hi hn

theorem decideMove_notFound (h : s.cand i = none ∨ s.seat n = none) : decideMove i n s = refuse .notFound s := by
  cases hc : s.cand i with
  | none => simp [decideMove, hj, hi, hn, hc]
  | some c => simp [decideMove, hj, hi, hn, hc, h.resolve_left (by simp [hc])]

variable {c : Cand} {x : Seat} (hc : s.cand i = some c) (hx : s.seat n = some x)
include hc hx

/-- Check 5 of R61: a candidate without a seat or a paper is refused as one in a state that MOVE does not take. -/
theorem decideMove_state (h : c.state.movable = false ∨ ∃ p, s.paper c.paper = some p ∧ p.coll.state = .walking) :
    decideMove i n s = refuse .state s := by
  simp only [decideMove, hj, hi, hn, hc, hx, Option.isSome_none, Bool.false_eq_true, if_false, not_true, and_self]
  split
  next p old hp hseat =>
    refine if_pos fun ⟨hmovable, hwalk⟩ => ?_
    rcases h with h | ⟨q, hq, hwalking⟩
    · simp [h] at hmovable
    · rw [hp, Option.some.injEq] at hq
      exact hwalk (hq ▸ hwalking)
  next => rfl

variable {p : Paper} {old : Nat} (hp : s.paper c.paper = some p) (hseat : c.seat = some old)
  (hmovable : c.state.movable = true) (hwalk : p.coll.state ≠ .walking)
include hp hseat hmovable hwalk

theorem decideMove_held (h : n = old) : decideMove i n s = (s, .ok (u16 old ++ u16 n)) := by
  subst h
  simp [decideMove, hj, hi, hn, hc, hx, hp, hseat, hmovable, hwalk]

theorem decideMove_target (h : n ≠ old) : decideMove i n s =
    (s.targetFailure n c.paper p.defn.separation c.needsAccess (some old)).elim
      (((s.moveCand i old n).dropCall old).traceOne i c (.request 0x1A), .ok (u16 old ++ u16 n))
      (fun f => refuseWith f.1 f.2.code f.2.value s) := by
  simp only [decideMove, hj, hi, hn, hc, hx, hp, hseat, hmovable, hwalk, h.symm, Option.isSome_none, Bool.false_eq_true,
    if_false, not_true, and_self, ne_eq, not_false_eq_true]
  cases s.targetFailure n c.paper p.defn.separation c.needsAccess (some old) <;> rfl

end

/-! ### UNSEAT (R65) -/

section
variable {i : Nat} (hj : s.job = none)
include hj

theorem decideUnseat_range (hi : 512 ≤ i) : decideUnseat i s = refuse .range s :=
  (if_neg (by simp [hj])).trans (if_pos (Nat.not_lt.2 hi))

variable (hi : i < 512)
include hi

theorem decideUnseat_notFound (hc : s.cand i = none) : decideUnseat i s = refuse .notFound s := by
  simp [decideUnseat, hj, hi, hc]

variable {c : Cand} (hc : s.cand i = some c)
include hc

theorem decideUnseat_unheld (hseat : c.seat = none) : decideUnseat i s = refuse .state s := by
  simp [decideUnseat, hj, hi, hc, hseat]

theorem decideUnseat_held {old : Nat} (hseat : c.seat = some old) : decideUnseat i s =
    if c.state = .seated then
      ((((s.modSeat old (fun x => { x with occupant := none })).modCand i Cand.unseat).dropCall old).traceOne i c
        (.request 0x1B), .ok (u16 old))
    else refuse .state s := by
  simp [decideUnseat, hj, hi, hc, hseat]

end

end Sys2Proof.Machine

section
open Sys2Proof Sys2Proof.Machine

/-- Settles O40: MOVE by its checks, at the seat held and by the target test; UNSEAT by its checks and by the candidate's
state. -/
theorem moveAndUnseatChangeSeats : Obligations.MoveAndUnseatChangeSeats := by
  refine ⟨fun tag i n s h hj => ⟨fun hr => ?_, fun hi hn hno => ?_, fun c x hi hn hc hx hbad => ?_, fun hi => ?_,
      fun hi hc => ?_, fun c hi hc hseat => ?_⟩,
    fun tag i n old c x p s h hj hi hn hc hx hp hseat hst hwalk => ?_, ?_⟩
  · exact running_hostRequest_refused h (r := .move i n) (decideMove_range (s := s.pump) hj hr)
  · exact running_hostRequest_refused h (r := .move i n) (decideMove_notFound (s := s.pump) hj hi hn hno)
  · rw [← CandState.movable_eq_false_iff] at hbad
    exact running_hostRequest_refused h (r := .move i n) (decideMove_state (s := s.pump) hj hi hn hc hx hbad)
  · exact running_hostRequest_refused h (r := .unseat i) (decideUnseat_range (s := s.pump) hj hi)
  · exact running_hostRequest_refused h (r := .unseat i) (decideUnseat_notFound (s := s.pump) hj hi hc)
  · exact running_hostRequest_refused h (r := .unseat i) (decideUnseat_unheld (s := s.pump) hj hi hc hseat)
  · have hmovable := CandState.movable_eq_true_iff.2 hst
    refine ⟨fun heq => running_hostRequest_ok h (r := .move i n) (by simp)
      (decideMove_held (s := s.pump) hj hi hn hc hx hp hseat hmovable hwalk heq), ?_⟩
    rintro hne u rfl
    have hd := decideMove_target (s := s.pump) hj hi hn hc hx hp hseat hmovable hwalk hne
    rw [State.pump_targetFailure] at hd
    -- The state written out in the statement is `moveCand` and `dropCall` unfolded, the old seat's call read from `s`.
    cases hfail : s.targetFailure n c.paper p.defn.separation c.needsAccess (some old) with
    | none => exact running_hostRequest_ok h (r := .move i n) (by simp) (hd.trans (by rw [hfail]; rfl))
    | some f => exact running_hostRequest_refused h (r := .move i n) (hd.trans (by rw [hfail]; rfl))
  · rintro tag i old c s h hj hi hc hseat u rfl
    have hd := decideUnseat_held (s := s.pump) hj hi hc hseat
    split
    next hst => exact running_hostRequest_ok h (r := .unseat i) (by simp) (hd.trans (if_pos hst))
    next hst => exact running_hostRequest_refused h (r := .unseat i) (hd.trans (if_neg hst))

end
end

section
/-! PROOF. The step, and holds: HOLD, the HOLD line, RESUME, the scheduled starts that are due, and the second event of a held
hall (R67, R72, R92 to R95). -/

namespace Sys2Proof.Machine

variable {s t : State}

/-! ### Holds (R92 to R95) -/

theorem decideHold_free (h : s.hold = none) :
    decideHold s = (s.beginHold .request, .ok (u8 HoldCause.request.code ++ u16 0)) := by
  simp only [decideHold, h]

theorem decideHold_held {cause : HoldCause} (h : s.hold = some cause) :
    decideHold s = (s, .ok (u8 cause.code ++ u16 s.holdElapsed)) := by
  simp only [decideHold, h]

theorem decideResume_free (h : s.hold = none) : decideResume s = refuse .state s := by
  simp only [decideResume, h]

theorem decideResume_line {cause : HoldCause} (h : s.hold = some cause) (hl : s.holdLine = true) :
    decideResume s = refuseWith .state 5 0 s := by
  simp only [decideResume, h, hl, if_true]

theorem decideResume_taken {cause : HoldCause} (h : s.hold = some cause) (hl : s.holdLine = false) :
    decideResume s = (({ s with hold := none }.post 0 (.holdEnd cause s.holdElapsed)).runScheduled,
      .ok (u16 s.holdElapsed)) := by
  simp [decideResume, h, hl]

/-- A new assertion of the HOLD line raises a hold at a hall that is not held (R93). -/
theorem State.holdAsserted_raises (hl : s.holdLine = false) (h : s.hold = none) :
    s.holdAsserted = { s with holdLine := true, hold := some .line, holdElapsed := 0 }.post 0 (.holdBegin .line) := by
  simp [State.holdAsserted, hl, h, State.beginHold]

/-- At a held hall, and where the line is asserted already, only the line is asserted after it (R93, log 30). -/
theorem State.holdAsserted_stands (h : s.holdLine = true ∨ s.hold ≠ none) :
    s.holdAsserted = { s with holdLine := true } := by
  by_cases hl : s.holdLine = true
  · exact (if_pos hl).trans (by rw [← hl])
  · simp [State.holdAsserted, hl, h.resolve_left hl]

/-! ### Scheduled starts (R72) -/

/-- A slot's scheduled start is due: the conditions of R72 (log 52). -/
def State.StartDue (s : State) (slot : Nat) : Prop :=
  ∃ p at_, s.paper slot = some p ∧ p.state = .planned ∧ p.defn.start = some at_ ∧ at_ ≤ s.hallTime ∧ s.hold = none ∧
    ∀ j, s.job = some j → j.paper ≠ slot

theorem State.allocating_iff {slot : Nat} : s.allocating slot = true ↔ ∃ j, s.job = some j ∧ j.paper = slot := by
  cases h : s.job <;> simp [State.allocating, h]

theorem State.startDue_iff_conditions {slot : Nat} : s.startDue slot = true ↔ s.StartDue slot := by
  have hjob : s.allocating slot = false ↔ ∀ j, s.job = some j → j.paper ≠ slot := by
    rw [← Bool.not_eq_true, State.allocating_iff]
    push Not
    rfl
  rw [State.startDue_iff, hjob]
  cases hp : s.paper slot with
  | none => simp [State.StartDue, hp]
  | some p => cases hs : p.defn.start <;> simp [State.StartDue, hp, hs, and_assoc]

theorem mem_slots {slot : Nat} : slot ∈ slots ↔ slot < 8 := List.mem_range

theorem State.Bounded.slot_lt (h : s.Bounded) {slot : Nat} {p : Paper} (hp : s.paper slot = some p) : slot < 8 :=
  Table.get_lt h.papers hp

theorem State.Bounded.mem_slots (h : s.Bounded) {slot : Nat} {p : Paper} (hp : s.paper slot = some p) : slot ∈ slots :=
  Machine.mem_slots.2 (h.slot_lt hp)

/-- Where no scheduled start is due none is taken, and no notice is posted (R72, R14). -/
theorem State.runScheduled_none {n : Nat} (hw : Table.wf n s.cands = true) (h : ∀ k, ¬ s.StartDue k) :
    s.runScheduled = s := by
  have hf : slots.filter s.startDue = [] :=
    List.filter_eq_nil_iff.2 fun k _ hk => h k (State.startDue_iff_conditions.1 hk)
  rw [State.runScheduled, State.scheduledRecords, hf]
  exact State.traceAllBy_self hw _

/-- The only scheduled start that is due is taken as any start (R71, R72). -/
theorem State.runScheduled_one {slot : Nat} (hb : s.Bounded) (h : s.StartDue slot) (ho : ∀ k, s.StartDue k → k = slot) :
    s.runScheduled = s.startPaper slot .schedule := by
  have hslot : slot ∈ slots := by
    obtain ⟨p, _, hp, _⟩ := h
    exact hb.mem_slots hp
  have hf : slots.filter s.startDue = [slot] := by
    have hcond : ∀ k ∈ slots, s.startDue k = (k == slot) := fun k _ => by
      rw [Bool.eq_iff_iff, State.startDue_iff_conditions, beq_iff_eq]
      exact ⟨ho k, fun e => e ▸ h⟩
    rw [List.filter_congr hcond, List.filter_beq, List.count_eq_one_of_mem (by exact List.nodup_range) hslot]
    rfl
  rw [State.runScheduled, State.scheduledRecords, hf]
  rfl

/-! ### The second event of a held hall (R67, R94) -/

theorem State.secondEvent_held {cause : HoldCause} (h : s.hold = some cause) :
    s.secondEvent = { s with hallTime := nextTime s.hallTime }.heldSecond cause := by
  simp only [State.secondEvent, h]

theorem State.heldSecond_goesOn (cause : HoldCause) (h : s.hall.holdLimit = 0 ∨ min (s.holdElapsed + 1) 7200 < s.hall.holdLimit) :
    s.heldSecond cause = { s with holdElapsed := min (s.holdElapsed + 1) 7200 } :=
  if_neg fun ⟨hpos, hle⟩ => by
    have hle' : s.hall.holdLimit ≤ min (s.holdElapsed + 1) 7200 := hle
    omega

end Sys2Proof.Machine

section
open Sys2Proof Sys2Proof.Machine

/-- Settles O1, by the definition of the step. -/
theorem stepTakesFrontCommand : Obligations.StepTakesFrontCommand := fun _ _ _ => ⟨rfl, rfl⟩

/-- Settles O14: the hold does not run out. -/
theorem heldSecondEventCountsTheHold : Obligations.HeldSecondEventCountsTheHold := by
  intro s cause hlow hhold hlimit
  have he : s.pump.secondEvent = { s.pump with
      hallTime := min (s.hallTime + 1) 16777215, holdElapsed := min (s.holdElapsed + 1) 7200 } :=
    (State.secondEvent_held (s := s.pump) hhold).trans
      (State.heldSecond_goesOn (s := { s.pump with hallTime := nextTime s.hallTime }) cause hlimit)
  rw [← he]
  exact running_high _ hlow

/-- Settles O22, by the hall's hold state. -/
theorem holdRaisedByRequest : Obligations.HoldRaisedByRequest := by
  refine fun tag s h => ⟨fun hh => ?_, fun cause hh => ?_⟩
  · exact running_hostRequest_ok h (r := .hold) (by simp) (decideHold_free (s := s.pump) hh)
  · refine (running_hostRequest_ok h (r := .hold) (by simp) (decideHold_held (s := s.pump) hh)).trans ?_
    cases cause <;> rfl

/-- Settles O21: the line by the hall's hold state and its own, RESUME by its checks, and the starts by those that are due. -/
theorem holdLineAndResume : Obligations.HoldLineAndResume := by
  refine ⟨fun s hlow => ⟨fun hl hh => ?_, fun h => ?_, ?_⟩,
    fun tag s h => ⟨fun hh => ?_, fun cause hh hl => ?_, fun cause hh hl => ?_⟩, ?_⟩
  · have e := State.holdAsserted_raises (s := s.pump) hl hh
    exact e ▸ running_high State.holdAsserted hlow
  · refine (running_high State.holdAsserted hlow).trans (congrArg Host.Outcome.next ?_)
    rw [State.holdAsserted_stands (s := s.pump) h]
    exact State.pump_eq_self_of_link (s := s) rfl
  · exact (running_high State.holdReleased hlow).trans
      (congrArg Host.Outcome.next (State.pump_eq_self_of_link (s := s) rfl))
  · exact running_hostRequest_refused h (r := .resume) (decideResume_free (s := s.pump) hh)
  · exact running_hostRequest_refused h (r := .resume) (decideResume_line (s := s.pump) hh hl)
  · have htaken := running_hostRequest_ok h (r := .resume) (tag := tag) (by simp) (decideResume_taken (s := s.pump) hh hl)
    refine ⟨htaken, fun hb hnone => htaken.trans ?_⟩
    have hsame := State.runScheduled_none
      (s := { s.pump with hold := none }.post 0 (.holdEnd cause s.holdElapsed)) hb.cands ?_
    · exact congrArg (fun u => Host.Outcome.next (State.replied u 0x25 tag (u16 s.holdElapsed))) hsame
    · rintro k ⟨p, at_, hp, hplanned, hstart, -⟩
      exact absurd (hstart.symm.trans (hnone k p hp hplanned)) nofun
  · rintro s slot hb due rfl
    exact ⟨State.runScheduled_none hb.cands, State.runScheduled_one hb⟩

end
end

section
/-! PROOF. Starting and abandoning a paper, admission, and finishes: what each leaves, with PAPER_START, PAPER_ABANDON, ADMIT and
FINISH (R70, R71, R76 to R80, R82, R83, R86, R87). -/

namespace Sys2Proof.Machine

variable {s : State} {slot i : Nat} {c : Cand} {p : Paper} {cause : Cause}

/-! ### The candidates of a paper, changed and counted -/

theorem State.mapCands_ite {f g : Cand → Cand} {P : Cand → Prop} [DecidablePred P]
    (h : ∀ d, f d = if P d then g d else d) : s.mapCands slot f =
      { s with cands := s.cands.map (fun e : Nat × Cand => if e.2.paper = slot ∧ P e.2 then (e.1, g e.2) else e) } := by
  refine congrArg (fun l => { s with cands := l }) (List.map_congr_left fun e _ => ?_)
  by_cases hq : e.2.paper = slot <;> by_cases hP : P e.2 <;> simp [h, hq, hP]

theorem State.countCands_eq {test : Cand → Bool} {P : Cand → Prop} [DecidablePred P] (h : ∀ d, test d = true ↔ P d) :
    s.countCands slot test = s.cands.countP (fun e : Nat × Cand => Decidable.decide (e.2.paper = slot ∧ P e.2)) :=
  List.countP_congr fun e _ => by simp [h]

theorem State.countCands_seated_eq : s.countCands slot (fun d => Decidable.decide (d.state = .seated)) =
    s.cands.countP (fun e : Nat × Cand => e.2.paper = slot ∧ e.2.state = CandState.seated) :=
  State.countCands_eq fun _ => decide_eq_true_iff

/-- A change of one record that keeps its paper and does not change a test leaves the number that pass it. -/
theorem State.countCands_changeCand {n : Nat} (hw : Table.wf n s.cands = true) {f : Cand → Cand} {test : Cand → Bool}
    (h : ∀ d, s.cand i = some d → (f d).paper = d.paper ∧ test (f d) = test d) :
    (s.changeCand i f cause).countCands slot test = s.countCands slot test := by
  rw [State.countCands, State.changeCand_cands, State.modCand, Table.modify, List.countP_map]
  refine List.countP_congr fun e he => ?_
  by_cases hi : e.1 = i
  · obtain ⟨hpaper, htest⟩ := h e.2 (hi ▸ Table.get_of_mem hw he)
    simp [hi, hpaper, htest]
  · simp [hi]

/-- With no active candidate counted, no candidate of the paper is active (R77). -/
theorem State.not_active_of_activeCount (h : s.activeCount slot = 0) {j : Nat} {d : Cand} (hd : s.cand j = some d)
    (hq : d.paper = slot) : d.state.active = false := by
  have hall := List.countP_eq_zero.1 h (j, d) (Table.get_mem hd)
  simpa [hq] using hall

theorem State.activeCount_eq_zero {n : Nat} (hw : Table.wf n s.cands = true)
    (h : ∀ j d, s.cand j = some d → d.paper = slot → d.state.active = false) : s.activeCount slot = 0 :=
  List.countP_eq_zero.2 fun e he => by
    have hd := h e.1 e.2 (Table.get_of_mem hw he)
    simpa using hd

/-! ### Starting a paper (R70, R71) -/

theorem Cand.atDesk_iff {d : Cand} : d.atDesk = true ↔ d.state = .seated ∧ d.present = true := by simp [Cand.atDesk]

/-- All that the start of a PLANNED paper does (R71, R77). -/
theorem State.startPaper_eq (hp : s.paper slot = some p) (hst : p.state = .planned) (cause : PaperCause) :
    s.startPaper slot cause = (({ s with
      cands := s.cands.map (fun e : Nat × Cand =>
        if e.2.paper = slot ∧ e.2.state = CandState.seated ∧ e.2.present = true then
          (e.1, { e.2 with state := (if 0 < p.defn.reading then .reading else .writing), used := 0 })
        else e) }.modPaper slot (fun q => { q with
          state := (if 0 < q.defn.reading then .reading else .writing), readingLeft := q.defn.reading, elapsed := 0,
          coll := { q.coll with admitted := (q.coll.admitted +
            s.cands.countP (fun e : Nat × Cand => e.2.paper = slot ∧ e.2.state = CandState.seated ∧
              e.2.present = true)) } })).postPaperState slot .planned cause).traceAll s.cands .paper := by
  have hmap : s.mapCands slot (Cand.started p.defn.reading) = _ :=
    State.mapCands_ite (P := fun d => d.state = .seated ∧ d.present = true)
      (g := fun d => { d with state := if 0 < p.defn.reading then .reading else .writing, used := 0 })
      fun d => if_congr Cand.atDesk_iff rfl rfl
  simp only [State.startPaper, State.startRecords, hp, hst, hmap, State.countCands_eq fun d => Cand.atDesk_iff]
  rfl

theorem decidePaperStart_range (h : 8 ≤ slot) : decidePaperStart slot s = refuse .range s := if_pos (Nat.not_lt.2 h)

theorem decidePaperStart_notFound (h : slot < 8) (hp : s.paper slot = none) :
    decidePaperStart slot s = refuse .notFound s := by
  simp [decidePaperStart, Config.slotCount, h, hp]

theorem decidePaperStart_defined (h : slot < 8) (hp : s.paper slot = some p) : decidePaperStart slot s =
    if s.allocating slot = true then refuse .busy s
    else if ¬ (p.state = .planned ∧ s.hold = none) then refuse .state s
    else (s.startPaper slot .request, .ok (u8 (p.started 0).state.code ++ u16 (s.countCands slot Cand.atDesk))) := by
  simp only [decidePaperStart, Config.slotCount, h, hp, not_true, if_false]

/-! ### Abandoning a paper (R86, R87) -/

/-- All that the abandonment of a paper by a request does, before the Collection Unit's start (R86). -/
theorem State.abandonPaper_eq (hp : s.paper slot = some p) : s.abandonPaper slot =
    (({ s with
      cands := s.cands.map (fun e : Nat × Cand => if e.2.paper = slot then
        (e.1, if e.2.state = CandState.reading ∨ e.2.state = CandState.writing ∨ e.2.state = CandState.resting then
          { e.2 with
            state := .finished, finish := some ⟨.abandoned, s.hallTime⟩,
            flags := { e.2.flags with away := false }, awayCount := 0, awayReported := false }
        else if e.2.state = CandState.seated then { e.2 with state := .absent } else e.2) else e) }.modPaper slot
      (fun q => { q with
        state := .abandoned,
        coll := { q.coll with absent := (q.coll.absent +
          s.cands.countP (fun e : Nat × Cand => e.2.paper = slot ∧ e.2.state = CandState.seated)) } })).postPaperState slot
      p.state .request).traceAll s.cands .paper := by
  have hcand : ∀ d : Cand, d.abandoned s.hallTime =
      if d.state = CandState.reading ∨ d.state = CandState.writing ∨ d.state = CandState.resting then
        { d with
          state := .finished, finish := some ⟨.abandoned, s.hallTime⟩,
          flags := { d.flags with away := false }, awayCount := 0, awayReported := false }
      else if d.state = CandState.seated then { d with state := .absent } else d :=
    fun d => if_congr (CandState.active_iff _) rfl rfl
  have hmap : s.mapCands slot (Cand.abandoned s.hallTime) = { s with
      cands := s.cands.map (fun e : Nat × Cand => if e.2.paper = slot then (e.1, e.2.abandoned s.hallTime) else e) } :=
    congrArg (fun l => { s with cands := l }) (List.map_congr_left fun e _ => by dsimp only; split <;> rfl)
  simp only [State.abandonPaper, State.abandonRecords, hp, hmap, State.modColl, State.setPaperState,
    State.modPaper_modPaper, State.countCands_seated_eq, hcand]

theorem decidePaperAbandon_range (h : 8 ≤ slot) : decidePaperAbandon slot s = refuse .range s := if_pos (Nat.not_lt.2 h)

theorem decidePaperAbandon_notFound (h : slot < 8) (hp : s.paper slot = none) :
    decidePaperAbandon slot s = refuse .notFound s := by
  simp [decidePaperAbandon, Config.slotCount, h, hp]

theorem decidePaperAbandon_defined (h : slot < 8) (hp : s.paper slot = some p) : decidePaperAbandon slot s =
    if p.state = .reading ∨ p.state = .writing ∨ p.state = .extended then
      ((s.abandonPaper slot).startCollection slot .abandon, .ok (u16 (s.activeCount slot)))
    else refuse .state s := by
  simp only [decidePaperAbandon, Config.slotCount, h, hp, not_true, if_false, PaperState.running_iff, ite_not]

/-! ### Finishing (R76, R82, R83) -/

/-- The records of a close: the SEATED candidates become ABSENT and are counted, and the paper is CLOSED (R76). -/
theorem State.closeRecords_eq (s : State) (slot : Nat) : (s.makeAbsent slot).setPaperState slot .closed =
    { s with
      cands := s.cands.map (fun e : Nat × Cand => if e.2.paper = slot ∧ e.2.state = CandState.seated then
        (e.1, { e.2 with state := .absent }) else e) }.modPaper slot (fun q => { q with
          state := .closed,
          coll := { q.coll with absent := (q.coll.absent +
            s.countCands slot (fun d => Decidable.decide (d.state = CandState.seated))) } }) := by
  have hmap : s.mapCands slot Cand.toAbsent = _ :=
    State.mapCands_ite (P := fun d => d.state = .seated) (g := fun d => { d with state := .absent }) fun d => rfl
  simp only [State.makeAbsent, State.setPaperState, State.modColl, State.modPaper_modPaper, hmap]

/-- A close changes SEATED candidates only (R76). -/
theorem State.closeIfDone_cand (hc : s.cand i = some c) (hs : c.state ≠ .seated) :
    (s.closeIfDone slot cause).cand i = some c := by
  unfold State.closeIfDone
  split
  · have hcands : ((s.closePaper slot).traceAll s.cands cause).cands = (s.mapCands slot Cand.toAbsent).cands := by
      simp [State.closePaper, State.makeAbsent]
    rw [State.cand_congr hcands, State.mapCands_cand, hc]
    simp [Cand.toAbsent, hs]
  · exact hc

section
variable {reason : FinishReason} (hc : s.cand i = some c)
include hc

theorem State.finishCand_of_active (ha : c.state.active = true) : s.finishCand i reason cause =
    (s.changeCand i (Cand.toFinished reason s.hallTime) cause).closeIfDone c.paper cause := by
  simp [State.finishCand, hc, ha]

/-- A finish that is not the last of an EXTENDED paper (R82). -/
theorem State.finishCand_goesOn (ha : c.state.active = true) (hp : s.paper c.paper = some p)
    (h : p.state ≠ .extended ∨ ∃ j d, j ≠ i ∧ s.cand j = some d ∧ d.paper = c.paper ∧ d.state.active = true) :
    s.finishCand i reason cause = s.changeCand i (Cand.toFinished reason s.hallTime) cause := by
  rw [State.finishCand_of_active hc ha, State.closeIfDone, if_neg]
  have hp' : (s.changeCand i (Cand.toFinished reason s.hallTime) cause).paper c.paper = some p :=
    (State.paper_congr (State.changeCand_papers ..) _).trans hp
  simp only [State.lastFinished, hp', Option.any_some, Bool.and_eq_true, decide_eq_true_eq, beq_iff_eq]
  rintro ⟨hext, hzero⟩
  obtain hne | ⟨j, d, hj, hd, hq, hact⟩ := h
  · exact hne hext
  · have hd' : (s.changeCand i (Cand.toFinished reason s.hallTime) cause).cand j = some d := by simp [hj, hd]
    simp [State.not_active_of_activeCount hzero hd' hq] at hact

/-- The last finish of an EXTENDED paper closes it (R76, log 22). -/
theorem State.finishCand_closes (ha : c.state.active = true) (hb : s.Bounded) (hp : s.paper c.paper = some p)
    (hext : p.state = .extended)
    (h : ∀ j d, j ≠ i → s.cand j = some d → d.paper = c.paper → d.state.active = false) {u : State}
    (hu : u = s.changeCand i (Cand.toFinished reason s.hallTime) cause) :
    s.finishCand i reason cause = (({ u with
      cands := u.cands.map (fun e : Nat × Cand => if e.2.paper = c.paper ∧ e.2.state = CandState.seated then
        (e.1, { e.2 with state := .absent }) else e) }.modPaper c.paper (fun q => { q with
          state := .closed,
          coll := { q.coll with absent := (q.coll.absent +
            s.cands.countP (fun e : Nat × Cand => e.2.paper = c.paper ∧ e.2.state = CandState.seated)) } })).postPaperState
      c.paper .extended .lastFinish).traceAll u.cands cause := by
  have hw : Table.wf Config.indexCount u.cands = true := by
    rw [hu, State.changeCand_cands]
    exact Table.wf_modify _ _ hb.cands
  have hzero : u.activeCount c.paper = 0 := State.activeCount_eq_zero hw fun j d hd hq => by
    rw [hu, State.changeCand_cand] at hd
    by_cases hj : j = i
    · obtain rfl : Cand.toFinished reason s.hallTime c = d := by simpa [hj, hc] using hd
      rfl
    · exact h j d hj (by simpa [hj] using hd) hq
  have hlast : u.lastFinished c.paper = true := by
    have hp' : u.paper c.paper = some p := (State.paper_congr (by rw [hu, State.changeCand_papers]) _).trans hp
    simp [State.lastFinished, hp', hext, hzero]
  have hcount : u.countCands c.paper (fun d => Decidable.decide (d.state = .seated)) =
      s.countCands c.paper (fun d => Decidable.decide (d.state = .seated)) := by
    rw [hu]
    refine State.countCands_changeCand hb.cands fun d hd => ⟨rfl, ?_⟩
    obtain rfl : c = d := Option.some.inj (hc.symm.trans hd)
    have hns : c.state ≠ .seated := fun e => by simp [e, CandState.active] at ha
    simp [Cand.toFinished, hns]
  rw [State.finishCand_of_active hc ha, ← hu, State.closeIfDone, if_pos hlast, State.closePaper, State.closeRecords_eq,
    hcount, State.countCands_seated_eq]

/-- A finish writes reason and time (R82). -/
theorem State.finishCand_cand (ha : c.state.active = true) :
    (s.finishCand i reason cause).cand i = some (Cand.toFinished reason s.hallTime c) := by
  rw [State.finishCand_of_active hc ha]
  exact State.closeIfDone_cand (by simp [hc]) nofun

end

theorem decideFinish_range (h : 512 ≤ i) : decideFinish i s = refuse .range s := if_pos (Nat.not_lt.2 h)

theorem decideFinish_notFound (h : i < 512) (hc : s.cand i = none) : decideFinish i s = refuse .notFound s := by
  simp [decideFinish, Config.indexCount, h, hc]

theorem decideFinish_used (h : i < 512) (hc : s.cand i = some c) : decideFinish i s =
    if ¬ c.state.active = true then refuse .state s
    else (s.finishCand i .forced (.request 0x23), .ok (u16 c.used ++ u24 s.hallTime)) := by
  simp only [decideFinish, Config.indexCount, h, hc, not_true, if_false]

/-! ### Admission (R78 to R80) -/

section
variable (hc : s.cand i = some c) (hp : s.paper c.paper = some p)
include hc hp

theorem State.admitCand_none (h : p.state = .planned ∨ p.state = .closed ∨ p.state = .abandoned) :
    s.admitCand i cause = s := by
  rcases h with h | h | h <;> simp [State.admitCand, hc, hp, h]

variable (hs : c.state = .seated)
include hs

theorem State.admitCand_reading (h : p.state = .reading) : s.admitCand i cause =
    (s.countAdmitted c.paper 1).changeCand i (fun d => { d with state := .reading, used := 0 }) cause := by
  simp [State.admitCand, hc, hp, hs, h]

/-- A late admission with time left (R79). -/
theorem State.admitCand_late (h : p.state = .writing ∨ p.state = .extended) (ht : p.elapsed < c.limit) :
    s.admitCand i cause = (s.countAdmitted c.paper 1).changeCand i (Cand.admittedLate p.elapsed) cause := by
  rcases h with h | h <;> simp [State.admitCand, hc, hp, hs, h, Nat.not_le.2 ht]

/-- A late admission whose credited used is the limit finishes at once with TIME (R79, R82, log 21). -/
theorem State.admitCand_ended (h : p.state = .writing ∨ p.state = .extended) (ht : c.limit ≤ p.elapsed) :
    (s.admitCand i cause).cand i = some (Cand.toFinished .time s.hallTime (Cand.admittedLate p.elapsed c)) := by
  have hadmit : s.admitCand i cause =
      ((s.countAdmitted c.paper 1).changeCand i (Cand.admittedLate p.elapsed) cause).finishCand i .time .second := by
    rcases h with h | h <;> simp [State.admitCand, hc, hp, hs, h, ht]
  have hcand : ((s.countAdmitted c.paper 1).changeCand i (Cand.admittedLate p.elapsed) cause).cand i =
      some (Cand.admittedLate p.elapsed c) := by
    have hc' : (s.countAdmitted c.paper 1).cand i = some c := hc
    simp [hc']
  rw [hadmit, State.finishCand_cand hcand rfl]
  simp

end

theorem decideAdmit_range (h : 512 ≤ i) : decideAdmit i s = refuse .range s := if_pos (Nat.not_lt.2 h)

theorem decideAdmit_notFound (h : i < 512) (hc : s.cand i = none) : decideAdmit i s = refuse .notFound s := by
  simp [decideAdmit, Config.indexCount, h, hc]

section
variable (h : i < 512) (hc : s.cand i = some c) (hp : s.paper c.paper = some p)
include h hc hp

theorem decideAdmit_refused (hr : c.state ≠ .seated ∨ p.state.running = false) : decideAdmit i s = refuse .state s := by
  have hn : ¬ (c.state = .seated ∧ s.paperRunning c.paper = true) := by
    rintro ⟨hs, hrun⟩
    simp [State.paperRunning, hp, hr.resolve_left (not_not.2 hs)] at hrun
  simp only [decideAdmit, Config.indexCount, h, hc, hn, not_true, not_false_eq_true, if_false, if_true]

/-- The reply to a taken ADMIT reports the record as it has become (R80). -/
theorem decideAdmit_taken (hs : c.state = .seated) (hr : p.state.running = true) {d : Cand}
    (hd : (s.admitCand i (.request 0x22)).cand i = some d) : decideAdmit i s =
      (s.admitCand i (.request 0x22), .ok (u8 d.state.code ++ u16 d.used ++ flag d.flags.late)) := by
  have ht : c.state = .seated ∧ s.paperRunning c.paper = true := ⟨hs, by simp [State.paperRunning, hp, hr]⟩
  simp only [decideAdmit, Config.indexCount, h, hc, ht, not_true, if_false, and_self, admitAnswer, hd]

end

end Sys2Proof.Machine

section
open Sys2Proof Sys2Proof.Machine

/-- Settles O41, by the checks of R70 in their order and what a start does. -/
theorem paperStartAdmitsThosePresent : Obligations.PaperStartAdmitsThosePresent := by
  rintro started rfl
  refine ⟨fun tag slot s h => ⟨fun hslot => ?_, fun hslot hp => ?_⟩,
    fun s slot p cause hp hst => State.startPaper_eq hp hst cause, fun tag slot p s h hslot hp => ?_⟩
  · exact running_hostRequest_refused h (r := .paperStart slot) (decidePaperStart_range (s := s.pump) hslot)
  · exact running_hostRequest_refused h (r := .paperStart slot) (decidePaperStart_notFound (s := s.pump) hslot hp)
  · have hd := decidePaperStart_defined (s := s.pump) hslot hp
    split
    next hj =>
      exact running_hostRequest_refused h (r := .paperStart slot)
        (hd.trans (if_pos (State.allocating_iff (s := s.pump).2 hj)))
    next hj =>
    have hd := hd.trans (if_neg fun ha => hj (State.allocating_iff (s := s.pump).1 ha))
    split
    next hst =>
      exact running_hostRequest_refused h (r := .paperStart slot)
        (hd.trans (if_pos fun ⟨hplanned, hhold⟩ => hst.elim (· hplanned) (· hhold)))
    next hst =>
      obtain ⟨hplanned, hhold⟩ : p.state = .planned ∧ s.hold = none := by simpa [not_or] using hst
      have hcode : (p.started 0).state.code = if 0 < p.defn.reading then 2 else 3 := apply_ite PaperState.code ..
      rw [if_neg (not_not.2 ⟨hplanned, hhold⟩), State.startPaper_eq (s := s.pump) hp hplanned, hcode,
        State.countCands_eq fun d => Cand.atDesk_iff] at hd
      exact running_hostRequest_ok h (r := .paperStart slot) (by simp) hd

/-- Settles O42, by the checks of R87 and what an abandonment does. -/
theorem paperAbandonFinishesEveryone : Obligations.PaperAbandonFinishesEveryone := by
  refine ⟨fun tag slot s h => ⟨fun hslot => ?_, fun hslot hp => ?_⟩, fun tag slot p s h hslot hp => ?_⟩
  · exact running_hostRequest_refused h (r := .paperAbandon slot) (decidePaperAbandon_range (s := s.pump) hslot)
  · exact running_hostRequest_refused h (r := .paperAbandon slot) (decidePaperAbandon_notFound (s := s.pump) hslot hp)
  · have hd := decidePaperAbandon_defined (s := s.pump) hslot hp
    split
    next hrun =>
      rw [if_pos hrun, State.abandonPaper_eq (s := s.pump) hp, State.activeCount_eq] at hd
      exact running_hostRequest_ok h (r := .paperAbandon slot) (by simp) hd
    next hrun => exact running_hostRequest_refused h (r := .paperAbandon slot) (hd.trans (if_neg hrun))

/-- Settles O43, by the checks of R80 and the paper's state. -/
theorem admitCreditsTheLateCandidate : Obligations.AdmitCreditsTheLateCandidate := by
  refine ⟨fun tag i s h => ⟨fun hi => ?_, fun hi hc => ?_⟩, fun tag i c p s h hi hc hp =>
    ⟨fun hs hr => ?_, fun hs hw ht => ?_, fun hs hw ht => ?_, fun hr => ?_⟩⟩
  · exact running_hostRequest_refused h (r := .admitCand i) (decideAdmit_range (s := s.pump) hi)
  · exact running_hostRequest_refused h (r := .admitCand i) (decideAdmit_notFound (s := s.pump) hi hc)
  · have ha := State.admitCand_reading (s := s.pump) (cause := .request 0x22) hc hp hs hr
    have hd := decideAdmit_taken (s := s.pump) (d := { c with state := .reading, used := 0 }) hi hc hp hs (by simp [hr, PaperState.running])
      (by
        have hc' : (s.pump.countAdmitted c.paper 1).cand i = some c := hc
        simp [ha, hc'])
    rw [ha] at hd
    exact running_hostRequest_ok h (r := .admitCand i) (by simp) hd
  · have ha := State.admitCand_late (s := s.pump) (cause := .request 0x22) hc hp hs hw ht
    have hd := decideAdmit_taken (s := s.pump) (d := Cand.admittedLate p.elapsed c) hi hc hp hs
      ((PaperState.running_iff _).2 (.inr hw))
      (by
        have hc' : (s.pump.countAdmitted c.paper 1).cand i = some c := hc
        simp [ha, hc'])
    rw [ha] at hd
    exact running_hostRequest_ok h (r := .admitCand i) (by simp) hd
  · have he := State.admitCand_ended (s := s.pump) (cause := .request 0x22) hc hp hs hw ht
    have hd := decideAdmit_taken (s := s.pump) hi hc hp hs ((PaperState.running_iff _).2 (.inr hw)) he
    exact ⟨_, _, running_hostRequest_ok h (r := .admitCand i) (by simp) hd, he, rfl, rfl, rfl, rfl⟩
  · rw [← PaperState.running_iff, Bool.not_eq_true] at hr
    exact running_hostRequest_refused h (r := .admitCand i) (decideAdmit_refused (s := s.pump) hi hc hp hr)

/-- Settles O44, by the checks of R83 and by whether another candidate of the paper is active. -/
theorem finishEndsTheCandidate : Obligations.FinishEndsTheCandidate := by
  refine ⟨fun tag i s h => ⟨fun hi => ?_, fun hi hc => ?_⟩, fun tag i c s h hi hc hb => ⟨fun hact u hu => ?_, fun hact => ?_⟩⟩
  · exact running_hostRequest_refused h (r := .finish i) (decideFinish_range (s := s.pump) hi)
  · exact running_hostRequest_refused h (r := .finish i) (decideFinish_notFound (s := s.pump) hi hc)
  · rw [← CandState.active_iff] at hact
    simp only [← CandState.active_iff, Bool.not_eq_true]
    have hd := (decideFinish_used (s := s.pump) hi hc).trans (if_neg (not_not.2 hact))
    refine ⟨fun p hp hon => ?_, fun p hp hext hlast => ?_⟩
    · rw [State.finishCand_goesOn (s := s.pump) hc hact hp hon] at hd
      exact hu ▸ running_hostRequest_ok h (r := .finish i) (by simp) hd
    · rw [State.finishCand_closes (s := s.pump) hc hact ((State.Keeps.refl s).pump.bounded hb) hp hext hlast hu] at hd
      exact running_hostRequest_ok h (r := .finish i) (by simp) hd
  · rw [← CandState.active_iff] at hact
    exact running_hostRequest_refused h (r := .finish i) ((decideFinish_used (s := s.pump) hi hc).trans (if_pos hact))

end
end

section
/-! PROOF. The edges of a reply, each by its table: PRESENT, DONE, CALL and KEY (R78, R84, R88 to R91, R108 to R115). -/

namespace Sys2Proof.Machine

variable {s : State} {n i : Nat} {x : Seat} {r : LoopRec} {c : Cand} {p : Paper}

/-! ### The order of the edges (R106, R108 to R110) -/

theorem rising_iff {a b : InputRec} : rising a b = true ↔ a.cond = .inactive ∧ b.cond = .active := by simp [rising]

theorem falling_iff {a b : InputRec} : falling a b = true ↔ a.cond = .active ∧ b.cond = .inactive := by simp [falling]

/-- An edge that rises does not fall. -/
theorem not_rising_of_falling {a b : InputRec} (h : falling a b = true) : ¬ rising a b = true := by
  rw [rising_iff, (falling_iff.1 h).1]
  exact nofun

theorem State.forOccupant_none {f : Nat → State} (h : s.occupantOf n = none) : s.forOccupant n f = s := by
  simp only [State.forOccupant, h]

theorem State.forOccupant_some {f : Nat → State} (h : s.occupantOf n = some i) : s.forOccupant n f = f i := by
  simp only [State.forOccupant, h]

section
variable {a b : State} {old new : InputRec}

/-- The PRESENT edge of a reply, as R108 and R110 take it. -/
theorem State.presentEdge_eq
    (h : (s.occupantOf n = none ∨ ¬ rising old new = true ∧ ¬ falling old new = true) ∧ a = s ∨
      ∃ i, s.occupantOf n = some i ∧ (rising old new = true ∧ a = s.presentRise i ∨
        falling old new = true ∧ a = s.presentFall i)) :
    (if rising old new then s.forOccupant n s.presentRise
      else if falling old new then s.forOccupant n s.presentFall else s) = a := by
  obtain ⟨ho | ⟨hr, hf⟩, rfl⟩ | ⟨i, ho, ⟨hr, rfl⟩ | ⟨hf, rfl⟩⟩ := h
  · simp only [State.forOccupant_none ho, ite_self]
  · rw [if_neg hr, if_neg hf]
  · rw [if_pos hr, State.forOccupant_some ho]
  · rw [if_neg (not_rising_of_falling hf), if_pos hf, State.forOccupant_some ho]

/-- The DONE edge of a reply; a falling one is dropped (R108, R109). -/
theorem State.doneEdge_eq
    (h : (s.occupantOf n = none ∨ ¬ rising old new = true) ∧ a = s ∨
      ∃ i, s.occupantOf n = some i ∧ rising old new = true ∧ a = s.leaveRequest i) :
    (if rising old new then s.forOccupant n s.leaveRequest else s) = a := by
  obtain ⟨ho | hr, rfl⟩ | ⟨i, ho, hr, rfl⟩ := h
  · simp only [State.forOccupant_none ho, ite_self]
  · exact if_neg hr
  · rw [if_pos hr, State.forOccupant_some ho]

/-- The CALL edge of a reply (R108). -/
theorem State.callEdge_eq
    (h : ¬ rising old new = true ∧ ¬ falling old new = true ∧ a = s ∨ rising old new = true ∧ a = s.callRise n ∨
      falling old new = true ∧ a = s.callFall n) :
    (if rising old new then s.callRise n else if falling old new then s.callFall n else s) = a := by
  obtain ⟨hr, hf, rfl⟩ | ⟨hr, rfl⟩ | ⟨hf, rfl⟩ := h
  · rw [if_neg hr, if_neg hf]
  · exact if_pos hr
  · rw [if_neg (not_rising_of_falling hf), if_pos hf]

end

/-! ### PRESENT and DONE (R78, R84, R90, R91) -/

section
variable (hc : s.cand i = some c)
include hc

theorem State.presentRise_seated (hs : c.state = .seated) : s.presentRise i = s.admitCand i .present := by
  simp [State.presentRise, hc, hs]

theorem State.presentFall_eq : s.presentFall i =
    if c.state = .reading ∨ c.state = .writing ∨ c.state = .resting then s.changeCand i Cand.left .present else s := by
  simp only [State.presentFall, hc, CandState.active_iff]

/-- A PRESENT rising edge ends an absence (R91). -/
theorem State.presentRise_back (hs : c.state ≠ .seated) (ha : c.state ≠ .absent) (haway : c.flags.away = true) :
    s.presentRise i = s.changeCand i Cand.back .present := by
  cases h : c.state <;> simp_all [State.presentRise]

variable (hp : s.paper c.paper = some p)
include hp

theorem State.presentRise_refused (hs : c.state = .absent)
    (h : p.state = .writing ∨ p.state = .extended ∨ p.state = .closed) :
    s.presentRise i = s.post 0 (.lateRefused i c.number c.seat p.elapsed p.defn.lateCutoff) := by
  rcases h with h | h | h <;> simp [State.presentRise, hc, hp, hs, h]

/-- R84's table, the first line that applies. -/
theorem State.leaveRequest_eq (ha : c.state.active = true) : s.leaveRequest i =
    if c.state = .reading then s.post 0 (.leaveDenied i c.seat .reading c.used (c.limit - c.used))
    else if s.hold ≠ none then s.post 0 (.leaveDenied i c.seat .held c.used (c.limit - c.used))
    else if c.used < p.defn.noLeaveFirst then s.post 0 (.leaveDenied i c.seat .tooEarly c.used (c.limit - c.used))
    else if c.limit - c.used ≤ p.defn.noLeaveLast then
      s.post 0 (.leaveDenied i c.seat .tooLate c.used (c.limit - c.used))
    else s.finishCand i .early .done := by
  simp only [State.leaveRequest, hc, hp, ha, not_true, if_false, leaveRefusal, Option.isSome_iff_ne_none]
  split_ifs <;> rfl

end

/-! ### CALL and KEY (R111, R112, R114) -/

section
variable (hx : s.seat n = some x) (hr : s.loop n = some r) (ho : x.occupant = some i) (hc : s.cand i = some c)
include hx hr ho hc

theorem State.callRise_eq : s.callRise n = if r.call = none ∧ r.answered = false then
    (((s.modLoop n (fun q => { q with call := some s.hall.callSense, answered := false })).modCand i
      (fun d => { d with flags := { d.flags with call := true } })).post 0
      (.callRaised n i c.number c.state)).traceOne i c .call
    else s := by
  have hocc : s.occupantOf n = some i := (State.occupantOf_seat hx).trans ho
  simp only [State.callRise, hr, hocc, hc]
  by_cases h : r.call = none ∧ r.answered = false
  · rw [if_pos h, if_neg (by simp [h])]
    rfl
  · rw [if_neg h, if_pos (by cases hcall : r.call <;> simp_all)]

omit hr in
/-- The end of the call at an occupied seat (R112, R114). -/
theorem State.endCall_occupied (answered : Bool) (how : CallEnd) (cause : Cause) : s.endCall n answered how cause =
    (((s.modLoop n (fun q => { q with call := none, answered := answered })).modCand i
      (fun d => { d with flags := { d.flags with call := false } })).post 0 (.callEnded how)).traceOne i c cause := by
  have hocc : s.occupantOf n = some i := (State.occupantOf_seat hx).trans ho
  simp only [State.endCall, hocc, hc]
  rfl

theorem State.callFall_eq : s.callFall n = if s.hall.callSense = .level ∧ r.call ≠ none then
    (((s.modLoop n (fun q => { q with call := none, answered := false })).modCand i
      (fun d => { d with flags := { d.flags with call := false } })).post 0 (.callEnded .withdrawn)).traceOne i c .call
    else s.modLoop n (fun q => { q with answered := false }) := by
  simp only [State.callFall, hr, Option.isSome_iff_ne_none, State.endCall_occupied hx ho hc]

/-- R114's table, the first entry that applies. -/
theorem State.keyPress_eq (hp : s.paper c.paper = some p) : s.keyPress n =
    if p.coll.target = some n then s.takeScript i .target .key
    else if c.state = .finished then s.takeScript i .key .key
    else if r.call ≠ none then
      (((s.modLoop n (fun q => { q with
        call := none
        answered := r.answered || (r.call == some .level && r.callIn.cond == .active) })).modCand i
        (fun d => { d with flags := { d.flags with call := false } })).post 0 (.callEnded .answered)).traceOne i c .key
    else if c.state = .writing ∧ c.restUsed < c.restBudget then
      s.changeCand i (fun d => { d with state := .resting }) .key
    else if c.state = .resting then s.changeCand i (fun d => { d with state := .writing }) .key
    else s := by
  have hocc : s.occupantOf n = some i := (State.occupantOf_seat hx).trans ho
  have htarget : s.targetSeat c.paper = p.coll.target := by simp [State.targetSeat, hp]
  simp only [State.keyPress, hr, hocc, hc, htarget, State.answerCall, Option.isSome_iff_ne_none,
    State.endCall_occupied hx ho hc, ← beq_eq_decide]
  rfl

end

end Sys2Proof.Machine

section
open Sys2Proof Sys2Proof.Machine

/-- Settles O50: the edges in their order, and one lemma for each table. -/
theorem edgesFollowTheirTables : Obligations.EdgesFollowTheirTables := by
  refine ⟨?_, fun s n i x r c p hx hr ho hc hp =>
    ⟨?_, fun reason cause u hact hu => ⟨fun hon => ?_, fun hb hext hlast => ?_⟩, State.presentRise_refused hc hp,
      State.presentRise_back hc, State.presentFall_eq hc,
      fun hact => State.leaveRequest_eq hc hp ((CandState.active_iff _).2 hact), State.callRise_eq hx hr ho hc,
      State.callFall_eq hx hr ho hc, State.keyPress_eq hx hr ho hc hp⟩⟩
  · rintro s a b c n old new rise fall occupant rfl rfl rfl hpresent hdone hcall
    simp only [← rising_iff, ← falling_iff] at hpresent hdone hcall ⊢
    have ha := State.presentEdge_eq (n := n) hpresent
    have hb := State.doneEdge_eq (n := n) hdone
    have hedges : s.decodeEdges n old new = if rising old.keyIn new.keyIn then c.keyPress n else c := by
      simp only [State.decodeEdges, ha, hb, State.callEdge_eq hcall]
    exact ⟨fun h => hedges.trans (if_pos h), fun h => hedges.trans (if_neg h)⟩
  · rintro hs u rfl
    rw [State.presentRise_seated hc hs]
    exact ⟨State.admitCand_none hc hp, State.admitCand_reading hc hp hs, State.admitCand_late hc hp hs,
      fun hw ht => ⟨_, State.admitCand_ended hc hp hs hw ht, rfl, rfl, rfl, rfl⟩⟩
  · rw [← CandState.active_iff] at hact
    simp only [← CandState.active_iff] at hon
    exact hu ▸ State.finishCand_goesOn hc hact hp hon
  · rw [← CandState.active_iff] at hact
    simp only [← CandState.active_iff, Bool.not_eq_true] at hlast
    exact State.finishCand_closes hc hact hb hp hext hlast hu

end
end

section
/-! PROOF. What an event does in one slot: the paper it leaves there and what it does to the paper's candidates, whatever it does
in the other slots (R67, R71 to R76, R86). -/

namespace Sys2Proof.Machine

/-! ### Folds over slots -/

/-- A fold of which only the step at `q` lies outside a preorder: what precedes that step, and what follows it, lies within. -/
theorem foldl_split {R : State → State → Prop} (hrefl : ∀ s, R s s) (htrans : ∀ s t u, R s t → R t u → R s u)
    {f : State → Nat → State} {l : List Nat} {q : Nat} (hnodup : l.Nodup) (hq : q ∈ l)
    (hother : ∀ u, ∀ r, r ≠ q → R u (f u r)) (s : State) : ∃ u, R s u ∧ R (f u q) (l.foldl f s) := by
  have hfold : ∀ (l : List Nat) (s : State), q ∉ l → R s (l.foldl f s) := by
    intro l
    induction l with
    | nil => exact fun s _ => hrefl s
    | cons r l ih =>
      intro s hr
      rw [List.mem_cons, not_or] at hr
      exact htrans _ _ _ (hother s r (Ne.symm hr.1)) (ih _ hr.2)
  obtain ⟨before, after, rfl⟩ := List.append_of_mem hq
  obtain ⟨-, hafter, hbefore⟩ := List.nodup_append.1 hnodup
  rw [List.foldl_append, List.foldl_cons]
  exact ⟨_, hfold before s fun h => hbefore q h q List.mem_cons_self rfl, hfold after _ (List.nodup_cons.1 hafter).1⟩

/-! ### The candidates of a paper -/

/-- The candidates of the paper in a slot, with their indices. -/
def State.sitting (s : State) (q : Nat) : Table Cand := s.cands.filter (fun e => e.2.paper = q)

variable {s t u : State} {q r i : Nat} {p p' : Option Paper} {f g : Cand → Cand}

theorem State.countCands_eq_sitting (test : Cand → Bool) :
    s.countCands q test = (s.sitting q).countP (fun e => test e.2) := by
  rw [State.countCands, State.sitting, List.countP_filter]
  exact List.countP_congr fun e _ => by simp [and_comm]

/-- Two tests that agree on the candidates of the paper count the same. -/
theorem State.countCands_congr {test test' : Cand → Bool} (h : ∀ c : Cand, c.paper = q → test c = test' c) :
    s.countCands q test = s.countCands q test' :=
  List.countP_congr fun e _ => by
    by_cases hq : e.2.paper = q
    · simp [h e.2 hq]
    · simp [hq]

theorem State.mapCands_sitting (hf : ∀ c, (f c).paper = c.paper) (r q : Nat) : (s.mapCands r f).sitting q =
    if q = r then (s.sitting q).map (fun e => (e.1, f e.2)) else s.sitting q := by
  have hpaper : (fun e : Nat × Cand => Decidable.decide (e.2.paper = q)) ∘
      (fun e : Nat × Cand => (e.1, if e.2.paper = r then f e.2 else e.2)) = fun e => Decidable.decide (e.2.paper = q) := by
    funext e
    by_cases hr : e.2.paper = r <;> simp [hr, hf]
  have hmap : (s.mapCands r f).sitting q =
      (s.sitting q).map (fun e => (e.1, if e.2.paper = r then f e.2 else e.2)) := by
    simp only [State.sitting, State.mapCands, Table.mapAll, List.filter_map, hpaper]
  have hmem : ∀ e ∈ s.sitting q, e.2.paper = q := fun e he => by simpa using (List.mem_filter.1 he).2
  rw [hmap]
  split
  next h => exact List.map_congr_left fun e he => by simp [hmem e he, h]
  next h => exact (List.map_congr_left fun e he => by simp [hmem e he, h]).trans (List.map_id _)

/-! ### What an event moves -/

/-- From `s` to `t` only candidates, papers and the host link change, and a notice that was told stays so. -/
structure State.Moves (s t : State) : Prop where
  frame : t = { s with cands := t.cands, papers := t.papers, link := t.link }
  told : ∀ m, s.Told m → t.Told m

theorem State.Moves.refl (s : State) : s.Moves s := ⟨rfl, fun _ => id⟩

theorem State.Moves.trans (h : s.Moves t) (h' : t.Moves u) : s.Moves u where
  frame := h'.frame.trans
    (congrArg (fun x : State => { x with cands := u.cands, papers := u.papers, link := u.link }) h.frame)
  told m := h'.told m ∘ h.told m

namespace State.Moves

variable (h : s.Moves t)
include h

theorem hall : t.hall = s.hall := (congrArg State.hall h.frame).trans rfl
theorem hallTime : t.hallTime = s.hallTime := (congrArg State.hallTime h.frame).trans rfl
theorem hold : t.hold = s.hold := (congrArg State.hold h.frame).trans rfl
theorem holdElapsed : t.holdElapsed = s.holdElapsed := (congrArg State.holdElapsed h.frame).trans rfl
theorem job : t.job = s.job := (congrArg State.job h.frame).trans rfl

end State.Moves

/-- From `s` to `t` the paper in slot `q` becomes `p` and each of its candidates is changed by `g`. -/
structure State.Brings (s : State) (q : Nat) (p : Option Paper) (g : Cand → Cand) (t : State) : Prop extends s.Moves t where
  paper : t.paper q = p
  sitting : t.sitting q = (s.sitting q).map (fun e => (e.1, g e.2))

/-- From `s` to `t` nothing changes in slot `q`. -/
abbrev State.Spares (s : State) (q : Nat) (t : State) : Prop := s.Brings q (s.paper q) id t

theorem State.Spares.refl (q : Nat) (s : State) : s.Spares q s := { State.Moves.refl s with
  paper := rfl
  sitting := (List.map_id _).symm }

namespace State.Brings

theorem trans (h : s.Brings q p g t) (h' : t.Brings q p' f u) : s.Brings q p' (fun c => f (g c)) u :=
  { h.toMoves.trans h'.toMoves with
    paper := h'.paper
    sitting := by rw [h'.sitting, h.sitting, List.map_map]; rfl }

theorem spared (h : s.Brings q p g t) (h' : t.Spares q u) : s.Brings q p g u :=
  h.paper ▸ h.trans h'

/-- Where a test is counted after the change, it is counted of the changed candidates. -/
theorem countCands (h : s.Brings q p g t) (test : Cand → Bool) :
    t.countCands q test = s.countCands q (fun c => test (g c)) := by
  rw [State.countCands_eq_sitting, State.countCands_eq_sitting, h.sitting, List.countP_map]
  rfl

/-- A candidate of the paper is found changed at its index. -/
theorem cand (h : s.Brings q p g t) {n : Nat} (hw : Table.wf n t.cands = true) {c : Cand} (hc : s.cand i = some c)
    (hq : c.paper = q) : t.cand i = some (g c) := by
  have hmem : (i, c) ∈ s.sitting q := List.mem_filter.2 ⟨Table.get_mem hc, by simpa using hq⟩
  have hmem' : (i, g c) ∈ t.sitting q := h.sitting ▸ List.mem_map.2 ⟨_, hmem, rfl⟩
  exact Table.get_of_mem hw (List.mem_filter.1 hmem').1

theorem ite {b : Prop} [Decidable b] (ht : b → s.Brings q p g t) (hu : ¬ b → s.Brings q p g u) :
    s.Brings q p g (if b then t else u) := by
  split
  · exact ht ‹_›
  · exact hu ‹_›

theorem foldl {α : Type} {k : State → α → State} {l : List α} (hk : ∀ t, ∀ a ∈ l, s.Brings q p g t → s.Brings q p g (k t a))
    (h : s.Brings q p g t) : s.Brings q p g (l.foldl k t) := by
  induction l generalizing t with
  | nil => exact h
  | cons a l ih => exact ih (fun t b hb => hk t b (List.mem_cons_of_mem a hb)) (hk t a List.mem_cons_self h)

section
variable (h : s.Brings q p g t)
include h

theorem post (n : Nat) (b : NoticeBody) : s.Brings q p g (t.post n b) :=
  { h.toMoves.trans ⟨rfl, fun _ hm => hm.post n b⟩ with paper := h.paper, sitting := h.sitting }

theorem postPaperState (r : Nat) (x : PaperState) (c : PaperCause) : s.Brings q p g (t.postPaperState r x c) := by
  unfold State.postPaperState
  split
  · exact h
  · exact h.post ..

theorem traceAllBy (b : Table Cand) (c : Cand → Cause) : s.Brings q p g (t.traceAllBy b c) := by
  refine foldl (fun u e _ hu => ?_) h
  split
  · exact .ite (fun _ => hu.post ..) fun _ => hu
  · exact hu

theorem traceAll (b : Table Cand) (c : Cause) : s.Brings q p g (t.traceAll b c) := h.traceAllBy ..

theorem mapCands (hf : ∀ c, (f c).paper = c.paper) : s.Brings q p (fun c => f (g c)) (t.mapCands q f) :=
  { h.toMoves.trans (u := t.mapCands q f) ⟨rfl, fun _ => id⟩ with
    paper := h.paper
    sitting := by rw [State.mapCands_sitting hf, if_pos rfl, h.sitting, List.map_map]; rfl }

theorem mapCands_other (hr : r ≠ q) (hf : ∀ c, (f c).paper = c.paper) : s.Brings q p g (t.mapCands r f) :=
  { h.toMoves.trans (u := t.mapCands r f) ⟨rfl, fun _ => id⟩ with
    paper := h.paper
    sitting := by rw [State.mapCands_sitting hf, if_neg (Ne.symm hr), h.sitting] }

theorem modPaper (k : Paper → Paper) : s.Brings q (p.map k) g (t.modPaper q k) :=
  { h.toMoves.trans (u := t.modPaper q k) ⟨rfl, fun _ => id⟩ with
    paper := by rw [State.modPaper_paper, if_pos rfl, h.paper]
    sitting := h.sitting }

theorem modPaper_other (hr : r ≠ q) (k : Paper → Paper) : s.Brings q p g (t.modPaper r k) :=
  { h.toMoves.trans (u := t.modPaper r k) ⟨rfl, fun _ => id⟩ with
    paper := by rw [State.modPaper_paper, if_neg (Ne.symm hr), h.paper]
    sitting := h.sitting }

/-- The hall's hold state may be changed at both ends. -/
theorem withHold (x : Option HoldCause) : State.Brings { s with hold := x } q p g { t with hold := x } :=
  { h with frame := congrArg (fun y : State => { y with hold := x }) h.frame }

end
end State.Brings

/-- PAPER_STATE carries the values after the change (R77). -/
theorem State.Brings.told_paperState {p : Paper} (h : s.Brings q (some p) g t) (previous : PaperState) (cause : PaperCause) :
    (t.postPaperState q previous cause).Told ⟨s.hallTime, q, .paperState previous p.state cause p.elapsed p.readingLeft
      p.coll.admitted p.coll.absent (s.countCands q (fun c => (g c).state.active))⟩ := by
  rw [State.postPaperState_defined h.paper, ← h.hallTime, State.activeCount, h.countCands]
  exact State.post_told ..

/-! ### What the Session Timer's operations do to one record -/

/-- The SEATED candidates of the paper in a slot. -/
abbrev State.seatedCount (s : State) (q : Nat) : Nat := s.countCands q (fun c => c.state == .seated)

/-- The paper with `n` more candidates counted as absent. -/
def Paper.countAbsent (n : Nat) (p : Paper) : Paper := { p with coll := { p.coll with absent := p.coll.absent + n } }

/-- A candidate at the end of the reading time (R73). -/
def Cand.readingOver (c : Cand) : Cand := if c.state = .reading then { c with state := .writing, used := 0 } else c

theorem Cand.readingOver_paper (c : Cand) : c.readingOver.paper = c.paper := by
  unfold Cand.readingOver
  split <;> rfl

theorem Cand.readingOver_active (c : Cand) : c.readingOver.state.active = c.state.active := by
  unfold Cand.readingOver
  split
  next h => simp [h, CandState.active]
  next => rfl

theorem Cand.started_paper (n : Nat) (c : Cand) : (c.started n).paper = c.paper := by
  unfold Cand.started
  split <;> rfl

theorem Cand.abandoned_paper (n : Nat) (c : Cand) : (c.abandoned n).paper = c.paper := by
  unfold Cand.abandoned
  split
  · rfl
  · exact Cand.toAbsent_paper c

theorem Cand.abandoned_active (n : Nat) (c : Cand) : (c.abandoned n).state.active = false := by
  unfold Cand.abandoned
  split
  · rfl
  next h => rw [Cand.toAbsent_active]; simpa using h

/-! ### The Session Timer's operations in another slot -/

namespace State.Brings

variable (h : s.Brings q p g t) (hr : r ≠ q)
include h hr

theorem makeAbsent_other : s.Brings q p g (t.makeAbsent r) :=
  (h.mapCands_other hr Cand.toAbsent_paper).modPaper_other hr _

theorem closePaper_other : s.Brings q p g (t.closePaper r) :=
  ((h.makeAbsent_other hr).modPaper_other hr _).postPaperState ..

theorem tickPaper_other : s.Brings q p g (t.tickPaper r) := by
  have hmod : ∀ k, s.Brings q p g (t.modPaper r k) := fun k => h.modPaper_other hr k
  have hend : s.Brings q p g (t.endReading r) :=
    ((h.mapCands_other hr Cand.readingOver_paper).modPaper_other hr _).postPaperState ..
  unfold State.tickPaper
  split
  · exact h
  split
  · exact .ite (fun _ => hend) fun _ => hmod _
  · exact .ite (fun _ => (((hmod _).makeAbsent_other hr).modPaper_other hr _).postPaperState ..) fun _ =>
      .ite (fun _ => (hmod _).makeAbsent_other hr) fun _ => hmod _
  all_goals exact h

theorem startRecords_other (c : PaperCause) : s.Brings q p g (t.startRecords r c) := by
  unfold State.startRecords
  split
  · exact h
  next p _ => exact ((h.mapCands_other hr (Cand.started_paper p.defn.reading)).modPaper_other hr _).postPaperState ..

theorem abandonRecords_other (c : PaperCause) : s.Brings q p g (t.abandonRecords r c) := by
  unfold State.abandonRecords
  split
  · exact h
  · exact (((h.mapCands_other hr (Cand.abandoned_paper _)).modPaper_other hr _).modPaper_other hr _).postPaperState ..

end State.Brings

/-! ### The Session Timer's operations in their own slot -/

section
variable {p : Paper} (hp : s.paper q = some p)
include hp

theorem State.Spares.refl_some : s.Brings q (some p) id s := hp ▸ State.Spares.refl q s

/-- The SEATED candidates become ABSENT and are counted (R74). -/
theorem State.makeAbsent_brings :
    s.Brings q (some (p.countAbsent (s.seatedCount q))) Cand.toAbsent (s.makeAbsent q) :=
  ((State.Spares.refl_some hp).mapCands Cand.toAbsent_paper).modPaper _

/-- The reading time ends (R73). -/
theorem State.endReading_brings :
    s.Brings q (some { p with state := .writing, readingLeft := 0, elapsed := 0 }) Cand.readingOver (s.endReading q) ∧
    (s.endReading q).Told ⟨s.hallTime, q, .paperState .reading .writing .second 0 0 p.coll.admitted p.coll.absent
      (s.activeCount q)⟩ := by
  have h := ((State.Spares.refl_some hp).mapCands Cand.readingOver_paper).modPaper
    (fun x => { x with state := .writing, readingLeft := 0, elapsed := 0 })
  have htold := h.told_paperState .reading .second
  simp only [id, Cand.readingOver_active] at htold
  exact ⟨h.postPaperState .., htold⟩

/-- Base end: EXTENDED where a candidate is still active, else CLOSED (R75). -/
theorem State.endBase_brings {x : PaperState} (hx : x = if s.activeCount q = 0 then .closed else .extended) :
    s.Brings q (some { p.countAbsent (s.seatedCount q) with state := x }) Cand.toAbsent (s.endBase q) ∧
    (s.endBase q).Told ⟨s.hallTime, q, .paperState .writing x .second p.elapsed p.readingLeft p.coll.admitted
      (p.coll.absent + s.seatedCount q) (s.activeCount q)⟩ := by
  have h := (State.makeAbsent_brings hp).modPaper (fun y => { y with state := x })
  have htold := h.told_paperState .writing .second
  simp only [Cand.toAbsent_active] at htold
  have he : s.endBase q = ((s.makeAbsent q).setPaperState q x).postPaperState q .writing .second := by
    rw [State.endBase, State.makeAbsent_activeCount, hx]
  rw [he]
  exact ⟨h.postPaperState .., htold⟩

/-- An EXTENDED paper closes (R76). -/
theorem State.closePaper_brings :
    s.Brings q (some { p.countAbsent (s.seatedCount q) with state := .closed }) Cand.toAbsent (s.closePaper q) ∧
    (s.closePaper q).Told ⟨s.hallTime, q, .paperState .extended .closed .lastFinish p.elapsed p.readingLeft p.coll.admitted
      (p.coll.absent + s.seatedCount q) (s.activeCount q)⟩ := by
  have h := (State.makeAbsent_brings hp).modPaper (fun y => { y with state := .closed })
  have htold := h.told_paperState .extended .lastFinish
  simp only [Cand.toAbsent_active] at htold
  exact ⟨h.postPaperState .., htold⟩

/-- A paper starts (R71). -/
theorem State.startRecords_brings (cause : PaperCause) :
    s.Brings q (some (p.started (s.countCands q Cand.atDesk))) (Cand.started p.defn.reading) (s.startRecords q cause) ∧
    (s.startRecords q cause).Told ⟨s.hallTime, q, .paperState p.state (if 0 < p.defn.reading then .reading else .writing)
      cause 0 p.defn.reading (p.coll.admitted + s.countCands q Cand.atDesk) p.coll.absent
      (s.countCands q (fun c => (c.started p.defn.reading).state.active))⟩ := by
  have h := ((State.Spares.refl_some hp).mapCands (Cand.started_paper p.defn.reading)).modPaper
    (Paper.started (s.countCands q Cand.atDesk))
  have htold := h.told_paperState p.state cause
  simp only [State.startRecords, hp]
  exact ⟨h.postPaperState .., htold⟩

/-- A running paper is abandoned (R86). -/
theorem State.abandonRecords_brings (cause : PaperCause) :
    s.Brings q (some { p.countAbsent (s.seatedCount q) with state := .abandoned }) (Cand.abandoned s.hallTime)
      (s.abandonRecords q cause) ∧
    (s.abandonRecords q cause).Told ⟨s.hallTime, q, .paperState p.state .abandoned cause p.elapsed p.readingLeft
      p.coll.admitted (p.coll.absent + s.seatedCount q) 0⟩ := by
  have h := (((State.Spares.refl_some hp).mapCands (Cand.abandoned_paper s.hallTime)).modPaper
    (Paper.countAbsent (s.seatedCount q))).modPaper (fun y => { y with state := .abandoned })
  have hzero : s.countCands q (fun c => (c.abandoned s.hallTime).state.active) = 0 :=
    List.countP_eq_zero.2 fun e _ => by simp [Cand.abandoned_active]
  have htold := h.told_paperState p.state cause
  simp only [id, hzero] at htold
  simp only [State.abandonRecords, hp]
  exact ⟨h.postPaperState .., htold⟩

end

end Sys2Proof.Machine
end

section
/-! PROOF. The clocks of the candidates at a second event of a hall that is not held: used, rest used and absence of each, and the
notices of the rests and absences that reach their bounds (R67, R81, R89, R90). -/

namespace Sys2Proof.Machine

variable {s t u : State} {q i : Nat} {c : Cand} {n : Nat}

/-! ### One record -/

/-- One second of a candidate's clock; `counts` says that its paper is WRITING or EXTENDED (R81, R89). -/
def Cand.clocked (counts : Bool) (time : Nat) (c : Cand) : Cand :=
  if c.state = .writing ∧ counts = true then
    if c.limit ≤ c.used + 1 then Cand.toFinished .time time { c with used := c.used + 1 } else { c with used := c.used + 1 }
  else if c.state = .resting then
    { c with restUsed := c.restUsed + 1, state := if c.restBudget ≤ c.restUsed + 1 then .writing else .resting }
  else c

/-- One second of a candidate's absence (R90). -/
def Cand.awayCounted (limit : Nat) (c : Cand) : Cand :=
  { c with
    awayCount := if c.flags.away = true then min (c.awayCount + 1) 1800 else c.awayCount
    awayReported := c.awayReported ||
      (c.flags.away && Decidable.decide (0 < limit) && Decidable.decide (limit ≤ min (c.awayCount + 1) 1800)) }

/-- The clocks of the candidates of the paper in a slot count: it is WRITING or EXTENDED (R81). -/
def State.clockCounts (s : State) (q : Nat) : Bool :=
  (s.paper q).any (fun p => Decidable.decide (p.state = .writing) || Decidable.decide (p.state = .extended))

/-- A candidate's record after its clocks of one second event. -/
def State.ticked (s : State) (c : Cand) : Cand :=
  (c.clocked (s.clockCounts c.paper) s.hallTime).awayCounted s.hall.awayLimit

/-! ### What the clocks do to each field -/

section
variable (counts : Bool) (time : Nat) (c : Cand)

@[simp] theorem Cand.clocked_number : (c.clocked counts time).number = c.number := by
  unfold Cand.clocked; split_ifs <;> rfl
@[simp] theorem Cand.clocked_paper : (c.clocked counts time).paper = c.paper := by
  unfold Cand.clocked; split_ifs <;> rfl
@[simp] theorem Cand.clocked_limit : (c.clocked counts time).limit = c.limit := by
  unfold Cand.clocked; split_ifs <;> rfl
@[simp] theorem Cand.clocked_seat : (c.clocked counts time).seat = c.seat := by
  unfold Cand.clocked; split_ifs <;> rfl

end

section
variable {counts : Bool} {time : Nat}

theorem Cand.clocked_finishes (hs : c.state = .writing) (hl : c.limit ≤ c.used + 1) :
    c.clocked true time = Cand.toFinished .time time { c with used := c.used + 1 } := by
  simp [Cand.clocked, hs, hl]

theorem Cand.clocked_writes (hs : c.state = .writing) (hl : ¬ c.limit ≤ c.used + 1) :
    c.clocked true time = { c with used := c.used + 1 } := by
  simp [Cand.clocked, hs, hl]

/-- The clock of a WRITING candidate whose paper is neither WRITING nor EXTENDED stands (R81). -/
theorem Cand.clocked_uncounted (hs : c.state = .writing) : c.clocked false time = c := by simp [Cand.clocked, hs]

theorem Cand.clocked_resting (hs : c.state = .resting) : c.clocked counts time =
    { c with restUsed := c.restUsed + 1, state := if c.restBudget ≤ c.restUsed + 1 then .writing else .resting } := by
  simp [Cand.clocked, hs]

theorem Cand.clocked_stands (hw : c.state ≠ .writing) (hr : c.state ≠ .resting) : c.clocked counts time = c := by
  simp [Cand.clocked, hw, hr]

/-- The clocks finish only a WRITING candidate whose used reaches the limit (R81). -/
theorem Cand.clocked_away (h : ¬ (c.state = .writing ∧ c.limit ≤ c.used + 1)) :
    (c.clocked counts time).flags = c.flags ∧ (c.clocked counts time).awayCount = c.awayCount ∧
      (c.clocked counts time).awayReported = c.awayReported := by
  unfold Cand.clocked
  split
  next hw => rw [if_neg fun hl => h ⟨hw.1, hl⟩]; exact ⟨rfl, rfl, rfl⟩
  next => split <;> exact ⟨rfl, rfl, rfl⟩

theorem Cand.clocked_seated : (c.clocked counts time).state = .seated ↔ c.state = .seated := by
  unfold Cand.clocked
  split
  next hw => split <;> simp [Cand.toFinished, hw.1]
  next =>
    split
    next hr => split <;> simp_all
    next => rfl

/-- Who is active after the clocks of a WRITING or EXTENDED paper (R75, R76, R81). -/
theorem Cand.clocked_active_of_counts : (c.clocked true time).state.active = (c.state == .reading || c.state == .resting ||
    c.state == .writing && Decidable.decide (c.used + 1 < c.limit)) := by
  cases hs : c.state with
  | writing =>
    by_cases hl : c.limit ≤ c.used + 1
    · rw [Cand.clocked_finishes hs hl]
      simp [Cand.toFinished, CandState.active, hl]
    · rw [Cand.clocked_writes hs hl]
      simp [hs, CandState.active, Nat.not_le.1 hl]
  | resting =>
    rw [Cand.clocked_resting hs]
    dsimp only
    split <;> rfl
  | _ => rw [Cand.clocked_stands (by simp [hs]) (by simp [hs]), hs]; rfl

/-- The clocks of a paper that is neither WRITING nor EXTENDED finish nobody. -/
theorem Cand.clocked_active_of_not_counts : (c.clocked false time).state.active = c.state.active := by
  cases hs : c.state with
  | writing => rw [Cand.clocked_uncounted hs, hs]
  | resting =>
    rw [Cand.clocked_resting hs]
    dsimp only
    split <;> rfl
  | _ => rw [Cand.clocked_stands (by simp [hs]) (by simp [hs]), hs]

end

@[simp] theorem State.ticked_paper (s : State) (c : Cand) : (s.ticked c).paper = c.paper := Cand.clocked_paper ..

theorem State.ticked_seated {c : Cand} : (s.ticked c).state = .seated ↔ c.state = .seated := Cand.clocked_seated

/-- The number of active candidates after the clocks, of a paper whose clocks count (R75, R76). -/
theorem State.ticked_activeCount_of_counts (h : s.clockCounts q = true) :
    s.countCands q (fun c => (s.ticked c).state.active) = s.goingOn q := by
  refine State.countCands_congr fun c hc => ?_
  rw [← Cand.clocked_active_of_counts (time := s.hallTime), ← h, ← hc]
  rfl

/-- The number of active candidates after the clocks, of any other paper. -/
theorem State.ticked_activeCount_of_not_counts (h : s.clockCounts q = false) :
    s.countCands q (fun c => (s.ticked c).state.active) = s.activeCount q := by
  refine State.countCands_congr fun c hc => ?_
  rw [← Cand.clocked_active_of_not_counts (c := c) (time := s.hallTime), ← h, ← hc]
  rfl

/-! ### The clocks of one candidate -/

/-- A change that leaves the record at its index as it is leaves the table. -/
theorem Table.modify_eq_self {α : Type} {t : Table α} {k : Nat} {f : α → α} (hw : Table.wf n t = true)
    (h : ∀ v, Table.get t k = some v → f v = v) : Table.modify t k f = t := by
  rw [Table.modify_congr (g := id) hw h]
  exact (List.map_congr_left fun e _ => by simp).trans (List.map_id _)

/-- A change of the record at an index, read off the record that stands there. -/
theorem State.modCand_cands_of (hw : Table.wf n s.cands = true) (hc : s.cand i = some c) {f g : Cand → Cand} (h : f c = g c) :
    (s.modCand i f).cands = Table.modify s.cands i g :=
  Table.modify_congr hw fun d hd => by
    obtain rfl : c = d := Option.some.inj (hc.symm.trans hd)
    exact h

theorem State.cands_of_unchanged (hw : Table.wf n s.cands = true) (hc : s.cand i = some c) {g : Cand → Cand} (h : g c = c) :
    s.cands = Table.modify s.cands i g :=
  (Table.modify_eq_self hw fun d hd => by
    obtain rfl : c = d := Option.some.inj (hc.symm.trans hd)
    exact h).symm

theorem State.tickClock_free (hc : s.cand i = none) : s.tickClock i = s := by simp only [State.tickClock, hc]

theorem State.tickAway_free (hc : s.cand i = none) : s.tickAway i = s := by simp only [State.tickAway, hc]

section
variable (hc : s.cand i = some c)
include hc

theorem State.tickClock_writing (hs : c.state = .writing) : s.tickClock i =
    if s.clockCounts c.paper = true then
      if c.limit ≤ c.used + 1 then s.modCand i (fun x => Cand.toFinished .time s.hallTime { x with used := x.used + 1 })
      else s.modCand i (fun x => { x with used := x.used + 1 })
    else s := by
  simp only [State.tickClock, hc, hs, State.modCand_modCand]
  rfl

theorem State.tickClock_resting (hs : c.state = .resting) : s.tickClock i =
    if c.restBudget ≤ c.restUsed + 1 then
      (s.modCand i (fun x => { x with restUsed := x.restUsed + 1, state := .writing })).post 0
        (.restEnd i c.seat (c.restUsed + 1) c.used)
    else s.modCand i (fun x => { x with restUsed := x.restUsed + 1 }) := by
  simp only [State.tickClock, hc, hs, State.modCand_modCand]

theorem State.tickClock_stands (hw : c.state ≠ .writing) (hr : c.state ≠ .resting) : s.tickClock i = s := by
  cases hs : c.state <;> simp_all [State.tickClock]

theorem State.tickAway_present (ha : c.flags.away = false) : s.tickAway i = s := by simp [State.tickAway, hc, ha]

theorem State.tickAway_away (ha : c.flags.away = true) : s.tickAway i =
    if 0 < s.hall.awayLimit ∧ s.hall.awayLimit ≤ min (c.awayCount + 1) 1800 ∧ c.awayReported = false then
      (s.modCand i (fun x => { x with awayCount := min (c.awayCount + 1) 1800, awayReported := true })).post 0
        (.awayLong i c.seat (min (c.awayCount + 1) 1800) c.used)
    else s.modCand i (fun x => { x with awayCount := min (c.awayCount + 1) 1800 }) := by
  simp only [State.tickAway, hc, ha, not_true, if_false, State.modCand_modCand, Config.maxAway]

end

theorem State.tickClock_cands (hw : Table.wf n s.cands = true) (i : Nat) : (s.tickClock i).cands =
    Table.modify s.cands i (fun c => c.clocked (s.clockCounts c.paper) s.hallTime) := by
  cases hc : s.cand i with
  | none =>
    rw [State.tickClock_free hc, Table.modify_eq_self hw fun c h => absurd (hc.symm.trans h) nofun]
  | some c =>
    by_cases hs : c.state = .writing
    · rw [State.tickClock_writing hc hs]
      cases hcount : s.clockCounts c.paper with
      | false => exact State.cands_of_unchanged hw hc (by rw [hcount, Cand.clocked_uncounted hs])
      | true =>
        rw [if_pos rfl]
        split
        next hl => exact State.modCand_cands_of hw hc (by rw [hcount, Cand.clocked_finishes hs hl])
        next hl => exact State.modCand_cands_of hw hc (by rw [hcount, Cand.clocked_writes hs hl])
    by_cases hr : c.state = .resting
    · rw [State.tickClock_resting hc hr]
      split
      next hl =>
        rw [State.post_cands]
        exact State.modCand_cands_of hw hc (by rw [Cand.clocked_resting hr, if_pos hl])
      next hl => exact State.modCand_cands_of hw hc (by rw [Cand.clocked_resting hr, if_neg hl, ← hr])
    · rw [State.tickClock_stands hc hs hr]
      exact State.cands_of_unchanged hw hc (Cand.clocked_stands hs hr)

theorem State.tickAway_cands (hw : Table.wf n s.cands = true) (i : Nat) : (s.tickAway i).cands =
    Table.modify s.cands i (Cand.awayCounted s.hall.awayLimit) := by
  cases hc : s.cand i with
  | none =>
    rw [State.tickAway_free hc, Table.modify_eq_self hw fun c h => absurd (hc.symm.trans h) nofun]
  | some c =>
    cases ha : c.flags.away with
    | false =>
      rw [State.tickAway_present hc ha]
      exact State.cands_of_unchanged hw hc (by simp [Cand.awayCounted, ha])
    | true =>
      rw [State.tickAway_away hc ha]
      split
      next hl =>
        obtain ⟨hpos, hle, -⟩ := hl
        rw [State.post_cands]
        exact State.modCand_cands_of hw hc (by simp only [Cand.awayCounted, ha, hpos, hle]; simp)
      next hl =>
        have hkeep : (c.awayReported || (true && Decidable.decide (0 < s.hall.awayLimit) &&
            Decidable.decide (s.hall.awayLimit ≤ min (c.awayCount + 1) 1800))) = c.awayReported := by
          cases hrep : c.awayReported with
          | true => rfl
          | false => simpa only [hrep, and_true, Bool.false_or, Bool.true_and, Bool.and_eq_false_iff, decide_eq_false_iff_not,
              not_and_or] using hl
        exact State.modCand_cands_of hw hc (by simp only [Cand.awayCounted, ha, if_true, hkeep])

/-! ### The clocks of all candidates -/

namespace State.Moves

theorem ite {b : Prop} [Decidable b] (ht : b → s.Moves t) (hu : ¬ b → s.Moves u) : s.Moves (if b then t else u) := by
  split
  · exact ht ‹_›
  · exact hu ‹_›

theorem modCand (h : s.Moves t) (i : Nat) (f : Cand → Cand) : s.Moves (t.modCand i f) := h.trans ⟨rfl, fun _ => id⟩

theorem post (h : s.Moves t) (n : Nat) (b : NoticeBody) : s.Moves (t.post n b) := h.trans ⟨rfl, fun _ hm => hm.post n b⟩

theorem tickClock (s : State) (i : Nat) : s.Moves (s.tickClock i) := by
  have h := State.Moves.refl s
  unfold State.tickClock
  split
  · exact h
  split
  · exact .ite (fun _ => .ite (fun _ => (h.modCand ..).modCand ..) fun _ => h.modCand ..) fun _ => h
  · exact .ite (fun _ => ((h.modCand ..).modCand ..).post ..) fun _ => h.modCand ..
  all_goals exact h

theorem tickAway (s : State) (i : Nat) : s.Moves (s.tickAway i) := by
  have h := State.Moves.refl s
  unfold State.tickAway
  split
  · exact h
  · exact .ite (fun _ => h) fun _ => .ite (fun _ => ((h.modCand ..).modCand ..).post ..) fun _ => h.modCand ..

theorem tickCand (s : State) (i : Nat) : s.Moves (s.tickCand i) := (tickClock s i).trans (tickAway _ i)

end State.Moves

theorem State.tickClock_papers (s : State) (i : Nat) : (s.tickClock i).papers = s.papers := by
  unfold State.tickClock
  repeat' split
  all_goals rfl

theorem State.tickAway_papers (s : State) (i : Nat) : (s.tickAway i).papers = s.papers := by
  cases hc : s.cand i with
  | none => rw [State.tickAway_free hc]
  | some c =>
    cases ha : c.flags.away with
    | false => rw [State.tickAway_present hc ha]
    | true => rw [State.tickAway_away hc ha]; split <;> rfl

theorem State.tickCand_papers (s : State) (i : Nat) : (s.tickCand i).papers = s.papers :=
  (State.tickAway_papers ..).trans (State.tickClock_papers ..)

/-- What the clocks do to a record depends on the papers, hall time and the hall settings only. -/
theorem State.ticked_congr (hp : t.papers = s.papers) (h : s.Moves t) : t.ticked = s.ticked := by
  funext c
  simp only [State.ticked, State.clockCounts, State.paper_congr hp, h.hallTime, h.hall]

theorem State.tickCand_cands (hw : Table.wf n s.cands = true) (i : Nat) :
    (s.tickCand i).cands = Table.modify s.cands i s.ticked := by
  have hw' : Table.wf n (s.tickClock i).cands = true := by
    rw [State.tickClock_cands hw]
    exact Table.wf_modify _ _ hw
  rw [State.tickCand, State.tickAway_cands hw', State.tickClock_cands hw, Table.modify_modify,
    (State.Moves.tickClock s i).hall]
  rfl

/-- The state after the clocks of all candidates, in ascending index (log 4). -/
def State.tickedCands (s : State) : State := (Table.keys s.cands).foldl State.tickCand s

/-- The clocks of the candidates of some indices. -/
theorem State.foldl_tickCand_cands (l : List Nat) (hl : l.Nodup) (hw : Table.wf n s.cands = true) :
    s.Moves (l.foldl State.tickCand s) ∧ (l.foldl State.tickCand s).papers = s.papers ∧
    (l.foldl State.tickCand s).cands = s.cands.map (fun e => if e.1 ∈ l then (e.1, s.ticked e.2) else e) := by
  induction l generalizing s with
  | nil => exact ⟨.refl s, rfl, by simp⟩
  | cons i l ih =>
    obtain ⟨hi, hl⟩ := List.nodup_cons.1 hl
    have hw' : Table.wf n (s.tickCand i).cands = true := by
      rw [State.tickCand_cands hw]
      exact Table.wf_modify _ _ hw
    obtain ⟨hmoves, hpapers, hcands⟩ := ih hl hw'
    have hi' := State.tickCand_papers s i
    rw [State.ticked_congr hi' (.tickCand s i), State.tickCand_cands hw, Table.modify, List.map_map] at hcands
    refine ⟨(State.Moves.tickCand s i).trans hmoves, hpapers.trans hi', hcands.trans (List.map_congr_left fun e _ => ?_)⟩
    by_cases he : e.1 = i
    · simp [he, hi]
    · simp [he]

theorem State.nodup_keys (hw : Table.wf n s.cands = true) : (Table.keys s.cands).Nodup :=
  ((Table.wf_iff n s.cands).1 hw).1.imp Nat.ne_of_lt

/-- The clocks of the candidates leave every paper as it is, and change each candidate by one second (R67, R81, R89, R90). -/
theorem State.tickedCands_brings (hw : Table.wf n s.cands = true) (q : Nat) :
    s.Brings q (s.paper q) s.ticked s.tickedCands := by
  obtain ⟨hmoves, hpapers, hcands⟩ := State.foldl_tickCand_cands (s := s) _ (State.nodup_keys hw) hw
  refine { hmoves with paper := State.paper_congr hpapers q, sitting := ?_ }
  have hall : s.tickedCands.cands = s.cands.map (fun e => (e.1, s.ticked e.2)) :=
    hcands.trans (List.map_congr_left fun e he => if_pos (List.mem_map_of_mem he))
  rw [State.sitting, hall, List.filter_map]
  refine congrArg (List.map _) (List.filter_congr fun e _ => ?_)
  simp

end Sys2Proof.Machine
end

section
/-! PROOF. What the Session Timer's part of a second event of a hall that is not held leaves in one slot, by the boundary that its
paper reaches (R67, R71 to R77, R81). -/

namespace Sys2Proof.Machine

variable {s t u : State} {q n : Nat} {p p' : Paper} {f g : Cand → Cand}

/-! ### One paper's second -/

theorem State.tickPaper_undefined (hp : s.paper q = none) : s.tickPaper q = s := by simp only [State.tickPaper, hp]

section
variable (hp : s.paper q = some p)
include hp

theorem State.tickPaper_reading (hs : p.state = .reading) : s.tickPaper q =
    if p.readingLeft ≤ 1 then s.endReading q else s.modPaper q (fun x => { x with readingLeft := x.readingLeft - 1 }) := by
  simp only [State.tickPaper, hp, hs]

theorem State.tickPaper_writing (hs : p.state = .writing) : s.tickPaper q =
    if p.defn.writing ≤ p.elapsed + 1 then (s.modPaper q (fun x => { x with elapsed := x.elapsed + 1 })).endBase q
    else if p.elapsed = p.defn.lateCutoff then (s.modPaper q (fun x => { x with elapsed := x.elapsed + 1 })).makeAbsent q
    else s.modPaper q (fun x => { x with elapsed := x.elapsed + 1 }) := by
  simp only [State.tickPaper, hp, hs]

/-- Only a READING or WRITING paper has a clock (R73, R74). -/
theorem State.tickPaper_stands (hr : p.state ≠ .reading) (hw : p.state ≠ .writing) : s.tickPaper q = s := by
  cases hs : p.state <;> simp_all [State.tickPaper]

end

/-! ### Counts after the clocks -/

theorem State.seatedCount_ticked (h : s.Brings q (some p) s.ticked u) : u.seatedCount q = s.seatedCount q := by
  rw [State.seatedCount, h.countCands]
  exact State.countCands_congr fun c _ => by rw [Bool.eq_iff_iff, beq_iff_eq, beq_iff_eq, State.ticked_seated]

theorem Cand.clocked_present (counts : Bool) (time : Nat) (c : Cand) : (c.clocked counts time).present = c.present := by
  unfold Cand.clocked; split_ifs <;> rfl

theorem State.ticked_atDesk (s : State) (c : Cand) : (s.ticked c).atDesk = c.atDesk := by
  rw [Bool.eq_iff_iff, Cand.atDesk_iff, Cand.atDesk_iff, State.ticked_seated]
  exact and_congr_right fun _ => by rw [← Cand.clocked_present (s.clockCounts c.paper) s.hallTime c]; rfl

theorem State.atDeskCount_ticked (h : s.Brings q (some p) s.ticked u) :
    u.countCands q Cand.atDesk = s.countCands q (fun c => c.state == .seated && c.present) := by
  rw [h.countCands]
  exact State.countCands_congr fun c _ => State.ticked_atDesk s c

/-- Two tests that no candidate passes both are counted apart. -/
theorem State.countCands_add {test a b : Cand → Bool} (h : ∀ c, test c = (a c || b c)) (hd : ∀ c, a c = true → b c = false) :
    s.countCands q test = s.countCands q a + s.countCands q b := by
  unfold State.countCands
  induction s.cands with
  | nil => rfl
  | cons e l ih =>
    have he := hd e.2
    simp only [List.countP_cons, ih, h e.2]
    cases ha : a e.2 <;> cases hb : b e.2 <;> cases hq : Decidable.decide (e.2.paper = q) <;> simp_all <;> omega

/-- A start makes those at their desks active (R71). -/
theorem Cand.started_active (r : Nat) (c : Cand) : (c.started r).state.active = (c.state.active || c.atDesk) := by
  unfold Cand.started
  split
  next h =>
    rw [h, Bool.or_true]
    dsimp only
    split <;> rfl
  next h => rw [Bool.not_eq_true] at h; rw [h, Bool.or_false]

/-! ### Other slots of one event -/

theorem State.Spares.trans (h : s.Spares q t) (h' : t.Spares q u) : s.Spares q u := h.spared h'

theorem State.tickPapers_split (hq : q ∈ slots) (t : State) :
    ∃ u, t.Spares q u ∧ (u.tickPaper q).Spares q (slots.foldl State.tickPaper t) :=
  foldl_split (R := fun s t => s.Spares q t) (State.Spares.refl q) (fun _ _ _ => State.Spares.trans) List.nodup_range hq
    (fun u _ hr => (State.Spares.refl q u).tickPaper_other hr) t

/-- Whether a start is due at a slot depends on the slot's paper, and on nothing that an event moves. -/
theorem State.startDue_congr (h : s.Moves t) (hp : t.paper q = s.paper q) : t.startDue q = s.startDue q := by
  simp only [State.startDue, State.allocating, hp, h.hallTime, h.hold, h.job]

theorem State.scheduledRecords_spares (h : s.startDue q = false) : s.Spares q s.scheduledRecords :=
  .foldl (fun u r hr hu => hu.startRecords_other (fun e => by
    rw [List.mem_filter, e, h] at hr
    exact Bool.false_ne_true hr.2) _) (State.Spares.refl q s)

theorem State.scheduledRecords_split (hq : q ∈ slots) (h : s.startDue q = true) :
    ∃ u, s.Spares q u ∧ (u.startRecords q .schedule).Spares q s.scheduledRecords :=
  foldl_split (R := fun s t => s.Spares q t) (State.Spares.refl q) (fun _ _ _ => State.Spares.trans)
    (List.nodup_range.filter _) (List.mem_filter.2 ⟨hq, h⟩)
    (fun u _ hr => (State.Spares.refl q u).startRecords_other hr _) s

theorem State.closeFinished_spares {before : State} (h : before.activeCount q ≠ 0 → s.lastFinished q = false) :
    s.Spares q (before.closeFinished s) :=
  .traceAll (.foldl (fun u r hr hu => hu.closePaper_other fun e => by
    rw [List.mem_filter, e, Bool.and_eq_true, bne_iff_ne] at hr
    exact Bool.false_ne_true ((h hr.2.1).symm.trans hr.2.2)) (State.Spares.refl q s)) _ _

theorem State.closeFinished_split {before : State} (hq : q ∈ slots) (hb : before.activeCount q ≠ 0)
    (h : s.lastFinished q = true) : ∃ u, s.Spares q u ∧ (u.closePaper q).Spares q (before.closeFinished s) := by
  have hmem : q ∈ slots.filter (fun r => before.activeCount r != 0 && s.lastFinished r) :=
    List.mem_filter.2 ⟨hq, by simp [hb, h]⟩
  obtain ⟨u, hu, hu'⟩ := foldl_split (R := fun s t => s.Spares q t) (f := State.closePaper) (State.Spares.refl q)
    (fun _ _ _ => State.Spares.trans) (List.nodup_range.filter _) hmem
    (fun u _ hr => (State.Spares.refl q u).closePaper_other hr) s
  exact ⟨u, hu, hu'.traceAll _ _⟩

/-! ### The Session Timer's part of a second event -/

/-- The state that the Session Timer leaves to the Collection Unit (R76, log 4). -/
def State.timed (s : State) : State := s.closeFinished (s.tickRecords.traceAllBy s.cands (s.eventCause .second))

theorem State.timed_told (s : State) {m : Notice} (h : s.tickRecords.Told m) : s.timed.Told m :=
  (((State.Follows.refl (P := fun _ => False) s.tickRecords).traceAllBy ..).closeFinished s).told m h

/-- The state before the clock of the paper in slot `q`: the candidates' clocks have counted, and nothing else has happened to
the slot. -/
abbrev State.BeforePaper (s : State) (q : Nat) (u : State) : Prop := s.Brings q (s.paper q) s.ticked u

section
variable (hw : Table.wf n s.cands = true)
include hw

/-- A boundary of a running paper is what its own clock does (R73 to R75). -/
theorem State.tickRecords_brings (hq : q ∈ slots) (hs : p'.state ≠ .planned)
    (hstep : ∀ u, s.BeforePaper q u → u.Brings q (some p') g (u.tickPaper q)) :
    s.Brings q (some p') (fun c => g (s.ticked c)) s.tickRecords ∧
    ∀ m, (∀ u, s.BeforePaper q u → (u.tickPaper q).Told m) → s.tickRecords.Told m := by
  obtain ⟨u, hu, hu'⟩ := State.tickPapers_split hq s.tickedCands
  have hbefore : s.BeforePaper q u := (State.tickedCands_brings hw q).spared hu
  have hpapers := (hbefore.trans (hstep u hbefore)).spared hu'
  have hdue : (slots.foldl State.tickPaper s.tickedCands).startDue q = false := by
    simp [State.startDue, hpapers.paper, hs]
  have hrest := State.scheduledRecords_spares hdue
  exact ⟨hpapers.spared hrest, fun m hm => hrest.told m (hu'.told m (hm u hbefore))⟩

/-- Before the starts, a PLANNED or UNDEFINED slot has had its candidates' clocks only. -/
theorem State.tickPapers_brings_planned (h : ∀ p, s.paper q = some p → p.state = .planned) :
    s.BeforePaper q (slots.foldl State.tickPaper s.tickedCands) := by
  have hfold := State.Brings.foldl (s := s) (k := State.tickPaper) (l := slots) (t := s.tickedCands) (fun u r _ hu => ?_)
    (State.tickedCands_brings hw q)
  · exact hfold
  · by_cases hr : r = q
    · rw [hr]
      cases hp : s.paper q with
      | none => rwa [State.tickPaper_undefined (hu.paper.trans hp), ← hp]
      | some p =>
        rw [State.tickPaper_stands (hu.paper.trans hp) (by simp [h p hp]) (by simp [h p hp]), ← hp]
        exact hu
    · exact hu.tickPaper_other hr

end

/-- A slot that is not left with an EXTENDED paper whose last finish has come in this event stays as it is (R76). -/
theorem State.timed_brings {p : Option Paper} (h : s.Brings q p g s.tickRecords)
    (hopen : (∀ x, p = some x → x.state ≠ .extended) ∨ s.countCands q (fun c => (g c).state.active) ≠ 0 ∨ s.activeCount q = 0) :
    s.Brings q p g s.timed := by
  have htrace := h.traceAllBy s.cands (s.eventCause .second)
  refine htrace.spared (State.closeFinished_spares fun hact => ?_)
  simp only [State.lastFinished, htrace.paper, State.activeCount, htrace.countCands]
  rcases hopen with hopen | hopen | hopen
  · cases p with
    | none => rfl
    | some x => simp [hopen x rfl]
  · simp [hopen]
  · exact absurd hopen hact

/-! ### The boundaries -/

theorem State.clockCounts_of (hp : s.paper q = some p) (hs : p.state = .writing ∨ p.state = .extended) : s.clockCounts q = true := by
  rcases hs with hs | hs <;> simp [State.clockCounts, hp, hs]

theorem State.not_clockCounts_of (hp : s.paper q = some p) (hs : p.state ≠ .writing) (hx : p.state ≠ .extended) :
    s.clockCounts q = false := by
  simp [State.clockCounts, hp, hs, hx]

section
variable (hb : s.Bounded) (hp : s.paper q = some p)
include hb hp

/-- Reading time ends (R73, R77). -/
theorem State.timed_endsReading (hs : p.state = .reading) (hl : p.readingLeft ≤ 1) :
    s.Brings q (some { p with state := .writing, readingLeft := 0, elapsed := 0 }) (fun c => (s.ticked c).readingOver)
      s.timed ∧
    s.timed.Told ⟨s.hallTime, q, .paperState .reading .writing .second 0 0 p.coll.admitted p.coll.absent
      (s.activeCount q)⟩ := by
  have hstep : ∀ u, s.BeforePaper q u → u.tickPaper q = u.endReading q := fun u hu =>
    (State.tickPaper_reading (hu.paper.trans hp) hs).trans (if_pos hl)
  obtain ⟨hrec, htold⟩ := State.tickRecords_brings (g := Cand.readingOver)
    (p' := { p with state := .writing, readingLeft := 0, elapsed := 0 }) hb.cands (hb.mem_slots hp) nofun fun u hu =>
      hstep u hu ▸ (State.endReading_brings (hu.paper.trans hp)).1
  refine ⟨State.timed_brings hrec (.inl fun x hx => ?_), State.timed_told s (htold _ fun u hu => ?_)⟩
  · obtain rfl := Option.some.inj hx
    exact nofun
  · have hact : u.activeCount q = s.activeCount q :=
      (hu.countCands _).trans (State.ticked_activeCount_of_not_counts
        (State.not_clockCounts_of hp (by simp [hs]) (by simp [hs])))
    rw [hstep u hu, ← hu.hallTime, ← hact]
    exact (State.endReading_brings (hu.paper.trans hp)).2

/-- Reading goes on (R73). -/
theorem State.timed_reads (hs : p.state = .reading) (hl : ¬ p.readingLeft ≤ 1) :
    s.Brings q (some { p with readingLeft := p.readingLeft - 1 }) s.ticked s.timed := by
  refine State.timed_brings (State.tickRecords_brings (g := id) hb.cands (hb.mem_slots hp) (by simp [hs]) fun u hu => ?_).1
    (.inl fun x hx => ?_)
  · rw [State.tickPaper_reading (hu.paper.trans hp) hs, if_neg hl]
    exact (State.Spares.refl_some (hu.paper.trans hp)).modPaper fun x => { x with readingLeft := x.readingLeft - 1 }
  · obtain rfl := Option.some.inj hx
    simp [hs]

/-- Base end (R75, R77). -/
theorem State.timed_endsBase (hs : p.state = .writing) (hl : p.defn.writing ≤ p.elapsed + 1) {x : PaperState}
    (hx : x = if s.goingOn q = 0 then .closed else .extended) :
    s.Brings q (some { p.countAbsent (s.seatedCount q) with state := x, elapsed := p.elapsed + 1 })
      (fun c => (s.ticked c).toAbsent) s.timed ∧
    s.timed.Told ⟨s.hallTime, q, .paperState .writing x .second (p.elapsed + 1) p.readingLeft p.coll.admitted
      (p.coll.absent + s.seatedCount q) (s.goingOn q)⟩ := by
  have hcounts := State.clockCounts_of hp (.inl hs)
  have hstep : ∀ u, s.BeforePaper q u →
      u.Brings q (some { p.countAbsent (s.seatedCount q) with state := x, elapsed := p.elapsed + 1 }) Cand.toAbsent
        (u.tickPaper q) ∧
      (u.tickPaper q).Told ⟨s.hallTime, q, .paperState .writing x .second (p.elapsed + 1) p.readingLeft p.coll.admitted
        (p.coll.absent + s.seatedCount q) (s.goingOn q)⟩ := fun u hu => by
    have hu' := hu.paper.trans hp
    have hact : u.activeCount q = s.goingOn q := (hu.countCands _).trans (State.ticked_activeCount_of_counts hcounts)
    have hseated : u.seatedCount q = s.seatedCount q := State.seatedCount_ticked (p := p) (hp ▸ hu)
    have hmod := (State.Spares.refl_some hu').modPaper (fun x => { x with elapsed := x.elapsed + 1 })
    have hend := State.endBase_brings hmod.paper (x := x) (by rw [hx, ← hact]; rfl)
    rw [State.tickPaper_writing hu' hs, if_pos hl, ← hact, ← hseated, ← hu.hallTime]
    exact ⟨hmod.trans hend.1, hend.2⟩
  obtain ⟨hrec, htold⟩ := State.tickRecords_brings hb.cands (hb.mem_slots hp) (by simp only [hx]; split <;> exact nofun)
    fun u hu => (hstep u hu).1
  refine ⟨State.timed_brings hrec ?_, State.timed_told s (htold _ fun u hu => (hstep u hu).2)⟩
  by_cases hzero : s.goingOn q = 0
  · refine .inl fun y hy => ?_
    obtain rfl := Option.some.inj hy
    simp [hx, hzero]
  · refine .inr (.inl ?_)
    simpa only [Cand.toAbsent_active, State.ticked_activeCount_of_counts hcounts] using hzero

/-- Late entry closes before base end (R74). -/
theorem State.timed_closesLateEntry (hs : p.state = .writing) (hl : ¬ p.defn.writing ≤ p.elapsed + 1)
    (hc : p.elapsed = p.defn.lateCutoff) :
    s.Brings q (some { p.countAbsent (s.seatedCount q) with elapsed := p.elapsed + 1 }) (fun c => (s.ticked c).toAbsent)
      s.timed := by
  refine State.timed_brings (State.tickRecords_brings (g := Cand.toAbsent) hb.cands (hb.mem_slots hp) ?_ fun u hu => ?_).1
    (.inl fun x hx => ?_)
  · simp [Paper.countAbsent, hs]
  · have hu' := hu.paper.trans hp
    have hmod := (State.Spares.refl_some hu').modPaper (fun x => { x with elapsed := x.elapsed + 1 })
    have hseated : u.seatedCount q = s.seatedCount q := State.seatedCount_ticked (p := p) (hp ▸ hu)
    rw [State.tickPaper_writing hu' hs, if_neg hl, if_pos hc, ← hseated]
    exact hmod.trans (State.makeAbsent_brings hmod.paper)
  · obtain rfl := Option.some.inj hx
    simp [Paper.countAbsent, hs]

/-- Writing goes on (R74). -/
theorem State.timed_writes (hs : p.state = .writing) (hl : ¬ p.defn.writing ≤ p.elapsed + 1)
    (hc : p.elapsed ≠ p.defn.lateCutoff) :
    s.Brings q (some { p with elapsed := p.elapsed + 1 }) s.ticked s.timed := by
  refine State.timed_brings (State.tickRecords_brings (g := id) hb.cands (hb.mem_slots hp) (by simp [hs]) fun u hu => ?_).1
    (.inl fun x hx => ?_)
  · rw [State.tickPaper_writing (hu.paper.trans hp) hs, if_neg hl, if_neg hc]
    exact (State.Spares.refl_some (hu.paper.trans hp)).modPaper fun x => { x with elapsed := x.elapsed + 1 }
  · obtain rfl := Option.some.inj hx
    simp [hs]

/-- Before the closes, the paper of a slot that has no clock stands (R73, R74). -/
theorem State.tickRecords_stands (hs : p.state = .extended ∨ p.state = .closed ∨ p.state = .abandoned) :
    s.Brings q (some p) s.ticked s.tickRecords := by
  have hne : p.state ≠ .planned ∧ p.state ≠ .reading ∧ p.state ≠ .writing := by
    rcases hs with hs | hs | hs <;> simp [hs]
  obtain ⟨hplanned, hreading, hwriting⟩ := hne
  exact (State.tickRecords_brings (g := id) hb.cands (hb.mem_slots hp) hplanned fun u hu => by
    rw [State.tickPaper_stands (hu.paper.trans hp) hreading hwriting]
    exact State.Spares.refl_some (hu.paper.trans hp)).1

/-- A paper without a clock stands, but for the last finish of an EXTENDED one (R76). -/
theorem State.timed_stands (hs : p.state = .extended ∧ (s.goingOn q ≠ 0 ∨ s.activeCount q = 0) ∨ p.state = .closed ∨
    p.state = .abandoned) : s.Brings q (some p) s.ticked s.timed := by
  have hrec := State.tickRecords_stands hb hp (hs.imp_left And.left)
  refine State.timed_brings hrec ?_
  rcases hs with ⟨hs, hgo⟩ | hs | hs
  · rw [State.ticked_activeCount_of_counts (State.clockCounts_of hp (.inr hs))]
    exact .inr hgo
  all_goals
    refine .inl fun x hx => ?_
    obtain rfl := Option.some.inj hx
    simp [hs]

/-- The last finish of an EXTENDED paper at its second (R76, R77). -/
theorem State.timed_closes (hs : p.state = .extended) (hgo : s.goingOn q = 0) (hact : s.activeCount q ≠ 0) :
    s.Brings q (some { p.countAbsent (s.seatedCount q) with state := .closed }) (fun c => (s.ticked c).toAbsent) s.timed ∧
    s.timed.Told ⟨s.hallTime, q, .paperState .extended .closed .lastFinish p.elapsed p.readingLeft p.coll.admitted
      (p.coll.absent + s.seatedCount q) 0⟩ := by
  have hrec := (State.tickRecords_stands hb hp (.inl hs)).traceAllBy s.cands (s.eventCause .second)
  have hzero := State.ticked_activeCount_of_counts (State.clockCounts_of hp (.inr hs))
  have hlast : (s.tickRecords.traceAllBy s.cands (s.eventCause .second)).lastFinished q = true := by
    simp [State.lastFinished, hrec.paper, State.activeCount, hrec.countCands, hzero, hs, hgo]
  obtain ⟨u, hu, hu'⟩ := State.closeFinished_split (hb.mem_slots hp) hact hlast
  have hbefore := hrec.spared hu
  have hseated : u.seatedCount q = s.seatedCount q := State.seatedCount_ticked hbefore
  have hactive : u.activeCount q = 0 := (hbefore.countCands _).trans (hzero.trans hgo)
  obtain ⟨hclose, htold⟩ := State.closePaper_brings hbefore.paper
  rw [hseated] at hclose
  rw [hseated, hactive, hbefore.hallTime] at htold
  exact ⟨(hbefore.trans hclose).spared hu', hu'.told _ htold⟩

/-- A PLANNED paper whose scheduled start is not due (R72). -/
theorem State.timed_planned (hs : p.state = .planned) (hdue : s.startDue q = false) :
    s.Brings q (some p) s.ticked s.timed := by
  have hpapers := State.tickPapers_brings_planned hb.cands (q := q) fun x hx =>
    Option.some.inj (hx.symm.trans hp) ▸ hs
  have hdue' := (State.startDue_congr hpapers.toMoves hpapers.paper).trans hdue
  have hrec : s.Brings q (some p) s.ticked s.tickRecords := hp ▸ hpapers.spared (State.scheduledRecords_spares hdue')
  refine State.timed_brings hrec (.inl fun x hx => ?_)
  obtain rfl := Option.some.inj hx
  simp [hs]

/-- A scheduled start (R71, R72, R77). -/
theorem State.timed_starts (hs : p.state = .planned) (hdue : s.startDue q = true) {k : Nat}
    (hk : k = s.countCands q (fun c => c.state == .seated && c.present)) :
    s.Brings q (some (p.started k)) (fun c => (s.ticked c).started p.defn.reading) s.timed ∧
    s.timed.Told ⟨s.hallTime, q, .paperState .planned (if 0 < p.defn.reading then .reading else .writing) .schedule 0
      p.defn.reading (p.coll.admitted + k) p.coll.absent (s.activeCount q + k)⟩ := by
  have hpapers := State.tickPapers_brings_planned hb.cands (q := q) fun x hx =>
    Option.some.inj (hx.symm.trans hp) ▸ hs
  obtain ⟨u, hu, hu'⟩ := State.scheduledRecords_split (hb.mem_slots hp)
    ((State.startDue_congr hpapers.toMoves hpapers.paper).trans hdue)
  have hbefore : s.Brings q (some p) s.ticked u := hp ▸ hpapers.spared hu
  have hdesk : u.countCands q Cand.atDesk = k := (State.atDeskCount_ticked hbefore).trans hk.symm
  have hact : u.activeCount q = s.activeCount q := (hbefore.countCands _).trans
    (State.ticked_activeCount_of_not_counts (State.not_clockCounts_of hp (by simp [hs]) (by simp [hs])))
  have hstarted : u.countCands q (fun c => (c.started p.defn.reading).state.active) = s.activeCount q + k := by
    rw [State.countCands_add (Cand.started_active _) fun c ha => ?_, hdesk, ← hact]
    · rfl
    · cases hc : c.state <;> simp_all [CandState.active, Cand.atDesk]
  obtain ⟨hstart, htold⟩ := State.startRecords_brings hbefore.paper .schedule
  rw [hdesk] at hstart
  rw [hdesk, hstarted, hs, hbefore.hallTime] at htold
  refine ⟨State.timed_brings ((hbefore.trans hstart).spared hu') (.inl fun x hx => ?_),
    State.timed_told s (hu'.told _ htold)⟩
  obtain rfl := Option.some.inj hx
  simp only [Paper.started]
  split <;> exact nofun

end

/-- An UNDEFINED slot (R15). -/
theorem State.timed_undefined (hw : Table.wf n s.cands = true) (hp : s.paper q = none) :
    s.Brings q none s.ticked s.timed := by
  have hpapers := State.tickPapers_brings_planned hw (q := q) fun x hx => absurd (hp.symm.trans hx) nofun
  have hdue : (slots.foldl State.tickPaper s.tickedCands).startDue q = false := by
    simp [State.startDue, hpapers.paper, hp]
  have hrec : s.Brings q none s.ticked s.tickRecords := hp ▸ hpapers.spared (State.scheduledRecords_spares hdue)
  exact State.timed_brings hrec (.inl fun _ hx => nomatch hx)

end Sys2Proof.Machine
end

section
/-! PROOF. What the Collection Unit's part of an event leaves: of a candidate everything but DEFERRED, of a paper everything but its
collection state, cursor, target and timer, and at another slot these too (R120 to R126). -/

namespace Sys2Proof.Machine

variable {s t u : State} {q r i : Nat} {c : Cand} {p : Paper} {P : Nat → Prop} {f : Cand → Cand}

/-! ### The relation -/

/-- The record with the DEFERRED flag given. -/
def Cand.withDeferred (b : Bool) (c : Cand) : Cand := { c with flags := { c.flags with deferred := b } }

/-- The Collection Unit has worked from `s` to `t`, and not at the slots in `P`. -/
structure State.Collects (P : Nat → Prop) (s t : State) : Prop extends s.Moves t where
  papers : ∀ q p, s.paper q = some p → ∃ k, t.paper q = some { p with coll := k } ∧ k.admitted = p.coll.admitted ∧
    k.absent = p.coll.absent ∧ (P q → k = p.coll)
  deferral : ∀ i c, s.cand i = some c → ∃ b, t.cand i = some (c.withDeferred b)

theorem State.Collects.refl (s : State) : s.Collects P s := { State.Moves.refl s with
  papers := fun _ p hp => ⟨p.coll, hp, rfl, rfl, fun _ => rfl⟩
  deferral := fun _ c hc => ⟨c.flags.deferred, hc⟩ }

theorem State.Collects.trans (h : s.Collects P t) (h' : t.Collects P u) : s.Collects P u :=
  { h.toMoves.trans h'.toMoves with
    papers := fun q p hp => by
      obtain ⟨k, hk, hadm, habs, hsame⟩ := h.papers q p hp
      obtain ⟨k', hk', hadm', habs', hsame'⟩ := h'.papers q _ hk
      exact ⟨k', hk', hadm'.trans hadm, habs'.trans habs, fun hq => (hsame' hq).trans (hsame hq)⟩
    deferral := fun i c hc => by
      obtain ⟨b, hb⟩ := h.deferral i c hc
      obtain ⟨b', hb'⟩ := h'.deferral i _ hb
      exact ⟨b', hb'⟩ }

/-- At a slot where the Collection Unit has not worked the paper is the same. -/
theorem State.Collects.paper (h : s.Collects P t) (hq : P q) (hp : s.paper q = some p) : t.paper q = some p := by
  obtain ⟨k, hk, -, -, hsame⟩ := h.papers q p hp
  rw [hk, hsame hq]

namespace State.Collects

theorem ite {b : Prop} [Decidable b] (ht : b → s.Collects P t) (hu : ¬ b → s.Collects P u) :
    s.Collects P (if b then t else u) := by
  split
  · exact ht ‹_›
  · exact hu ‹_›

theorem foldl {α : Type} {k : State → α → State} {l : List α} (hk : ∀ t, ∀ a ∈ l, s.Collects P t → s.Collects P (k t a))
    (h : s.Collects P t) : s.Collects P (l.foldl k t) := by
  induction l generalizing t with
  | nil => exact h
  | cons a l ih => exact ih (fun t b hb => hk t b (List.mem_cons_of_mem a hb)) (hk t a List.mem_cons_self h)

variable (h : s.Collects P t)
include h

/-- A change of the link that keeps what was told. -/
theorem withLink {l : Link} (hl : ∀ m, t.Told m → ({ t with link := l } : State).Told m) :
    s.Collects P { t with link := l } :=
  h.trans { State.Collects.refl t with frame := rfl, told := hl }

theorem post (n : Nat) (b : NoticeBody) : s.Collects P (t.post n b) := h.withLink fun _ hm => hm.post n b

theorem pump : s.Collects P t.pump := h.withLink fun _ hm => hm.pump

theorem traceAll (b : Table Cand) (x : Cause) : s.Collects P (t.traceAll b x) := by
  refine foldl (fun u e _ hu => ?_) h
  split
  · exact .ite (fun _ => hu.post ..) fun _ => hu
  · exact hu

theorem defer (i : Nat) : s.Collects P (t.modCand i Cand.setDeferred) :=
  h.trans { State.Collects.refl t with
    frame := rfl
    told := fun _ => id
    deferral := fun j c hc => by
      rw [State.modCand_cand, hc]
      split
      · exact ⟨true, rfl⟩
      · exact ⟨c.flags.deferred, rfl⟩ }

theorem modColl (q : Nat) {f : Collecting → Collecting}
    (hf : ∀ k, (f k).admitted = k.admitted ∧ (f k).absent = k.absent := by exact fun _ => ⟨rfl, rfl⟩) (hq : ¬ P q) :
    s.Collects P (t.modColl q f) :=
  h.trans { State.Collects.refl (P := P) t with
    frame := rfl
    told := fun _ => id
    papers := fun r p hp => by
      have hr : (t.modColl q f).paper r = if r = q then (t.paper r).map (fun p => { p with coll := f p.coll }) else t.paper r :=
        State.modPaper_paper ..
      rw [hr, hp]
      split
      next e => exact ⟨f p.coll, rfl, (hf _).1, (hf _).2, fun hr => absurd (e ▸ hr) hq⟩
      next => exact ⟨p.coll, rfl, rfl, rfl, fun _ => rfl⟩ }

/-! ### The Collection Unit's operations, at a slot outside `P` -/

theorem passOver (i n : Nat) (b : Bool) (ps : List Passed) : s.Collects P (t.passOver i n b ps).1 := by
  unfold State.passOver
  split
  · exact h.defer i
  · exact h

theorem setTarget (hq : ¬ P q) (n : Nat) : s.Collects P (t.setTarget q n) := h.modColl q (hq := hq)

theorem resolveTarget (hq : ¬ P q) : s.Collects P (t.resolveTarget q) := h.modColl q (hq := hq)

omit h in
theorem walkOn (hq : ¬ P q) (fuel : Nat) (r : State × List Passed) (h : s.Collects P r.1) :
    s.Collects P (State.walkOn q fuel r).1 := by
  induction fuel generalizing r with
  | zero => exact h
  | succ fuel ih =>
    have hc : ∀ cursor, s.Collects P (r.1.modColl q fun c => { c with cursor := cursor }) := fun _ => h.modColl q (hq := hq)
    unfold State.walkOn
    split
    · exact h
    split
    · exact h
    dsimp only
    split
    · exact hc _
    split
    · exact (hc _).setTarget hq _
    · exact ih _ (hc _)
    · exact ih _ ((hc _).passOver ..)
    · exact ih _ ((hc _).passOver ..)

theorem postSkip (q : Nat) (p : Passed) : s.Collects P (t.postSkip q p) := .ite (fun _ => h.post ..) fun _ => h

theorem postDeferred (q : Nat) (b : Table Cand) (ps : List Passed) : s.Collects P (t.postDeferred q b ps) :=
  (foldl (fun _ p _ hu => hu.postSkip q p) h).traceAll ..

variable (hq : ¬ P q)
include hq

theorem findTarget : s.Collects P (t.findTarget q).1 := walkOn hq _ (t, []) h

theorem setColl (new : CollState) (x : CollCause) : s.Collects P (t.setColl q new x) := by
  unfold State.setColl
  split
  · exact h
  · exact .ite (fun _ => h) fun _ => (h.modColl q (hq := hq)).post ..

theorem settle (x : CollCause) : s.Collects P (t.settle q x) := by
  unfold State.settle
  split
  · exact h
  · exact .ite (fun _ => h.setColl hq ..) fun _ => h.setColl hq ..

theorem startCollection (x : CollCause) : s.Collects P (t.startCollection q x) := by
  unfold State.startCollection
  split
  · exact h
  · exact .ite (fun _ => h) fun _ => ((h.findTarget hq).postDeferred ..).settle hq ..

theorem skipTarget (x : SkipReason) : s.Collects P (t.skipTarget q x) := by
  unfold State.skipTarget
  split
  · exact h
  split
  · exact h
  split
  · exact h
  · exact (((((h.defer _).resolveTarget hq).findTarget hq).post ..).postDeferred ..).settle hq ..

theorem tickTarget : s.Collects P (t.tickTarget q) := by
  unfold State.tickTarget
  split
  · exact h
  · have ht := h.modColl q (f := fun c => { c with timer := min (c.timer + 1) Config.maxTimeout }) (hq := hq)
    exact .ite (fun _ => h) fun _ => .ite (fun _ => ht.skipTarget hq _) fun _ => ht

theorem tickCollection (b : State) : s.Collects P (b.tickCollection t q) :=
  .ite (fun _ => h.startCollection hq _) fun _ => h.tickTarget hq

end State.Collects

/-! ### The Collection Unit at its own slot -/

section
variable (hp : s.paper q = some p)
include hp

/-- Without a target or a collect timeout the timer stands (R124). -/
theorem State.tickTarget_stands (h : p.coll.target = none ∨ p.defn.collectTimeout = 0) : s.tickTarget q = s := by
  rcases h with h | h <;> simp [State.tickTarget, hp, h]

/-- The target timer counts (R124). -/
theorem State.tickTarget_counts (ht : p.coll.target ≠ none) (h : p.coll.timer + 1 < p.defn.collectTimeout) :
    s.tickTarget q = s.modColl q (fun k => { k with timer := min (k.timer + 1) 600 }) := by
  have hzero : p.defn.collectTimeout ≠ 0 := by omega
  simp [State.tickTarget, hp, ht, hzero, Nat.not_le.2 h, Config.maxTimeout]

theorem State.setColl_state (new : CollState) (x : CollCause) :
    ∃ p', (s.setColl q new x).paper q = some p' ∧ p'.coll.state = new := by
  simp only [State.setColl, hp]
  split
  next h => exact ⟨p, hp, h⟩
  next =>
    refine ⟨_, (State.paper_congr (State.post_papers ..) q).trans (State.modColl_paper_same hp), rfl⟩

theorem State.settle_notIdle (x : CollCause) : ∃ p', (s.settle q x).paper q = some p' ∧ p'.coll.state ≠ .idle := by
  have hset : ∀ new, new ≠ .idle → ∃ p', (s.setColl q new x).paper q = some p' ∧ p'.coll.state ≠ .idle := fun new hnew => by
    obtain ⟨p', hp', hst⟩ := State.setColl_state hp new x
    exact ⟨p', hp', hst ▸ hnew⟩
  simp only [State.settle, hp]
  split
  · exact hset _ nofun
  · exact hset _ (by split <;> exact nofun)

/-- A collection that is started is not IDLE (R121). -/
theorem State.startCollection_notIdle (x : CollCause) :
    ∃ p', (s.startCollection q x).paper q = some p' ∧ p'.coll.state ≠ .idle := by
  simp only [State.startCollection, hp]
  split
  next h => exact ⟨p, hp, h⟩
  next =>
    have hwalk := (((State.Collects.refl (P := fun _ => False) s).findTarget (q := q) id).postDeferred q s.cands
      (s.findTarget q).2)
    obtain ⟨k, hk, -⟩ := hwalk.papers q p hp
    exact State.settle_notIdle hk x

end

/-! ### The Collection Unit's part of a second event -/

/-- The Collection Unit's work at one slot, between its work at the slots before and after it. -/
theorem State.runSecond_split (hq : q ∈ slots) (s : State) :
    ∃ u, s.timed.Collects (· = q) u ∧ (s.tickCollection u q).Collects (· = q) s.runSecond :=
  foldl_split (R := fun s t => s.Collects (· = q) t) (f := State.tickCollection s) State.Collects.refl (fun _ _ _ => State.Collects.trans)
    List.nodup_range hq (fun u r hr => (State.Collects.refl u).tickCollection (q := r) hr s) s.timed

theorem State.runSecond_collects (s : State) : s.timed.Collects (fun _ => False) s.runSecond :=
  .foldl (fun _ _ _ hu => hu.tickCollection id s) (.refl _)

end Sys2Proof.Machine
end

section
/-! PROOF. The second event of a hall that is not held, whole: what it leaves of a paper and of its candidates, and what is told
(R67, R71 to R77, R81, R82, R89, R90, R121, R124). -/

namespace Sys2Proof.Machine

variable {s t u : State} {q i n : Nat} {c : Cand} {p p' : Paper} {f g : Cand → Cand}

/-! ### The commands (R67, log 3) -/

/-- The state in which a second event is taken: hall time has counted (R67). -/
def State.atSecond (s : State) : State := { s.pump with hallTime := nextTime s.hallTime }

/-- The state after a second event of a hall that is not held, the transmitter having chosen. -/
def State.afterSecond (s : State) : State := s.runSecond.pump

theorem State.atSecond_bounded (hb : s.Bounded) : s.atSecond.Bounded :=
  ((State.Keeps.refl s).pump.withHallTime (Nat.min_le_right ..)).bounded hb

theorem running_secondEvent (h : s.Running) : running State.secondEvent s = .next s.atSecond.afterSecond :=
  (running_high _ h.1).trans (congrArg (fun t : State => Host.Outcome.next t.pump)
    (State.secondEvent_running (s := s.pump) h.2))

/-- A labelled second event that is due is the second event (log 3). -/
theorem running_secondIf (h : s.Running) {due : State → Bool} (hdue : due s.pump = true) :
    running (fun t => t.secondIf (due t)) s = .next s.atSecond.afterSecond := by
  rw [← running_secondEvent h, running_high _ h.1, running_high _ h.1, hdue, State.secondIf_true]

/-! ### What is left of a candidate -/

/-- What the boundary that a paper reaches does to a candidate: nothing but to the state and used of those READING or SEATED, and
to a READING one only where the reading time ends (R71, R73 to R76). -/
structure AtBoundary (p : Option Paper) (f : Cand → Cand) : Prop where
  keeps : ∀ c, ∃ x k, f c = { c with state := x, used := k }
  reading : ∀ c, c.state = .reading → f c =
    if ∃ x, p = some x ∧ x.state = .reading ∧ x.readingLeft ≤ 1 then { c with state := .writing, used := 0 } else c
  other : ∀ c, c.state ≠ .seated → c.state ≠ .reading → f c = c

section
variable {o : Option Paper} (ho : ¬ ∃ x, o = some x ∧ x.state = .reading ∧ x.readingLeft ≤ 1)
include ho

theorem AtBoundary.none : AtBoundary o id := ⟨fun c => ⟨c.state, c.used, rfl⟩, fun _ _ => (if_neg ho).symm, fun _ _ _ => rfl⟩

/-- A boundary at which only SEATED candidates change. -/
theorem AtBoundary.of_seated (hk : ∀ c, ∃ x k, f c = { c with state := x, used := k }) (h : ∀ c, c.state ≠ .seated → f c = c) :
    AtBoundary o f :=
  ⟨hk, fun c hc => (h c (by simp [hc])).trans (if_neg ho).symm, fun c hc _ => h c hc⟩

theorem AtBoundary.toAbsent : AtBoundary o Cand.toAbsent :=
  .of_seated ho (fun c => by unfold Cand.toAbsent; split <;> exact ⟨_, _, rfl⟩) fun c hc => if_neg hc

theorem AtBoundary.started (r : Nat) : AtBoundary o (Cand.started r) :=
  .of_seated ho (fun c => by unfold Cand.started; split <;> exact ⟨_, _, rfl⟩) fun c hc =>
    if_neg fun h => hc (Cand.atDesk_iff.1 h).1

end

theorem AtBoundary.readingOver (hs : p.state = .reading) (hl : p.readingLeft ≤ 1) :
    AtBoundary (some p) Cand.readingOver where
  keeps c := by unfold Cand.readingOver; split <;> exact ⟨_, _, rfl⟩
  reading c hc := (if_pos hc).trans (if_pos ⟨p, rfl, hs, hl⟩).symm
  other c _ hc := if_neg hc

/-- What the second event's clocks leave of a paper, before the Collection Unit (R73 to R75). -/
structure Paper.ClockedTo (p p' : Paper) : Prop where
  defn : p'.defn = p.defn
  reads : p.state = .reading → 1 < p.readingLeft →
    p'.state = .reading ∧ p'.readingLeft = p.readingLeft - 1 ∧ p'.elapsed = p.elapsed
  writes : p.state = .writing → p.elapsed + 1 < p.defn.writing →
    p'.state = .writing ∧ p'.elapsed = p.elapsed + 1 ∧ p'.readingLeft = p.readingLeft
  stands : p.state = .extended ∨ p.state = .closed ∨ p.state = .abandoned →
    p'.elapsed = p.elapsed ∧ p'.readingLeft = p.readingLeft
  target : p'.coll.target = p.coll.target
  timer : p'.coll.timer = p.coll.timer

/-- Whatever boundary a paper reaches: its candidates and its clock. -/
theorem State.timed_defined (hb : s.Bounded) (hp : s.paper q = some p) : ∃ f p', AtBoundary (some p) f ∧ p.ClockedTo p' ∧
    s.Brings q (some p') (fun c => f (s.ticked c)) s.timed := by
  have hno : p.state ≠ .reading ∨ ¬ p.readingLeft ≤ 1 → ¬ ∃ x, some p = some x ∧ x.state = .reading ∧ x.readingLeft ≤ 1 := by
    rintro h ⟨x, hx, hs, hl⟩
    obtain rfl := Option.some.inj hx
    exact h.elim (· hs) (· hl)
  cases hs : p.state with
  | planned =>
    have hno := hno (.inl (by simp [hs]))
    cases hdue : s.startDue q with
    | false => exact ⟨_, p, .none hno, by constructor <;> simp [hs], State.timed_planned hb hp hs hdue⟩
    | true => exact ⟨_, _, .started hno _, by constructor <;> simp [hs, Paper.started], (State.timed_starts hb hp hs hdue rfl).1⟩
  | reading =>
    by_cases hl : p.readingLeft ≤ 1
    · exact ⟨_, _, .readingOver hs hl, by constructor <;> simp [hs]; omega, (State.timed_endsReading hb hp hs hl).1⟩
    · exact ⟨_, _, .none (hno (.inr hl)), by constructor <;> simp [hs], State.timed_reads hb hp hs hl⟩
  | writing =>
    have hno := hno (.inl (by simp [hs]))
    by_cases hl : p.defn.writing ≤ p.elapsed + 1
    · exact ⟨_, _, .toAbsent hno, by constructor <;> simp [hs, Paper.countAbsent]; omega,
        (State.timed_endsBase hb hp hs hl rfl).1⟩
    by_cases hc : p.elapsed = p.defn.lateCutoff
    · exact ⟨_, _, .toAbsent hno, by constructor <;> simp [hs, Paper.countAbsent], State.timed_closesLateEntry hb hp hs hl hc⟩
    · exact ⟨_, _, .none hno, by constructor <;> simp [hs], State.timed_writes hb hp hs hl hc⟩
  | extended =>
    have hno := hno (.inl (by simp [hs]))
    by_cases hlast : s.goingOn q = 0 ∧ s.activeCount q ≠ 0
    · exact ⟨_, _, .toAbsent hno, by constructor <;> simp [hs, Paper.countAbsent],
        (State.timed_closes hb hp hs hlast.1 hlast.2).1⟩
    · exact ⟨_, p, .none hno, by constructor <;> simp [hs],
        State.timed_stands hb hp (.inl ⟨hs, by tauto⟩)⟩
  | closed => exact ⟨_, p, .none (hno (.inl (by simp [hs]))), by constructor <;> simp [hs],
      State.timed_stands hb hp (.inr (.inl hs))⟩
  | abandoned => exact ⟨_, p, .none (hno (.inl (by simp [hs]))), by constructor <;> simp [hs],
      State.timed_stands hb hp (.inr (.inr hs))⟩

theorem State.timed_boundary (hb : s.Bounded) (q : Nat) : ∃ f o, AtBoundary (s.paper q) f ∧
    s.Brings q o (fun c => f (s.ticked c)) s.timed := by
  cases hp : s.paper q with
  | none => exact ⟨_, _, .none (by simp), State.timed_undefined hb.cands hp⟩
  | some p =>
    obtain ⟨f, p', hf, -, h⟩ := State.timed_defined hb hp
    exact ⟨f, some p', hf, h⟩

/-! ### What is left after the Collection Unit's part -/

theorem State.afterSecond_collects (s : State) : s.timed.Collects (fun _ => False) s.afterSecond :=
  s.runSecond_collects.pump

section
variable (hb : s.Bounded)
include hb

theorem State.timed_bounded : s.timed.Bounded :=
  (((State.Keeps.refl s).tickRecords.traceAllBy ..).closeFinished s).bounded hb

theorem State.afterSecond_moves : s.Moves s.afterSecond := by
  obtain ⟨f, o, -, h⟩ := State.timed_boundary hb 0
  exact h.toMoves.trans s.afterSecond_collects.toMoves

/-- The record of a candidate after the second event: what the Session Timer leaves of it, but for DEFERRED. -/
theorem State.afterSecond_cand {o : Option Paper} (h : s.Brings q o g s.timed) (hc : s.cand i = some c) (hq : c.paper = q) :
    ∃ b, s.afterSecond.cand i = some ((g c).withDeferred b) :=
  s.afterSecond_collects.deferral i _ (h.cand (State.timed_bounded hb).cands hc hq)

omit hb in
theorem State.afterSecond_paper (h : s.Brings q (some p') g s.timed) : ∃ k, s.afterSecond.paper q =
    some { p' with coll := k } ∧ k.admitted = p'.coll.admitted ∧ k.absent = p'.coll.absent := by
  obtain ⟨k, hk, hadm, habs, -⟩ := s.afterSecond_collects.papers q p' h.paper
  exact ⟨k, hk, hadm, habs⟩

/-- A notice that the Session Timer's part posts, with the hall time of the event. -/
theorem State.afterSecond_told {subject : Nat} {body : NoticeBody} (h : s.timed.Told ⟨s.hallTime, subject, body⟩) :
    s.afterSecond.Told ⟨s.afterSecond.hallTime, subject, body⟩ := by
  rw [(State.afterSecond_moves hb).hallTime]
  exact s.afterSecond_collects.told _ h

/-- From `s` to `t` other candidates' clocks have counted, not those of the candidate at index `i`. -/
def State.ClocksOthers (i : Nat) (s t : State) : Prop :=
  s.Bounded → t.Bounded ∧ s.Moves t ∧ t.papers = s.papers ∧ t.cand i = s.cand i

/-- A notice of the clock of one candidate: it is told after the event, whatever the other candidates' clocks do. -/
theorem State.afterSecond_told_of_cand (hc : s.cand i = some c) {subject : Nat} {body : NoticeBody}
    (h : ∀ u : State, u.Bounded → s.Moves u → u.papers = s.papers → u.cand i = some c →
      (u.tickCand i).Told ⟨s.hallTime, subject, body⟩) :
    s.afterSecond.Told ⟨s.afterSecond.hallTime, subject, body⟩ := by
  have hmem : i ∈ Table.keys s.cands := List.mem_map_of_mem (Table.get_mem hc)
  obtain ⟨u, hu, hu'⟩ := foldl_split (R := State.ClocksOthers i) (f := State.tickCand) (fun s hb => ⟨hb, .refl s, rfl, rfl⟩)
    (fun s t u h h' hb => by
      obtain ⟨hb1, hm1, hp1, hc1⟩ := h hb
      obtain ⟨hb2, hm2, hp2, hc2⟩ := h' hb1
      exact ⟨hb2, hm1.trans hm2, hp2.trans hp1, hc2.trans hc1⟩)
    (State.nodup_keys hb.cands) hmem (fun u j hj hb => ⟨((State.Keeps.refl u).tickCand j).bounded hb, .tickCand u j,
      State.tickCand_papers u j, by
        have hcand : (u.tickCand j).cand i = (u.modCand j u.ticked).cand i := State.cand_congr (State.tickCand_cands hb.cands j) i
        rw [hcand, State.modCand_cand, if_neg (Ne.symm hj)]⟩) s
  obtain ⟨hbu, hmu, hpu, hcu⟩ := hu hb
  obtain ⟨-, hlast, -⟩ := hu' (((State.Keeps.refl u).tickCand i).bounded hbu)
  have hticked : s.tickedCands.Told ⟨s.hallTime, subject, body⟩ := hlast.told _ (h u hbu hmu hpu (hcu.trans hc))
  have hrecords : s.tickRecords.Told ⟨s.hallTime, subject, body⟩ :=
    (State.Follows.foldl (P := fun _ => False) (l := slots) (fun _ q _ hu => hu.tickPaper q)
      (State.Follows.refl s.tickedCands)).scheduledRecords.told _ hticked
  exact State.afterSecond_told hb (State.timed_told s hrecords)

end

/-- At base end the Collection Unit starts the collection (R121). -/
theorem State.afterSecond_starts (hq : q ∈ slots) (hp : s.paper q = some p) (hs : p.state = .writing)
    (h : s.Brings q (some p') g s.timed) (hs' : p'.state ≠ .writing) {x : Paper} (hx : s.afterSecond.paper q = some x) :
    x.coll.state ≠ .idle := by
  obtain ⟨u, hu, hu'⟩ := State.runSecond_split hq s
  have hup := hu.paper rfl h.paper
  have hstart : s.tickCollection u q = u.startCollection q .baseEnd :=
    if_pos (by simp [State.paperWriting, hp, hs, hup, hs'])
  obtain ⟨y, hy, hidle⟩ := State.startCollection_notIdle hup .baseEnd
  have hy' := hu'.pump.paper rfl (hstart ▸ hy)
  exact Option.some.inj (hx.symm.trans hy') ▸ hidle

/-- At a slot without a base end the Collection Unit counts the target timer (R124). -/
theorem State.afterSecond_ticksTarget (hq : q ∈ slots) (hp : s.paper q = some p) (h : s.Brings q (some p') g s.timed)
    (hs : p.state = .writing → p'.state = .writing) :
    ∃ u : State, u.paper q = some p' ∧ (u.tickTarget q).Collects (· = q) s.afterSecond := by
  obtain ⟨u, hu, hu'⟩ := State.runSecond_split hq s
  have hup := hu.paper rfl h.paper
  refine ⟨u, hup, ?_⟩
  have hcount : s.tickCollection u q = u.tickTarget q :=
    if_neg (by simpa [State.paperWriting, hp, hup] using hs)
  exact hcount ▸ hu'.pump

/-- The target timer after a second event that does not expire it (R124). -/
theorem State.afterSecond_timer (hq : q ∈ slots) (hp : s.paper q = some p) (h : s.Brings q (some p') g s.timed)
    (hclock : p.ClockedTo p') (hs : ¬ (p.state = .writing ∧ p.defn.writing ≤ p.elapsed + 1)) {x : Paper}
    (hx : s.afterSecond.paper q = some x) :
    (p.coll.target = none ∨ p.defn.collectTimeout = 0 →
      x.coll.timer = p.coll.timer ∧ x.coll.target = p.coll.target) ∧
    (p.coll.target ≠ none → p.coll.timer + 1 < p.defn.collectTimeout →
      x.coll.timer = min (p.coll.timer + 1) 600 ∧ x.coll.target = p.coll.target) := by
  obtain ⟨u, hup, hu⟩ := State.afterSecond_ticksTarget hq hp h fun hw =>
    (hclock.writes hw (Nat.not_le.1 fun hle => hs ⟨hw, hle⟩)).1
  rw [← hclock.target, ← hclock.timer, ← hclock.defn]
  refine ⟨fun hstands => ?_, fun ht hlt => ?_⟩
  · rw [State.tickTarget_stands hup hstands] at hu
    rw [Option.some.inj (hx.symm.trans (hu.paper rfl hup))]
    exact ⟨rfl, rfl⟩
  · rw [State.tickTarget_counts hup ht hlt] at hu
    rw [Option.some.inj (hx.symm.trans (hu.paper rfl (State.modColl_paper_same hup)))]
    exact ⟨rfl, rfl⟩

end Sys2Proof.Machine
end

section
/-! PROOF. The boundaries of a paper's clock at a second event, by SECOND_EVENT and by the labelled commands (R71 to R77, R121). -/

namespace Sys2Proof.Machine

variable {s : State} {c : Cand} {q : Nat}

/-- The clocks of a candidate that is neither WRITING nor RESTING count its absence only (R81, R89). -/
theorem State.ticked_stands (hw : c.state ≠ .writing) (hr : c.state ≠ .resting) :
    s.ticked c = c.awayCounted s.hall.awayLimit :=
  congrArg (Cand.awayCounted _) (Cand.clocked_stands hw hr)

/-- A SEATED candidate of a paper whose late entry closes: its absence counts, and it is ABSENT (R74). -/
theorem State.ticked_toAbsent (h : c.state = .seated) :
    (s.ticked c).toAbsent = { c.awayCounted s.hall.awayLimit with state := .absent } := by
  rw [State.ticked_stands (by simp [h]) (by simp [h])]
  exact if_pos h

/-- Nobody goes on where no candidate of the paper is READING, RESTING, or WRITING with more than a second left (R75). -/
theorem State.goingOn_eq_zero_iff {n : Nat} (hw : Table.wf n s.cands = true) : s.goingOn q = 0 ↔
    ∀ i c, s.cand i = some c → c.paper = q →
      ¬ (c.state = .reading ∨ c.state = .resting ∨ c.state = .writing ∧ c.used + 1 < c.limit) := by
  rw [State.goingOn, State.countCands, List.countP_eq_zero]
  constructor
  · intro h i c hc hq hgo
    have := h (i, c) (Table.get_mem hc)
    simp [hq, hgo, or_assoc] at this
  · intro h e he
    have := h e.1 e.2 (Table.get_of_mem hw he)
    by_cases hq : e.2.paper = q
    · simpa [hq, or_assoc, not_or] using this hq
    · simp [hq]

end Sys2Proof.Machine

section
open Sys2Proof Sys2Proof.Machine

/-- Settles O16: the two boundaries, of a READING paper and of a PLANNED one. -/
theorem readingEndsAndScheduledStarts : Obligations.ReadingEndsAndScheduledStarts := by
  intro s slot p hrun hb hp
  have hbounded := State.atSecond_bounded hb
  refine ⟨fun hs hl => ?_, fun start hs hstart hle hjob => ?_⟩
  · have hdue : s.pump.readingEndDue slot = true := by simp [State.readingEndDue, hp, hs, hl, hrun.2]
    obtain ⟨hbrings, htold⟩ := State.timed_endsReading hbounded (s := s.atSecond) hp hs hl
    obtain ⟨k, hpaper, -, -⟩ := State.afterSecond_paper hbrings
    refine ⟨_, _, running_secondIf (due := (·.readingEndDue slot)) hrun hdue, hpaper, rfl, rfl, rfl, rfl, State.afterSecond_told hbounded htold,
      fun i c hc hq => ?_⟩
    obtain ⟨b, hcand⟩ := State.afterSecond_cand hbounded hbrings hc hq
    refine ⟨_, hcand, fun hx => ?_, fun hx => ?_⟩
    all_goals
      rw [State.ticked_stands (by simp [hx]) (by simp [hx])]
      simp [Cand.withDeferred, Cand.readingOver, Cand.awayCounted, hx]
  · have hstarts : s.atSecond.startDue slot = true :=
      State.startDue_iff_conditions.2 ⟨p, start, hp, hs, hstart, hle, hrun.2, hjob⟩
    have hfree : s.pump.allocating slot = false := by
      rw [← Bool.not_eq_true, State.allocating_iff]
      rintro ⟨j, hj, hq⟩
      exact hjob j hj hq
    have hdue : s.pump.scheduleDue slot = true := by
      have hle' : start ≤ nextTime s.hallTime := hle
      simp [State.scheduleDue, hfree, hp, hs, hstart, hle', hrun.2]
    obtain ⟨hbrings, htold⟩ := State.timed_starts hbounded (s := s.atSecond) hp hs hstarts rfl
    obtain ⟨k, hpaper, hadm, -⟩ := State.afterSecond_paper hbrings
    refine ⟨_, _, running_secondIf (due := (·.scheduleDue slot)) hrun hdue, hpaper, rfl, rfl, rfl, hadm, hadm ▸ State.afterSecond_told hbounded htold,
      fun i c hc hq hx => ?_⟩
    obtain ⟨b, hcand⟩ := State.afterSecond_cand hbounded hbrings hc hq
    refine ⟨_, hcand, ?_⟩
    rw [State.ticked_stands (by simp [hx]) (by simp [hx])]
    by_cases hpresent : c.present = true <;>
      simp [Cand.withDeferred, Cand.started, Cand.atDesk, Cand.awayCounted, hx, hpresent]

/-- Settles O17: a late close is base end where the cutoff is one below D, and a boundary of its own otherwise. -/
theorem lateEntryClosesAndBaseEnds : Obligations.LateEntryClosesAndBaseEnds := by
  intro s slot p hrun hb hp hs
  have hbounded := State.atSecond_bounded hb
  have habsent : ∀ {x : Paper}, s.atSecond.Brings slot (some x) (fun c => (s.atSecond.ticked c).toAbsent) s.atSecond.timed →
      ∀ i c, s.cand i = some c → c.paper = slot → c.state = .seated →
        ∃ c', s.atSecond.afterSecond.cand i = some c' ∧ c'.state = .absent ∧ c'.seat = c.seat ∧ c'.finish = c.finish := by
    intro x hbrings i c hc hq hx
    obtain ⟨b, hcand⟩ := State.afterSecond_cand hbounded hbrings hc hq
    rw [State.ticked_toAbsent hx] at hcand
    exact ⟨_, hcand, rfl, rfl, rfl⟩
  have hbase : p.defn.writing ≤ p.elapsed + 1 → s.pump.baseEndDue slot = true := fun hl => by
    simp [State.baseEndDue, hp, hs, hl, hrun.2]
  refine ⟨fun hcut hlt => ?_, fun hl => ?_⟩
  · have hdue : s.pump.lateCloseDue slot = true := by simp [State.lateCloseDue, hp, hs, hcut, hlt, hrun.2]
    have hexec := running_secondIf (due := (·.lateCloseDue slot)) hrun hdue
    have hsame : p.elapsed + 1 = p.defn.writing → exec (.lateEntryClose slot) s = exec (.baseEnd slot) s := fun he =>
      hexec.trans (running_secondIf (due := (·.baseEndDue slot)) hrun (hbase he.ge)).symm
    by_cases hl : p.defn.writing ≤ p.elapsed + 1
    · obtain ⟨hbrings, -⟩ := State.timed_endsBase hbounded (s := s.atSecond) hp hs hl rfl
      obtain ⟨k, hpaper, -, habs⟩ := State.afterSecond_paper hbrings
      exact ⟨_, _, hexec, hpaper, fun h => absurd hl (Nat.not_le.2 h), hsame, rfl, habs, habsent hbrings⟩
    · have hbrings := State.timed_closesLateEntry hbounded (s := s.atSecond) hp hs hl hcut
      obtain ⟨k, hpaper, -, habs⟩ := State.afterSecond_paper hbrings
      exact ⟨_, _, hexec, hpaper, fun _ => hs, hsame, rfl, habs, habsent hbrings⟩
  · obtain ⟨hbrings, htold⟩ := State.timed_endsBase hbounded (s := s.atSecond) hp hs hl rfl
    obtain ⟨k, hpaper, -, habs⟩ := State.afterSecond_paper hbrings
    have hidle := State.afterSecond_starts (s := s.atSecond) (hbounded.mem_slots hp) hp hs hbrings (by dsimp only; split <;> exact nofun) hpaper
    have hgo := State.goingOn_eq_zero_iff (s := s.atSecond) (q := slot) hb.cands
    refine ⟨_, _, running_secondIf (due := (·.baseEndDue slot)) hrun (hbase hl), hpaper, rfl, habs, fun ⟨i, c, hc, hq, hx⟩ => ?_, fun hnone => ?_,
      fun hlt => le_antisymm hlt hl, habs ▸ State.afterSecond_told hbounded htold, hidle, habsent hbrings⟩
    · exact if_neg fun hzero => hgo.1 hzero i c hc hq hx
    · exact if_pos (hgo.2 hnone)

end
end

section
/-! PROOF. What a second event leaves of each candidate and of an EXTENDED paper (R67, R73, R76, R81, R82, R89, R90). -/

namespace Sys2Proof.Machine

variable {s u : State} {c : Cand} {q i n : Nat} {p : Paper} {f : Cand → Cand}

/-! ### One record -/

section
variable (hcounts : s.clockCounts c.paper = true) (hs : c.state = .writing)
include hcounts hs

/-- The limit is reached (R81, R82). -/
theorem State.ticked_finishes (hl : c.limit ≤ c.used + 1) :
    s.ticked c = Cand.toFinished .time s.hallTime { c with used := c.used + 1 } := by
  rw [State.ticked, hcounts, Cand.clocked_finishes hs hl]
  rfl

/-- The candidate writes on (R81). -/
theorem State.ticked_writes (hl : ¬ c.limit ≤ c.used + 1) :
    s.ticked c = { c with used := c.used + 1 }.awayCounted s.hall.awayLimit := by
  rw [State.ticked, hcounts, Cand.clocked_writes hs hl]

end

/-- One second of a rest (R89). -/
theorem State.ticked_resting (hs : c.state = .resting) : s.ticked c =
    { c with
      restUsed := c.restUsed + 1
      state := if c.restBudget ≤ c.restUsed + 1 then .writing else .resting }.awayCounted s.hall.awayLimit :=
  congrArg (Cand.awayCounted _) (Cand.clocked_resting hs)

/-- The absence counts for every candidate that does not finish (R90). -/
theorem State.ticked_awayCount (h : ¬ (c.state = .writing ∧ c.limit ≤ c.used + 1)) :
    (s.ticked c).awayCount = if c.flags.away = true then min (c.awayCount + 1) 1800 else c.awayCount := by
  obtain ⟨hflags, hcount, -⟩ := Cand.clocked_away (counts := s.clockCounts c.paper) (time := s.hallTime) h
  simp only [State.ticked, Cand.awayCounted, hflags, hcount]

/-- An absence that reaches the away limit is marked as reported (R90). -/
theorem State.ticked_reported (h : ¬ (c.state = .writing ∧ c.limit ≤ c.used + 1)) (ha : c.flags.away = true)
    (hpos : 0 < s.hall.awayLimit) (hle : s.hall.awayLimit ≤ min (c.awayCount + 1) 1800) :
    (s.ticked c).flags = c.flags ∧ (s.ticked c).awayReported = true := by
  obtain ⟨hflags, hcount, -⟩ := Cand.clocked_away (counts := s.clockCounts c.paper) (time := s.hallTime) h
  refine ⟨hflags, ?_⟩
  simp only [State.ticked, Cand.awayCounted, hflags, hcount, ha, hpos, hle]
  simp

/-- The clocks count used of a WRITING candidate only (R81). -/
theorem Cand.clocked_used {counts : Bool} {time : Nat} (h : c.state = .writing → counts = true) :
    (c.clocked counts time).used = if c.state = .writing then c.used + 1 else c.used := by
  by_cases hs : c.state = .writing
  · rw [if_pos hs, h hs]
    by_cases hl : c.limit ≤ c.used + 1
    · rw [Cand.clocked_finishes hs hl]; rfl
    · rw [Cand.clocked_writes hs hl]
  · rw [if_neg hs]
    unfold Cand.clocked
    rw [if_neg fun hw => hs hw.1]
    split <;> rfl

/-! ### The labelled commands of a candidate's clock (log 3) -/

theorem State.limitDue_of (h : s.hold = none) (hc : s.cand i = some c) (hp : s.paper c.paper = some p) (hs : c.state = .writing)
    (hl : c.limit ≤ c.used + 1) (hstate : p.state = .writing ∨ p.state = .extended) : s.limitDue i = true := by
  simp [State.limitDue, h, hc, hs, hl, hp, hstate]

theorem State.restDue_of (h : s.hold = none) (hc : s.cand i = some c) (hs : c.state = .resting)
    (hl : c.restBudget ≤ c.restUsed + 1) : s.restDue i = true := by
  simp [State.restDue, h, hc, hs, hl]

theorem State.awayDue_of (h : s.hold = none) (hc : s.cand i = some c) (hgoes : ¬ (c.state = .writing ∧ c.limit ≤ c.used + 1))
    (ha : c.flags.away = true) (hrep : c.awayReported = false) (hpos : 0 < s.hall.awayLimit)
    (hle : s.hall.awayLimit ≤ min (c.awayCount + 1) 1800) : s.awayDue i = true := by
  have hlimit : s.limitDue i = false := by
    rw [← Bool.not_eq_true]
    intro hlimit
    simp only [State.limitDue, hc, Option.any_some, Bool.and_eq_true, decide_eq_true_eq] at hlimit
    exact hgoes hlimit.2.1
  simp [State.awayDue, hlimit, hc, h, ha, hrep, hpos, Config.maxAway, le_min_iff.1 hle]

/-! ### A candidate of whatever paper -/

/-- A candidate's record after the second event: its clocks, the boundary of its paper, and DEFERRED. -/
theorem State.afterSecond_boundary (hb : s.Bounded) (hc : s.cand i = some c) : ∃ f b, AtBoundary (s.paper c.paper) f ∧
    s.afterSecond.cand i = some ((f (s.ticked c)).withDeferred b) := by
  obtain ⟨f, o, hf, hbrings⟩ := State.timed_boundary hb c.paper
  obtain ⟨b, hcand⟩ := State.afterSecond_cand hb hbrings hc rfl
  exact ⟨f, b, hf, hcand⟩

/-- A candidate that its clocks leave neither SEATED nor READING meets no boundary of its paper (R73 to R76). -/
theorem State.afterSecond_ticked (hb : s.Bounded) (hc : s.cand i = some c) (hs : (s.ticked c).state ≠ .seated)
    (hr : (s.ticked c).state ≠ .reading) : ∃ b, s.afterSecond.cand i = some ((s.ticked c).withDeferred b) := by
  obtain ⟨f, b, hf, hcand⟩ := State.afterSecond_boundary hb hc
  exact ⟨b, hf.other _ hs hr ▸ hcand⟩

/-- The report of an absence, with used as the clock has left it (R90, log 4). -/
theorem State.tickCand_reportsAbsence (hw : Table.wf n s.cands = true) (hc : s.cand i = some c)
    (h : ¬ (c.state = .writing ∧ c.limit ≤ c.used + 1)) (hcounts : c.state = .writing → s.clockCounts c.paper = true)
    (ha : c.flags.away = true) (hrep : c.awayReported = false) (hpos : 0 < s.hall.awayLimit)
    (hle : s.hall.awayLimit ≤ min (c.awayCount + 1) 1800) :
    (s.tickCand i).Told ⟨s.hallTime, 0, .awayLong i c.seat (min (c.awayCount + 1) 1800)
      (if c.state = .writing then c.used + 1 else c.used)⟩ := by
  have hmoves := State.Moves.tickClock s i
  have hcand : (s.tickClock i).cand i = some (c.clocked (s.clockCounts c.paper) s.hallTime) := by
    rw [State.cand_congr (s := s.modCand i (fun c => c.clocked (s.clockCounts c.paper) s.hallTime))
      (State.tickClock_cands hw i), State.modCand_cand, if_pos rfl, hc]
    rfl
  obtain ⟨hflags, hcount, hreported⟩ := Cand.clocked_away (counts := s.clockCounts c.paper) (time := s.hallTime) h
  rw [State.tickCand, State.tickAway_away hcand (hflags ▸ ha), hmoves.hall, hcount, hreported,
    if_pos ⟨hpos, hle, hrep⟩, Cand.clocked_seat, Cand.clocked_used hcounts, ← hmoves.hallTime]
  exact State.post_told ..

/-! ### An EXTENDED paper -/

/-- The active candidates of a paper are those who go on and those whom the event finishes (R76). -/
theorem State.activeCount_eq_goingOn_add (s : State) (q : Nat) : s.activeCount q =
    s.goingOn q + s.countCands q (fun c => c.state == .writing && Decidable.decide (c.limit ≤ c.used + 1)) := by
  refine State.countCands_add (fun c => ?_) fun c hgo => ?_
  · have hsplit := Nat.lt_or_ge (c.used + 1) c.limit
    cases hs : c.state <;> simp [CandState.active, hsplit]
  · cases hs : c.state <;> simp_all

/-- The last finish closes an EXTENDED paper at its second, and without it the paper stays EXTENDED (R76, R77). -/
theorem State.afterSecond_extended (hb : s.Bounded) (hp : s.paper q = some p) (hs : p.state = .extended) {x : Paper}
    (hx : s.afterSecond.paper q = some x) :
    if s.goingOn q = 0 ∧ s.activeCount q ≠ 0 then
      x.state = .closed ∧ x.elapsed = p.elapsed ∧ x.readingLeft = p.readingLeft ∧
      x.coll.absent = p.coll.absent + s.seatedCount q ∧
      s.afterSecond.Told ⟨s.afterSecond.hallTime, q, .paperState .extended .closed .lastFinish p.elapsed p.readingLeft
        p.coll.admitted x.coll.absent 0⟩ ∧
      ∀ i c, s.cand i = some c → c.paper = q → c.state = .seated →
        ∃ c', s.afterSecond.cand i = some c' ∧ c'.state = .absent ∧ c'.seat = c.seat ∧ c'.finish = c.finish
    else
      x.state = .extended ∧ x.coll.absent = p.coll.absent ∧
      ∀ i c, s.cand i = some c → c.paper = q → c.state = .seated →
        ∃ c', s.afterSecond.cand i = some c' ∧ c'.state = .seated := by
  split
  next h =>
    obtain ⟨hbrings, htold⟩ := State.timed_closes hb hp hs h.1 h.2
    obtain ⟨k, hpaper, -, habs⟩ := State.afterSecond_paper hbrings
    obtain rfl := Option.some.inj (hx.symm.trans hpaper)
    refine ⟨rfl, rfl, rfl, habs, habs ▸ State.afterSecond_told hb htold, fun i c hc hq hseated => ?_⟩
    obtain ⟨b, hcand⟩ := State.afterSecond_cand hb hbrings hc hq
    rw [State.ticked_toAbsent hseated] at hcand
    exact ⟨_, hcand, rfl, rfl, rfl⟩
  next h =>
    have hbrings := State.timed_stands hb hp (.inl ⟨hs, by tauto⟩)
    obtain ⟨k, hpaper, -, habs⟩ := State.afterSecond_paper hbrings
    obtain rfl := Option.some.inj (hx.symm.trans hpaper)
    refine ⟨hs, habs, fun i c hc hq hseated => ?_⟩
    obtain ⟨b, hcand⟩ := State.afterSecond_cand hb hbrings hc hq
    exact ⟨_, hcand, State.ticked_seated.2 hseated⟩

end Sys2Proof.Machine

section
open Sys2Proof Sys2Proof.Machine

/-- Settles O18: the candidate meets no boundary of its paper, and its notice is that of its own clock. -/
theorem limitRestAndAwayReached : Obligations.LimitRestAndAwayReached := by
  intro s i c hrun hb hc
  have hbounded := State.atSecond_bounded hb
  have hcounts : ∀ p, s.paper c.paper = some p → p.state = .writing ∨ p.state = .extended →
      s.atSecond.clockCounts c.paper = true := fun p hp => State.clockCounts_of (s := s.atSecond) hp
  refine ⟨fun p hs hp hstate hl => ?_, fun hs hl => ?_, fun p ha hrep hpos hle hp hon => ?_⟩
  · have hdue := State.limitDue_of (s := s.pump) hrun.2 hc hp hs hl hstate
    have htick := State.ticked_finishes (hcounts p hp hstate) hs hl
    obtain ⟨b, hcand⟩ := State.afterSecond_ticked hbounded hc (by rw [htick]; nofun) (by rw [htick]; nofun)
    obtain ⟨f, p', -, -, hbrings⟩ := State.timed_defined (s := s.atSecond) hbounded hp
    obtain ⟨k, hpaper, -⟩ := State.afterSecond_paper hbrings
    have htime := (State.afterSecond_moves hbounded).hallTime
    rw [htick] at hcand
    refine ⟨_, _, _, running_secondIf (due := (·.limitDue i)) hrun hdue, hcand, rfl, rfl, by rw [htime]; rfl, rfl, rfl, rfl,
      hpaper, fun hx => ?_⟩
    have hactive : s.atSecond.activeCount c.paper ≠ 0 := fun hzero => by
      have := State.not_active_of_activeCount hzero hc rfl
      simp [hs, CandState.active] at this
    have hextended := State.afterSecond_extended (s := s.atSecond) hbounded hp hx hpaper
    by_cases hgo : s.goingOn c.paper = 0
    · rw [if_pos hgo]
      rwa [if_pos ⟨hgo, hactive⟩] at hextended
    · rw [if_neg hgo]
      rw [if_neg fun h => hgo h.1] at hextended
      exact ⟨hextended.1, hextended.2.1⟩
  · have hdue := State.restDue_of (s := s.pump) hrun.2 hc hs hl
    have htick := State.ticked_resting (s := s.atSecond) hs
    rw [if_pos hl] at htick
    obtain ⟨b, hcand⟩ := State.afterSecond_ticked hbounded hc (by rw [htick]; nofun) (by rw [htick]; nofun)
    rw [htick] at hcand
    refine ⟨_, _, running_secondIf (due := (·.restDue i)) hrun hdue, hcand, rfl, rfl, rfl,
      State.afterSecond_told_of_cand hbounded hc fun u _ hmoves _ hu => ?_⟩
    refine (State.Moves.tickAway (u.tickClock i) i).told _ ?_
    rw [State.tickClock_resting hu hs, if_pos hl, ← hmoves.hallTime]
    exact State.post_told ..
  · have hgoes : ¬ (c.state = .writing ∧ c.limit ≤ c.used + 1) := by
      rintro ⟨hs, hl⟩
      rcases hon with h | ⟨-, h⟩ | ⟨-, h⟩
      · exact h hs
      all_goals omega
    have hrunning : c.state = .writing → p.state = .writing ∨ p.state = .extended := by tauto
    have hdue := State.awayDue_of (s := s.pump) hrun.2 hc hgoes ha hrep hpos hle
    obtain ⟨f, b, hf, hcand⟩ := State.afterSecond_boundary hbounded hc
    obtain ⟨x, k, hkeeps⟩ := hf.keeps (s.atSecond.ticked c)
    obtain ⟨hflags, hreported⟩ := State.ticked_reported (s := s.atSecond) hgoes ha hpos hle
    rw [hkeeps] at hcand
    refine ⟨_, _, running_secondIf (due := (·.awayDue i)) hrun hdue, hcand, ?_,
      (State.ticked_awayCount hgoes).trans (if_pos ha), hreported,
      State.afterSecond_told_of_cand hbounded hc fun u hu hmoves hpapers hcu => ?_⟩
    · exact (congrArg CandFlags.away hflags).trans ha
    · rw [← hmoves.hallTime]
      refine State.tickCand_reportsAbsence hu.cands hcu hgoes (fun hs => ?_) ha hrep (hmoves.hall ▸ hpos)
        (hmoves.hall ▸ hle)
      exact State.clockCounts_of ((State.paper_congr hpapers _).trans hp) (hrunning hs)

end
end

section
/-! PROOF. The second event of a hall that is not held, for every paper and every candidate (R67). -/

namespace Sys2Proof.Machine

variable {s : State} {q : Nat} {f : Cand → Cand} {o : Option Paper}

theorem AtBoundary.frame (hf : AtBoundary o f) (c : Cand) : (f c).number = c.number ∧ (f c).paper = c.paper ∧
    (f c).limit = c.limit ∧ (f c).seat = c.seat ∧ (f c).restUsed = c.restUsed ∧ (f c).finish = c.finish ∧
    (f c).awayCount = c.awayCount := by
  obtain ⟨x, k, h⟩ := hf.keeps c
  rw [h]
  exact ⟨rfl, rfl, rfl, rfl, rfl, rfl, rfl⟩

/-- Where nobody goes on, the paper had an active candidate if and only if the event finishes one (R76). -/
theorem State.lastFinish_iff : (s.goingOn q = 0 ∧
      s.countCands q (fun c => c.state == .writing && Decidable.decide (c.limit ≤ c.used + 1)) ≠ 0) ↔
    s.goingOn q = 0 ∧ s.activeCount q ≠ 0 :=
  and_congr_right fun hzero => by rw [State.activeCount_eq_goingOn_add, hzero, Nat.zero_add]

end Sys2Proof.Machine

section
open Sys2Proof Sys2Proof.Machine

/-- Settles O15: each paper by its clock and the Collection Unit, each candidate by its clocks and its paper's boundary. -/
theorem secondEventCountsCandidates : Obligations.SecondEventCountsCandidates := by
  intro s hrun hb
  have hbounded := State.atSecond_bounded hb
  have hmoves := State.afterSecond_moves hbounded
  refine ⟨_, running_secondEvent hrun, hmoves.hallTime, hmoves.hold.trans hrun.2, hmoves.holdElapsed, fun slot p hp => ?_,
    fun i c hc => ?_⟩
  · obtain ⟨f, p', -, hclock, hbrings⟩ := State.timed_defined (s := s.atSecond) hbounded hp
    obtain ⟨k, hpaper, -, -⟩ := State.afterSecond_paper hbrings
    refine ⟨_, hpaper, hclock.defn, hclock.reads, hclock.writes, hclock.stands, fun hx => ?_, fun hbase =>
      State.afterSecond_timer (s := s.atSecond) (hbounded.mem_slots hp) hp hbrings hclock hbase hpaper⟩
    have hextended := State.afterSecond_extended (s := s.atSecond) hbounded hp hx hpaper
    by_cases hlast : s.atSecond.goingOn slot = 0 ∧ s.atSecond.activeCount slot ≠ 0
    · rw [if_pos hlast] at hextended
      obtain ⟨hstate, -, -, habs, htold, hseated⟩ := hextended
      rw [if_pos (State.lastFinish_iff (s := s).2 hlast)]
      refine ⟨hstate, habs, htold, fun i c hc hq hs => ?_⟩
      obtain ⟨c', hc', habsent, -, hfinish⟩ := hseated i c hc hq hs
      exact ⟨c', hc', habsent, hfinish⟩
    · rw [if_neg hlast] at hextended
      rw [if_neg fun h => hlast (State.lastFinish_iff (s := s).1 h)]
      exact hextended
  · obtain ⟨f, b, hf, hcand⟩ := State.afterSecond_boundary hbounded hc
    obtain ⟨hnumber, hpaper, hlimit, hseat, hrest, hfinish, hcount⟩ := hf.frame (s.atSecond.ticked c)
    refine ⟨_, hcand, hnumber.trans (Cand.clocked_number ..), hpaper.trans (Cand.clocked_paper ..),
      hlimit.trans (Cand.clocked_limit ..), hseat.trans (Cand.clocked_seat ..), fun hs ⟨p, hp, hstate⟩ => ?_,
      fun h => hcount.trans (State.ticked_awayCount h), fun hs => ?_, fun hs => ?_, fun hs => ?_⟩
    · have hcounts := State.clockCounts_of (s := s.atSecond) hp hstate
      by_cases hl : c.limit ≤ c.used + 1
      · have htick := State.ticked_finishes hcounts hs hl
        rw [hf.other _ (by rw [htick]; nofun) (by rw [htick]; nofun), htick, if_pos hl]
        exact ⟨rfl, rfl, rfl, rfl, rfl, rfl⟩
      · have htick := State.ticked_writes hcounts hs hl
        have hstill : (s.atSecond.ticked c).state = .writing := by rw [htick]; exact hs
        rw [hf.other _ (by simp [hstill]) (by simp [hstill]), htick, if_neg hl]
        exact ⟨rfl, rfl, hs, rfl⟩
    · have htick := State.ticked_stands (s := s.atSecond) (c := c) (by simp [hs]) (by simp [hs])
      rw [htick] at hrest hfinish ⊢
      refine ⟨hrest, hfinish, fun p hp => ?_⟩
      rw [hf.reading (c.awayCounted _) hs]
      split
      next hends =>
        rw [if_pos ⟨p, hp, hends⟩]
        exact ⟨rfl, rfl⟩
      next hends =>
        rw [if_neg fun ⟨x, hx, h⟩ => hends (Option.some.inj (hx.symm.trans hp) ▸ h)]
        exact ⟨hs, rfl⟩
    · have htick := State.ticked_resting (s := s.atSecond) hs
      obtain ⟨hseated, hreading⟩ : (s.atSecond.ticked c).state ≠ .seated ∧ (s.atSecond.ticked c).state ≠ .reading := by
        rw [htick]
        dsimp only [Cand.awayCounted]
        split <;> exact ⟨nofun, nofun⟩
      rw [hf.other _ hseated hreading, htick]
      exact ⟨rfl, rfl, rfl, rfl⟩
    · obtain ⟨hseated, hreading, hwriting, hresting⟩ :
          c.state ≠ .seated ∧ c.state ≠ .reading ∧ c.state ≠ .writing ∧ c.state ≠ .resting := by
        rcases hs with h | h | h | h | h | h <;> simp [h]
      rw [State.ticked_stands hwriting hresting, hf.other (c.awayCounted _) hseated hreading]
      exact ⟨rfl, rfl, rfl, rfl⟩

end
end

section
/-! PROOF. The hold that runs out: every running paper is abandoned, the hold ends, and the Collection Unit takes the reports
(R86, R96, R121, log 31). -/

namespace Sys2Proof.Machine

variable {s : State} {q i : Nat} {c : Cand} {p : Paper} {cause : HoldCause}

/-- The running papers of a hall, in ascending slot (R96). -/
abbrev State.runningSlots (s : State) : List Nat := slots.filter s.paperRunning

/-- The notice of the hold that runs out (R96). -/
def State.noticeExpiry (s : State) (cause : HoldCause) : State :=
  s.post 0 (.holdExpired cause s.holdElapsed s.runningSlots)

/-- The hold that runs out, with the abandonments and without the scheduled starts (R86, R96). -/
def State.holdOver (s : State) (cause : HoldCause) : State :=
  { s.runningSlots.foldl (fun x slot => x.abandonRecords slot .holdExpiry) (s.noticeExpiry cause) with hold := none }

/-- The state that an expired hold leaves to the Collection Unit (R72, R96, log 31). -/
def State.expired (s : State) (cause : HoldCause) : State :=
  (s.holdOver cause).scheduledRecords.traceAllBy s.cands (s.eventCause .holdExpiry)

theorem State.mem_runningSlots (hb : s.Bounded) (hp : s.paper q = some p) (hr : p.state.running = true) :
    q ∈ s.runningSlots :=
  List.mem_filter.2 ⟨hb.mem_slots hp, by simpa [State.paperRunning, hp] using hr⟩

theorem State.expired_bounded (hb : s.Bounded) (cause : HoldCause) : (s.expired cause).Bounded :=
  (((State.Keeps.foldl (s := s) (fun _ q hu => hu.abandonRecords q .holdExpiry)
    ((State.Keeps.refl s).post 0 (.holdExpired cause s.holdElapsed s.runningSlots)) s.runningSlots).withHold
    none).scheduledRecords.traceAllBy s.cands (s.eventCause .holdExpiry)).bounded hb

/-- After its notice, the expiry moves candidates, papers and notices, and ends the hold (R96). -/
theorem State.expired_moves (s : State) (cause : HoldCause) :
    { s.noticeExpiry cause with hold := none }.Moves (s.expired cause) := by
  have hne : ∀ {test : Nat → Bool}, ∀ r ∈ slots.filter test, r ≠ 8 := fun r hr =>
    (mem_slots.1 (List.mem_filter.1 hr).1).ne
  have hover : { s.noticeExpiry cause with hold := none }.Spares 8 (s.holdOver cause) :=
    (State.Brings.foldl (fun _ r hr hu => hu.abandonRecords_other (hne r hr) .holdExpiry) (State.Spares.refl 8 _)).withHold none
  have hstarts : { s.noticeExpiry cause with hold := none }.Spares 8 (s.holdOver cause).scheduledRecords :=
    .foldl (fun _ r hr hu => hu.startRecords_other (hne r hr) .schedule) hover
  exact (hstarts.traceAllBy s.cands (s.eventCause .holdExpiry)).toMoves

/-- A running paper when the hold expires (R86, R96). -/
theorem State.expired_abandons (hb : s.Bounded) (hp : s.paper q = some p) (hr : p.state.running = true) :
    { s with hold := none }.Brings q (some { p.countAbsent (s.seatedCount q) with state := .abandoned })
      (Cand.abandoned s.hallTime) (s.expired cause) ∧
    (s.expired cause).Told ⟨s.hallTime, q, .paperState p.state .abandoned .holdExpiry p.elapsed p.readingLeft p.coll.admitted
      (p.coll.absent + s.seatedCount q) 0⟩ := by
  have hpost : s.Spares q (s.noticeExpiry cause) := (State.Spares.refl q s).post ..
  obtain ⟨u, hu, hu'⟩ := foldl_split (R := fun s t => s.Spares q t) (f := fun x slot => x.abandonRecords slot .holdExpiry)
    (State.Spares.refl q) (fun _ _ _ => State.Spares.trans) (List.nodup_range.filter _) (State.mem_runningSlots hb hp hr)
    (fun u _ hr => (State.Spares.refl q u).abandonRecords_other hr _) (s.noticeExpiry cause)
  have hbefore : s.Spares q u := hpost.spared hu
  have hseated : u.seatedCount q = s.seatedCount q := hbefore.countCands _
  obtain ⟨habandon, htold⟩ := State.abandonRecords_brings (hbefore.paper.trans hp) .holdExpiry
  rw [hseated, hbefore.hallTime] at habandon htold
  have hover := ((State.Brings.trans hbefore habandon).spared hu').withHold none
  have hdue : (s.holdOver cause).startDue q = false := by
    have hpaper : (s.holdOver cause).paper q = _ := hover.paper
    simp [State.startDue, hpaper]
  have hstarts := State.scheduledRecords_spares hdue
  have htrace := (State.Spares.refl q (s.holdOver cause).scheduledRecords).traceAllBy s.cands (s.eventCause .holdExpiry)
  exact ⟨(hover.spared hstarts).spared htrace, htrace.told _ (hstarts.told _ (hu'.told _ htold))⟩

/-! ### The Collection Unit's part -/

theorem State.expireHold_collects (s : State) (cause : HoldCause) :
    (s.expired cause).Collects (fun _ => False) (s.expireHold cause).pump :=
  (State.Collects.foldl (fun _ _ _ hu => hu.startCollection id _) (.refl _)).pump

/-- The collection of a paper that is abandoned starts (R121). -/
theorem State.expireHold_starts (hq : q ∈ s.runningSlots) (hp : (s.expired cause).paper q = some p) {x : Paper}
    (hx : (s.expireHold cause).pump.paper q = some x) : x.coll.state ≠ .idle := by
  obtain ⟨u, hu, hu'⟩ := foldl_split (R := fun s t => s.Collects (· = q) t)
    (f := fun x slot => State.startCollection x slot .abandon) State.Collects.refl (fun _ _ _ => State.Collects.trans)
    (List.nodup_range.filter _) hq (fun u r hr => (State.Collects.refl u).startCollection (q := r) hr _) (s.expired cause)
  obtain ⟨y, hy, hidle⟩ := State.startCollection_notIdle (hu.paper rfl hp) .abandon
  exact Option.some.inj (hx.symm.trans (hu'.pump.paper rfl hy)) ▸ hidle

/-! ### A candidate of an abandoned paper (R86) -/

theorem Cand.abandoned_used (n : Nat) (c : Cand) : (c.abandoned n).used = c.used := by
  unfold Cand.abandoned Cand.toAbsent
  split_ifs <;> rfl

theorem Cand.abandoned_of_active {n : Nat} (h : c.state.active = true) : c.abandoned n = c.toFinished .abandoned n := if_pos h

theorem Cand.abandoned_of_seated {n : Nat} (h : c.state = .seated) : c.abandoned n = { c with state := .absent } :=
  (if_neg (by rw [h]; exact Bool.false_ne_true)).trans (if_pos h)

/-! ### The command (log 3) -/

/-- The state in which a hold runs out: hall time and hold elapsed have counted (R67, R94). -/
def State.atExpiry (s : State) : State :=
  { s.pump with hallTime := nextTime s.hallTime, holdElapsed := min (s.holdElapsed + 1) Config.maxHold }

theorem State.atExpiry_bounded (hb : s.Bounded) : s.atExpiry.Bounded :=
  (((State.Keeps.refl s).pump.withHallTime (Nat.min_le_right ..)).withHoldElapsed (Nat.min_le_right ..)).bounded hb

/-- HOLD_EXPIRED is due where hold elapsed reaches the hold limit (R96). -/
theorem exec_holdExpired (hlow : s.resetLow = false) (hhold : s.hold = some cause) (hpos : 0 < s.hall.holdLimit)
    (hle : s.hall.holdLimit ≤ min (s.holdElapsed + 1) 7200) :
    exec .holdExpired s = .next (s.atExpiry.expireHold cause).pump := by
  have hdue : s.pump.expiryDue = true := by simp [State.expiryDue, hhold, hpos, Config.maxHold, le_min_iff.1 hle]
  have hevent : s.pump.secondEvent = s.atExpiry.expireHold cause :=
    (State.secondEvent_held (s := s.pump) hhold).trans (if_pos ⟨hpos, hle⟩)
  refine (running_high (fun t => t.secondIf t.expiryDue) hlow).trans ?_
  rw [hdue, State.secondIf_true, hevent]

end Sys2Proof.Machine

section
open Sys2Proof Sys2Proof.Machine

/-- Settles O19: the abandonment in each running paper's slot, and after it the Collection Unit's part. -/
theorem holdExpiryAbandonsRunningPapers : Obligations.HoldExpiryAbandonsRunningPapers := by
  intro s cause hlow hb hhold hpos hle
  have hbounded := State.atExpiry_bounded hb
  have hcollects := s.atExpiry.expireHold_collects cause
  have hmoves := (s.atExpiry.expired_moves cause).trans hcollects.toMoves
  have htime : (s.atExpiry.expireHold cause).pump.hallTime = s.atExpiry.hallTime := hmoves.hallTime
  have helapsed : (s.atExpiry.expireHold cause).pump.holdElapsed = s.atExpiry.holdElapsed := hmoves.holdElapsed
  refine ⟨_, exec_holdExpired hlow hhold hpos hle, hmoves.hold, helapsed, htime, ?_, fun slot p hp hstate => ?_⟩
  · rw [htime, helapsed]
    exact hmoves.told _ (State.post_told ..)
  have hr : p.state.running = true := by rcases hstate with h | h | h <;> rw [h] <;> rfl
  obtain ⟨hbrings, htold⟩ := State.expired_abandons (s := s.atExpiry) (cause := cause) hbounded hp hr
  obtain ⟨k, hpaper, -, habs, -⟩ := hcollects.papers slot _ hbrings.paper
  refine ⟨⟨_, hpaper, rfl, rfl, rfl, fun _ => ?_, habs, ?_⟩, fun i c hc hq => ?_⟩
  · exact State.expireHold_starts (s := s.atExpiry) (State.mem_runningSlots (s := s.atExpiry) hbounded hp hr) hbrings.paper
      hpaper
  · rw [htime, habs]
    exact hcollects.told _ htold
  · obtain ⟨b, hcand⟩ := hcollects.deferral i _ (hbrings.cand (State.expired_bounded hbounded cause).cands hc hq)
    refine ⟨_, hcand, Cand.abandoned_used .., fun hs => ?_, fun hs => ?_⟩
    · have hactive : c.state.active = true := by rcases hs with h | h | h <;> rw [h] <;> rfl
      rw [Cand.abandoned_of_active hactive, htime]
      exact ⟨rfl, rfl⟩
    · rw [Cand.abandoned_of_seated hs]
      rfl

end
end

section
/-! PROOF. The regular polls of the seat loop: when one is sent, its bytes, and the lamp it carries (R98 to R102, R116 to R118). -/

namespace Sys2Proof.Machine

variable {s : State} {n : Nat} {x : Seat} {r : LoopRec} {c : Cand} {p : Paper}

/-! ### The poll (R98 to R101) -/

/-- The check byte of a poll makes its four bytes sum to 0xFF (R100). -/
theorem add_checkByte (a b c : Byte) : a + b + c + checkByte [a, b, c] = 0xFF := by
  simp [checkByte, add_assoc]

theorem State.seatPoll_of_passList {rest : List Nat} (hw : s.window = none) (hs : s.sweep = none) (hc : s.closing = [])
    (hp : s.passList = n :: rest) : s.seatPoll = s.sendPoll n rest := by
  simp [State.seatPoll, hw, hs, hc, hp]

/-- With a window open, a sweep or a closing poll due, or an empty list there is no poll to send (R98, R99, log 5). -/
theorem State.seatPoll_idle (h : s.window ≠ none ∨ s.sweep ≠ none ∨ s.closing ≠ [] ∨ s.passList = []) :
    s.seatPoll = s := by
  unfold State.seatPoll
  split
  · rfl
  next hdue =>
    have hempty : s.passList = [] := by
      rcases h with h | h | h | h
      · simp [Option.isSome_iff_ne_none, h] at hdue
      · simp [Option.isSome_iff_ne_none, h] at hdue
      · simp [h] at hdue
      · exact h
    rw [hempty]

/-! ### The lamp (R85, R116 to R118) -/

theorem State.targetOf_isSome_iff : (s.targetOf n).isSome = true ↔ ∃ e ∈ s.papers, e.2.coll.target = some n := by
  simp [State.targetOf, List.find?_isSome]

theorem State.pollLamp_faulty (hx : s.seat n = some x) (h : x.state = .faulty) : s.pollLamp n = ⟨.off, false⟩ := by
  simp only [State.pollLamp, hx, h]
  rfl

theorem State.pollLamp_enabled (hx : s.seat n = some x) (h : x.state = .enabled) :
    s.pollLamp n = LampCmd.of (s.enabledLamp n x) := by
  simp only [State.pollLamp, hx, h]

/-- WARN_B blinks, WARN_A and WRITE do not (R85, R118). -/
theorem lampCmd_warningLamp (p : Paper) (c : Cand) : LampCmd.of (warningLamp p c) =
    if c.limit - c.used ≤ p.defn.warnB then ⟨.warnB, true⟩
    else if c.limit - c.used ≤ p.defn.warnA then ⟨.warnA, false⟩ else ⟨.write, false⟩ := by
  unfold warningLamp
  split_ifs <;> rfl

theorem State.stateLamp_writing (hp : s.paper c.paper = some p) (h : c.state = .writing) :
    s.stateLamp c = warningLamp p c := by
  simp [State.stateLamp, h, hp]

theorem State.stateLamp_finished (h : c.state = .finished ∨ c.state = .collected ∨ c.state = .missing ∨
    c.state = .markPending ∨ c.state = .marked) : s.stateLamp c = .finished := by
  rcases h with h | h | h | h | h <;> simp only [State.stateLamp, h]

section
variable (hr : s.loop n = some r)
include hr

theorem State.enabledLamp_called (h : r.call ≠ none) : s.enabledLamp n x = .called := by
  simp [State.enabledLamp, hr, Option.isSome_iff_ne_none, h]

/-- Without a call the hold comes first, then a walk that waits at the seat, then the occupant (R116). -/
theorem State.enabledLamp_uncalled (h : r.call = none) : s.enabledLamp n x =
    if s.hold ≠ none then .hold
    else if ∃ e ∈ s.papers, e.2.coll.target = some n then .collect
    else (x.occupant.bind s.cand).elim .idle s.stateLamp := by
  simp only [State.enabledLamp, hr, Option.any_some, h, Option.isSome_none, Bool.false_eq_true, if_false,
    ← State.targetOf_isSome_iff, Option.isSome_iff_ne_none (o := s.hold)]

end

end Sys2Proof.Machine

section
open Sys2Proof Sys2Proof.Machine

/-- Settles O47: the poll by what is due, its bytes by the check byte, and the lamp by R116's order. -/
theorem seatPollSendsTheLamp : Obligations.SeatPollSendsTheLamp := by
  refine ⟨rfl, fun s n rest hlow hw hs hc hp => ?_, fun s hlow h => ?_, fun s n x r hx hr =>
    ⟨State.pollLamp_faulty hx, fun hen => ?_⟩⟩
  · refine ⟨_, add_checkByte .., (running_high State.seatPoll hlow).trans ?_⟩
    rw [State.seatPoll_of_passList (s := s.pump) hw hs hc hp]
    rfl
  · refine (running_high State.seatPoll hlow).trans ?_
    rw [State.seatPoll_idle (s := s.pump) h, State.pump_pump]
  · rw [State.pollLamp_enabled hx hen]
    refine ⟨fun hcall => ?_, fun hcall hhold => ?_, fun hcall hhold htarget => ?_, fun hcall hhold htarget => ?_⟩
    · rw [State.enabledLamp_called hr hcall]
      rfl
    all_goals rw [State.enabledLamp_uncalled hr hcall]
    · rw [if_pos hhold]
      rfl
    · rw [if_neg (not_not.2 hhold), if_pos htarget]
      rfl
    · rw [if_neg (not_not.2 hhold), if_neg fun ⟨e, he, ht⟩ => htarget e he ht]
      refine ⟨fun ho => ?_, fun i c p ho hc hp => ?_⟩
      · rw [ho]
        rfl
      · rw [ho, Option.bind_some, hc, Option.elim_some]
        refine ⟨fun h => ?_, fun h => ?_, fun h => ?_, fun h => ?_, fun h => ?_, fun h => ?_⟩
        · simp only [State.stateLamp, h]
          rfl
        · simp only [State.stateLamp, h]
          rfl
        · rw [State.stateLamp_writing hp h, lampCmd_warningLamp]
        · simp only [State.stateLamp, h]
          rfl
        · simp only [State.stateLamp, h]
          rfl
        · rw [State.stateLamp_finished h]
          rfl

end
end

section
/-! PROOF. Three bytes in a reply window: the conditioning of the inputs, and what a good reply writes before its edges are decoded
(R98 to R108, R113). -/

namespace Sys2Proof.Machine

variable {s : State} {n i : Nat} {x : Seat} {r : LoopRec} {c : Cand} {b0 b1 b2 : Byte} {raw : RawInputs}

/-! ### Conditioning (R105 to R107) -/

theorem InputConf.active_eq (conf : InputConf) (raw : Bool) : conf.active raw = (raw != (conf.polarity == .activeLow)) := by
  obtain ⟨polarity, _⟩ := conf
  cases polarity <;> cases raw <;> rfl

/-- The first `k` elements of a list that long are all `a`. -/
theorem forall_mem_take_iff {α : Type} {l : List α} {a : α} {k : Nat} (hk : k ≤ l.length) :
    (∀ y ∈ l.take k, y = a) ↔ ∀ j, j < k → l[j]? = some a := by
  rw [List.forall_mem_iff_getElem]
  simp only [List.length_take, min_eq_left hk, List.getElem_take]
  refine forall₂_congr fun j hj => ?_
  rw [List.getElem?_eq_getElem (hj.trans_le hk), Option.some_inj]

/-- The newest `k` of at most four samples are `k` samples that agree with the newest (R106). -/
theorem newest_agree_iff (a : Bool) (hist : List Bool) (k : Nat) :
    ((((a :: hist).take 4).take k).length = k ∧ (((a :: hist).take 4).take k).all (· == a)) ↔
      k ≤ (a :: hist.take 3).length ∧ ∀ j, j < k → (a :: hist)[j]? = some a := by
  rw [List.length_take, min_eq_left_iff, List.all_eq_true]
  simp only [beq_iff_eq]
  refine and_congr_right fun hk => (forall_mem_take_iff hk).trans (forall₂_congr fun j hj => ?_)
  rw [List.getElem?_take_of_lt (hj.trans_le (hk.trans (List.length_take_le ..)))]

/-- One sample joins the history, and the conditioned state follows `k` samples that agree (R105, R106). -/
theorem InputRec.sample_cond (conf : InputConf) (bit : Bool) (y : InputRec) : (y.sample conf bit).cond =
    if conf.debounce ≤ (conf.active bit :: y.hist.take 3).length ∧
        (∀ k, k < conf.debounce → (conf.active bit :: y.hist)[k]? = some (conf.active bit)) then
      (if conf.active bit then .active else .inactive)
    else y.cond :=
  if_congr (newest_agree_iff ..) rfl rfl

/-- The loop record after a good reply: taken afresh under the fresh-take mark, else sampled (R105, R107). -/
def LoopRec.heard (hall : Hall) (raw : RawInputs) (r : LoopRec) : LoopRec :=
  if r.fresh then r.taken hall raw else r.sampled hall raw

/-- An input of a loop record after a good reply: taken afresh, or sampled (R105, R107). -/
def InputRec.heard (fresh : Bool) (conf : InputConf) (bit : Bool) (y : InputRec) : InputRec :=
  if fresh then InputRec.take conf bit else y.sample conf bit

/-- All that a good reply makes of a loop record (R103, R105, R107). -/
theorem LoopRec.heard_eq (hall : Hall) (raw : RawInputs) (r : LoopRec) : r.heard hall raw = { r with
    misses := 0
    presentIn := r.presentIn.heard r.fresh hall.presentConf raw.present
    doneIn := r.doneIn.heard r.fresh hall.doneConf raw.done
    callIn := r.callIn.heard r.fresh hall.callConf raw.call
    keyIn := r.keyIn.heard r.fresh hall.keyConf raw.key
    fresh := false
    answered := r.answered && !r.fresh } := by
  obtain ⟨misses, presentIn, doneIn, callIn, keyIn, fresh, call, answered, lamp⟩ := r
  cases fresh
  · simp [LoopRec.heard, InputRec.heard, LoopRec.sampled]
  · simp [LoopRec.heard, InputRec.heard, LoopRec.taken]

/-! ### A traced change and the present level (R5, R14) -/

theorem State.changeCand_id (cause : Cause) : s.changeCand i id cause = s := by
  have hmod : s.modCand i id = s := by simp [State.modCand, Table.modify]
  rcases State.changeCand_cases (s := s) i id cause with ⟨-, h⟩ | ⟨c, -, h⟩
  · exact h
  · rw [h, if_neg (by simp [traced]), hmod]

/-- A WATCH_TRACE does not give the present level: its change before a traced change shows in none (R14). -/
theorem State.changeCand_present (hc : s.cand i = some c) (level : Bool) (f : Cand → Cand) (cause : Cause) :
    (s.modCand i (fun d => { d with present := level })).changeCand i f cause =
      s.changeCand i (fun d => f { d with present := level }) cause := by
  simp only [State.changeCand, State.modCand_cand, hc, if_true, Option.map_some, State.modCand_modCand]
  rfl

/-! ### What a good reply writes before its edges (R5, R107, R113) -/

/-- At a seat without an occupant nothing but the loop record is written. -/
theorem State.replyWrites_vacant {w : Prop} [Decidable w] (ho : s.occupantOf n = none) :
    (if w then s else s.writePresent n).clearStaleCall n = s := by
  have hp : s.writePresent n = s := State.forOccupant_none ho
  rw [hp, ite_self, State.clearStaleCall, State.forOccupant_none ho, ite_self]

/-- The CALL flag of an occupant stays set only with a pending call (R113). -/
theorem State.clearStaleCall_occupied (ho : s.occupantOf n = some i) (hr : s.loop n = some r) : s.clearStaleCall n =
    s.changeCand i (fun d => { d with flags := { d.flags with call := d.flags.call && r.call.isSome } }) .call := by
  rw [State.clearStaleCall, hr, Option.any_some, State.forOccupant_some ho]
  cases r.call with
  | none =>
    simp only [Option.isSome_none, Bool.and_false]
    rfl
  | some =>
    simp only [Option.isSome_some, Bool.and_true, if_true]
    exact (State.changeCand_id .call).symm

/-- The occupant takes the present level where it is written, and loses a CALL flag without a call (R5, R107, R113). -/
theorem State.replyWrites_occupied {w : Prop} [Decidable w] (ho : s.occupantOf n = some i) (hr : s.loop n = some r)
    (hc : s.cand i = some c) :
    (if w then s else s.writePresent n).clearStaleCall n = s.changeCand i (fun d => { d with
      present := if w then d.present else r.presentIn.cond == .active
      flags := { d.flags with call := d.flags.call && r.call.isSome } }) .call := by
  by_cases h : w
  · simp only [if_pos h, State.clearStaleCall_occupied ho hr]
  · have hp : s.writePresent n = s.modCand i (fun d => { d with present := r.presentIn.cond == .active }) := by
      rw [State.writePresent, State.forOccupant_some ho, State.seatPresent_eq, hr, Option.any_some]
    simp only [if_neg h, hp]
    rw [State.clearStaleCall_occupied (s := s.modCand ..) ho hr, State.changeCand_present hc]

/-! ### The reply (R98, R102 to R108) -/

/-- The bytes of a closing poll's window, and those after bad ones, are discarded (R98, R102, log 37). -/
theorem State.goodReply_discarded {closing spoiled : Bool} (hw : s.window = some ⟨n, closing, spoiled⟩)
    (h : (closing || spoiled) = true) : s.goodReply b0 b1 b2 = s := by
  simp only [State.goodReply, hw, h, if_true]

theorem State.goodReply_good (hw : s.window = some ⟨n, false, false⟩) (h : replyGood n b0 b1 b2 = true) :
    s.goodReply b0 b1 b2 = s.endWindow.takeReply n (RawInputs.of b1) := by
  simp [State.goodReply, hw, h]

theorem State.goodReply_bad (hw : s.window = some ⟨n, false, false⟩) (h : ¬ replyGood n b0 b1 b2 = true) :
    s.goodReply b0 b1 b2 = { s with window := some ⟨n, false, true⟩ } := by
  simp [State.goodReply, hw, h]

section
variable (hx : s.seat n = some x) (hr : s.loop n = some r)
include hx hr

/-- From a FAULTY seat only the miss count is written (R104). -/
theorem State.takeReply_faulty (h : x.state = .faulty) :
    s.takeReply n raw = s.modLoop n (fun q => { q with misses := 0 }) := by
  simp only [State.takeReply, hx, hr, h]
  rfl

omit hx in
/-- A change of a loop record writes what it makes of the record that is there. -/
theorem State.modLoop_of_loop (hb : s.Bounded) (f : LoopRec → LoopRec) : s.modLoop n f = s.modLoop n (fun _ => f r) := by
  have hf : Table.modify s.loops n f = Table.modify s.loops n (fun _ => f r) :=
    Table.modify_congr hb.loops fun v hv => by rw [Option.some.inj (hv.symm.trans hr)]
  simp only [State.modLoop, hf]

/-- At an ENABLED seat: the loop record, what the record of the occupant takes from it, and, when sampled, the edges
(R105 to R108). -/
theorem State.takeReply_enabled (hb : s.Bounded) (h : x.state = .enabled) {r' : LoopRec} (hr' : r.heard s.hall raw = r')
    {u v : State} (hu : u = s.modLoop n (fun _ => r'))
    (hv : v = (if r.fresh = false ∧ r.presentIn.cond = r'.presentIn.cond then u else u.writePresent n).clearStaleCall n) :
    s.takeReply n raw = if r.fresh then v else v.decodeEdges n r r' := by
  have hreply : s.takeReply n raw = s.enabledReply n r raw := by simp only [State.takeReply, hx, hr, h]
  rw [hreply, State.enabledReply, hv, hu, ← hr']
  cases hf : r.fresh
  · have hheard : r.heard s.hall raw = r.sampled s.hall raw := by simp [LoopRec.heard, hf]
    simp [hheard, State.modLoop_of_loop hr hb]
  · have hheard : r.heard s.hall raw = r.taken s.hall raw := by simp [LoopRec.heard, hf]
    simp [hheard, State.modLoop_of_loop hr hb]

end

end Sys2Proof.Machine

section
open Sys2Proof Sys2Proof.Machine

/-- Settles O49: the window's bytes by what came before them, then the reply by the seat's state. -/
theorem goodReplySamplesTheInputs : Obligations.GoodReplySamplesTheInputs := by
  intro s u0 n b0 b1 b2 hlow hb hsum hseat hu0
  have hgood : replyGood n b0 b1 b2 = true := (replyGood_iff ..).2 ⟨hsum, hseat⟩
  have hend : u0 = s.pump.endWindow := by
    rw [hu0, State.endWindow_eq]
    rfl
  have hbounded : u0.Bounded := hend ▸ (State.Keeps.refl s).pump.endWindow.bounded hb
  have hexec : ∀ c0 c1 c2, exec (.goodReply c0 c1 c2) s = .next (s.pump.goodReply c0 c1 c2).pump := fun _ _ _ =>
    running_high (fun t => t.goodReply _ _ _) hlow
  clear hu0
  refine ⟨fun spoiled hw => ?_, fun hw => ?_, fun x r hw hx hr => ?_, fun hw c0 c1 c2 hbad => ?_⟩
  · rw [hexec, State.goodReply_discarded (s := s.pump) hw rfl, State.pump_pump]
  · rw [hexec, State.goodReply_discarded (s := s.pump) hw rfl, State.pump_pump]
  · have hx0 : u0.seat n = some x := (State.seat_congr (by simp [hend]) n).trans hx
    have hr0 : u0.loop n = some r := (State.loop_congr (by simp [hend]) n).trans hr
    have hhall : u0.hall = s.hall := by simp [hend]
    have hreply : exec (.goodReply b0 b1 b2) s = .next (u0.takeReply n (RawInputs.of b1)).pump := by
      rw [hexec, State.goodReply_good (s := s.pump) hw hgood, hend]
    rw [hreply]
    refine ⟨fun h => by rw [State.takeReply_faulty hx0 hr0 h], fun h => ?_⟩
    have hheard := r.heard_eq s.hall (RawInputs.of b1)
    refine ⟨r.heard s.hall (RawInputs.of b1), by rw [hheard], by rw [hheard], by rw [hheard], by rw [hheard],
      by rw [hheard], fun conf y y' bit a hmem ha => ?_, fun u v hu hv => ?_⟩
    · have hy : y' = y.heard r.fresh conf bit ∧ conf.active bit = a := by
        refine ⟨?_, (conf.active_eq bit).trans ha.symm⟩
        rw [hheard] at hmem
        simp only [List.mem_cons, Prod.mk.injEq, List.not_mem_nil, or_false] at hmem
        rcases hmem with ⟨rfl, rfl, rfl, rfl⟩ | ⟨rfl, rfl, rfl, rfl⟩ | ⟨rfl, rfl, rfl, rfl⟩ | ⟨rfl, rfl, rfl, rfl⟩ <;> rfl
      obtain ⟨rfl, rfl⟩ := hy
      refine ⟨fun hf => ?_, fun hf => ?_⟩
      · rw [hf]
        exact ⟨rfl, rfl⟩
      · rw [hf]
        exact ⟨rfl, y.sample_cond conf bit⟩
    · have hr' : u.loop n = some (r.heard s.hall (RawInputs.of b1)) := by simp [hu, hr0]
      have hcall : (r.heard s.hall (RawInputs.of b1)).call = r.call := by rw [hheard]
      have hocc : u.occupantOf n = x.occupant := State.occupantOf_seat (hu ▸ hx0)
      rw [State.takeReply_enabled hx0 hr0 hbounded h (hhall ▸ rfl) hu]
      rcases hv with ⟨ho, rfl⟩ | ⟨i, c, ho, hc, rfl⟩
      · exact (State.replyWrites_vacant (hocc.trans ho)).symm
      · have hc' : u.cand i = some c := (State.cand_congr (by simp [hu, hend]) i).trans hc
        rw [State.replyWrites_occupied (hocc.trans ho) hr' hc', hcall]
  · have hnot : ¬ replyGood n c0 c1 c2 = true := by
      rw [replyGood_iff, not_and_or]
      exact hbad
    rw [hexec, State.goodReply_bad (s := s.pump) hw hnot]
    exact congrArg _ (State.pump_eq_self_of_link (s := s) rfl)

end
end

section
/-! PROOF. The transmit queue and the Sheet Records under the reader's operations: behind the message being sent at most one FEED,
one GEOMETRY and nine DIVERTs without a record, and for each DECIDED record at most one DIVERT (R137, R140, R143). -/

namespace Sys2Proof.Machine

variable {r r' r'' : Reader} {e : Nat}

/-! ### The states of the open records -/

/-- The state of the open record in an entry (R143). -/
def Reader.sheetState (r : Reader) (e : Nat) : Option SheetState := (Table.get r.records e).map SheetRec.state

/-- The entries of the open records whose DIVERTs stand in a list of messages. -/
abbrev divertEntries (ms : List TxMsg) : List Nat := ms.filterMap TxMsg.entry?

/-- The part of `State.Filed` that belongs to the reader, with the canonical form of its records (R137, R140, R143). -/
structure Reader.Filed (r : Reader) : Prop where
  canonical : Table.wf Config.sheetRecords r.records = true
  feeds : r.queued.countP TxMsg.isFeed ≤ 1
  geometries : r.queued.countP TxMsg.isGeometry ≤ 1
  unrecorded : r.queued.countP TxMsg.isUnrecorded ≤ 9
  diverts : (divertEntries r.tx).Nodup
  decided : ∀ e ∈ divertEntries r.tx, r.sheetState e = some .decided
  bound : r.bound = none → r.records = []

theorem mem_divertEntries {ms : List TxMsg} : e ∈ divertEntries ms ↔ ∃ m ∈ ms, m.entry? = some e := List.mem_filterMap

theorem Reader.sheetState_decided :
    r.sheetState e = some .decided ↔ ∃ x, Table.get r.records e = some x ∧ x.state = .decided := by
  simp [Reader.sheetState]

/-- A record that is not DECIDED has no DIVERT. -/
theorem Reader.Filed.not_mem (h : r.Filed) (he : r.sheetState e ≠ some .decided) : e ∉ divertEntries r.tx :=
  fun hm => he (h.decided e hm)

/-! ### Operations that leave the queue and the states of the records -/

/-- From `r` to `r'` the queue, the bound paper, the entries in use and the states of the records stand. -/
structure Reader.Alike (r r' : Reader) : Prop where
  tx : r'.tx = r.tx
  bound : r'.bound = r.bound
  keys : Table.keys r'.records = Table.keys r.records
  sheetState : r'.sheetState = r.sheetState

theorem Reader.Alike.refl (r : Reader) : r.Alike r := ⟨rfl, rfl, rfl, rfl⟩

theorem Reader.Alike.trans (h : r.Alike r') (h' : r'.Alike r'') : r.Alike r'' :=
  ⟨h'.tx.trans h.tx, h'.bound.trans h.bound, h'.keys.trans h.keys, h'.sheetState.trans h.sheetState⟩

theorem Reader.Filed.alike (h : r.Filed) (ha : r.Alike r') : r'.Filed where
  canonical := by simpa only [Table.wf, ha.keys] using h.canonical
  feeds := by simpa only [Reader.queued, ha.tx] using h.feeds
  geometries := by simpa only [Reader.queued, ha.tx] using h.geometries
  unrecorded := by simpa only [Reader.queued, ha.tx] using h.unrecorded
  diverts := ha.tx ▸ h.diverts
  decided := by simpa only [ha.tx, ha.sheetState] using h.decided
  bound hb := List.map_eq_nil_iff.1 (ha.keys.trans (by rw [h.bound (ha.bound ▸ hb)]; rfl))

/-- A change of one record is a change of its state where it is open. -/
theorem Reader.sheetState_modify (f : SheetRec → SheetRec) {g : SheetState → SheetState}
    (hf : ∀ x, (f x).state = g x.state) (k : Nat) :
    ({ r with records := Table.modify r.records e f } : Reader).sheetState k =
      if k = e then (r.sheetState k).map g else r.sheetState k := by
  simp only [Reader.sheetState, Table.get_modify]
  split
  · simp [Function.comp_def, hf]
  · rfl

/-- A change of a record that keeps its state. -/
theorem Reader.Alike.modRecord (r : Reader) (e : Nat) {f : SheetRec → SheetRec} (hf : ∀ x, (f x).state = x.state) :
    r.Alike { r with records := Table.modify r.records e f } where
  tx := rfl
  bound := rfl
  keys := Table.keys_modify ..
  sheetState := by
    funext k
    rw [Reader.sheetState_modify f (g := id) hf]
    simp

theorem Reader.Alike.setBuffer (r : Reader) (b : Nat) (x : BufState) : r.Alike (r.setBuffer b x) := by
  unfold Reader.setBuffer Reader.modBuffer
  split <;> exact ⟨rfl, rfl, rfl, rfl⟩

theorem Reader.Alike.moveSamples (r : Reader) (b : Nat) : r.Alike (r.moveSamples b) := by
  unfold Reader.moveSamples Reader.modBuffer
  dsimp only
  split <;> exact ⟨rfl, rfl, rfl, rfl⟩

theorem Reader.Alike.clearFifo (r : Reader) : r.Alike r.clearFifo := ⟨rfl, rfl, rfl, rfl⟩

theorem Reader.Alike.disown (r : Reader) (g : Nat) : r.Alike (r.disown g) := by
  unfold Reader.disown
  split
  · exact .clearFifo r
  · exact .refl r

theorem Reader.Alike.release (r : Reader) (b : Nat) : r.Alike (r.release b) := by
  unfold Reader.release
  have hb := Reader.Alike.setBuffer r b .filling
  split
  next e _ _ =>
    have hm := Reader.Alike.modRecord r e (f := fun x => { x with buffer := some b }) fun _ => rfl
    exact ⟨hb.tx, hb.bound, hm.keys, hm.sheetState⟩
  next => exact .setBuffer r b .free

theorem Reader.Alike.releaseOf (r : Reader) (b : Option Nat) : r.Alike (r.releaseOf b) := by
  unfold Reader.releaseOf
  split
  · exact .refl r
  · split
    · exact .refl r
    · exact .release r _

/-! ### Operations on the queue (R140) -/

theorem feedIn_eq_none {ms : List TxMsg} (h : feedIn ms = none) : ms.countP TxMsg.isFeed = 0 := by
  induction ms with
  | nil => rfl
  | cons m ms ih =>
    cases m with
    | feed go => cases h
    | geometry mask n rows => simpa [TxMsg.isFeed] using ih h
    | divert d => simpa [TxMsg.isFeed] using ih h

/-- A message that joins the back counts behind the message being sent, if there is one. -/
theorem countP_tail_append (p : TxMsg → Bool) (ms : List TxMsg) (m : TxMsg) :
    (ms ++ [m]).tail.countP p ≤ ms.tail.countP p + if p m then 1 else 0 := by
  cases ms with
  | nil => exact Nat.zero_le _
  | cons a ms => simp [List.countP_append, List.countP_cons]

namespace Reader.Filed

variable (h : r.Filed)
include h

/-- Messages leave the queue. -/
theorem subqueue {ms : List TxMsg} (hs : ms.Sublist r.tx) (ht : ms.tail.Sublist r.tx.tail) :
    ({ r with tx := ms } : Reader).Filed where
  canonical := h.canonical
  feeds := ht.countP_le.trans h.feeds
  geometries := ht.countP_le.trans h.geometries
  unrecorded := ht.countP_le.trans h.unrecorded
  diverts := h.diverts.sublist (hs.filterMap _)
  decided e he := h.decided e ((hs.filterMap _).subset he)
  bound := h.bound

/-- The message being sent has left. -/
theorem pop : ({ r with tx := r.tx.tail } : Reader).Filed := h.subqueue (List.tail_sublist _) (List.tail_sublist _)

theorem popTx (m : TxMsg) : (r.popTx m).Filed := { h.pop with }

/-- A message that is no record's DIVERT joins the back. -/
theorem push {m : TxMsg} (he : m.entry? = none) (hf : m.isFeed = true → r.queued.countP TxMsg.isFeed = 0)
    (hg : m.isGeometry = true → r.queued.countP TxMsg.isGeometry = 0) (hu : m.isUnrecorded = true → r.tx.length ≤ 9) :
    (r.push m).Filed := by
  have hd : divertEntries (r.tx ++ [m]) = divertEntries r.tx := by simp [he]
  have hone : ∀ p : TxMsg → Bool, (p m = true → r.queued.countP p = 0) → r.queued.countP p ≤ 1 →
      (r.tx ++ [m]).tail.countP p ≤ 1 := fun p hp hle => by
    refine (countP_tail_append p r.tx m).trans ?_
    split
    next hm => exact (congrArg (· + 1) (hp hm)).le
    next => exact hle
  refine { h with
    feeds := hone _ hf h.feeds
    geometries := hone _ hg h.geometries
    unrecorded := ?_
    diverts := hd ▸ h.diverts
    decided := fun e hm => h.decided e (hd ▸ hm) }
  by_cases hm : m.isUnrecorded = true
  · have hlen : (r.tx ++ [m]).tail.length = r.tx.length := by simp
    exact List.countP_le_length.trans (hlen.trans_le (hu hm))
  · refine (countP_tail_append _ r.tx m).trans ?_
    rw [if_neg hm]
    exact h.unrecorded

/-- Messages not begun are replaced by others of their kind, the DIVERTs by themselves. -/
theorem mapQueued {f : TxMsg → TxMsg} (hf : ∀ m, (f m).isFeed = m.isFeed ∧ (f m).isGeometry = m.isGeometry ∧
    (f m).isUnrecorded = m.isUnrecorded ∧ (f m).entry? = m.entry?) : (r.modQueued (List.map f)).Filed := by
  unfold Reader.modQueued
  split
  · exact h
  next m ms htx =>
    have hq : r.queued = ms := congrArg List.tail htx
    have hcount : ∀ p : TxMsg → Bool, (∀ x, p (f x) = p x) → (ms.map f).countP p = r.queued.countP p := fun p hp => by
      rw [List.countP_map, hq]
      exact List.countP_congr fun x _ => by simp [hp]
    have hd : divertEntries (m :: ms.map f) = divertEntries r.tx := by
      rw [htx, divertEntries, divertEntries, List.filterMap_cons, List.filterMap_cons, List.filterMap_map]
      simp only [Function.comp_def, fun x => (hf x).2.2.2]
    exact { h with
      feeds := (hcount _ fun x => (hf x).1).le.trans h.feeds
      geometries := (hcount _ fun x => (hf x).2.1).le.trans h.geometries
      unrecorded := (hcount _ fun x => (hf x).2.2.1).le.trans h.unrecorded
      diverts := hd ▸ h.diverts
      decided := fun e hm => h.decided e (hd ▸ hm) }

/-- Messages not begun are taken out of the queue. -/
theorem filterQueued (p : TxMsg → Bool) : (r.modQueued (List.filter p)).Filed := by
  unfold Reader.modQueued
  split
  · exact h
  next m ms htx =>
    exact h.subqueue (htx ▸ List.filter_sublist.cons_cons m) (by rw [htx]; exact List.filter_sublist)

theorem updateFeed : r.updateFeed.Filed := by
  unfold Reader.updateFeed
  dsimp only
  split
  · split_ifs
    · exact h
    · exact h.filterQueued _
    · exact h.mapQueued fun m => by cases m <;> exact ⟨rfl, rfl, rfl, rfl⟩
  next hq =>
    split_ifs
    · exact h
    · exact h.push rfl (fun _ => feedIn_eq_none hq) nofun nofun

theorem makeGeometry (f : Format) : (r.makeGeometry f).Filed := by
  unfold Reader.makeGeometry
  dsimp only
  split
  · exact h.mapQueued fun m => by cases m <;> exact ⟨rfl, rfl, rfl, rfl⟩
  next hq => exact h.push rfl nofun (fun _ => List.countP_eq_zero.2 (by simpa using hq)) nofun

/-- A record that is not DECIDED becomes so, and its DIVERT joins the queue behind the message being sent. -/
theorem decide {ms : List TxMsg} {d : Divert} {f : SheetRec → SheetRec} (hf : ∀ x, (f x).state = .decided)
    (hd : d.entry = some e) {st : SheetState} (hst : r.sheetState e = some st) (hne : st ≠ .decided)
    (hp : ms.Perm (.divert d :: r.tx))
    (ht : ∀ p : TxMsg → Bool, p (.divert d) = false → ms.tail.countP p = r.queued.countP p) :
    ({ r with records := Table.modify r.records e f, tx := ms } : Reader).Filed := by
  have hperm : (divertEntries ms).Perm (e :: divertEntries r.tx) := by
    have := hp.filterMap TxMsg.entry?
    rwa [List.filterMap_cons_some (by exact hd)] at this
  have hnot : e ∉ divertEntries r.tx := h.not_mem (by simpa [hst] using hne)
  exact {
    canonical := Table.wf_modify e f h.canonical
    feeds := (ht _ rfl).le.trans h.feeds
    geometries := (ht _ rfl).le.trans h.geometries
    unrecorded := (ht _ (by simp [TxMsg.isUnrecorded, hd])).le.trans h.unrecorded
    diverts := hperm.nodup_iff.2 (List.nodup_cons.2 ⟨hnot, h.diverts⟩)
    decided := fun k hk => by
      have hmod := Reader.sheetState_modify (r := r) (e := e) f (g := fun _ => .decided) hf k
      refine Eq.trans hmod ?_
      rcases List.mem_cons.1 (hperm.mem_iff.1 hk) with rfl | hk
      · simp [hst]
      · rw [if_neg fun hke : k = e => hnot (hke ▸ hk)]
        exact h.decided k hk
    bound := fun hb => by rw [h.bound hb]; rfl }

/-- The records whose DIVERTs wait keep their state where another one's changes. -/
theorem modRecord {f : SheetRec → SheetRec} (he : e ∉ divertEntries r.tx) :
    ({ r with records := Table.modify r.records e f } : Reader).Filed :=
  { h with
    canonical := Table.wf_modify e f h.canonical
    decided := fun k hk => by
      have hne : k ≠ e := fun hke => he (hke ▸ hk)
      simpa [Reader.sheetState, Table.get_modify, hne] using h.decided k hk
    bound := fun hb => by simp only [h.bound hb]; rfl }

/-- A record closes that has no DIVERT in the queue (R154). -/
theorem eraseRecord (he : e ∉ divertEntries r.tx) : ({ r with records := Table.erase r.records e } : Reader).Filed :=
  { h with
    canonical := Table.wf_erase e h.canonical
    decided := fun k hk => by
      have hne : k ≠ e := fun hke => he (hke ▸ hk)
      simpa [Reader.sheetState, Table.get_erase, hne] using h.decided k hk
    bound := fun hb => by simp only [h.bound hb]; rfl }

/-- A record opens in a free entry while a paper is bound (R146). -/
theorem insertRecord (he : e < Config.sheetRecords) (hfree : Table.get r.records e = none) (hb : r.bound ≠ none)
    (x : SheetRec) : ({ r with records := Table.insert r.records e x } : Reader).Filed :=
  { h with
    canonical := Table.wf_insert x he h.canonical
    decided := fun k hk => by
      have hne : k ≠ e := fun hke => h.not_mem (by simp [Reader.sheetState, hfree]) (hke ▸ hk)
      simpa [Reader.sheetState, Table.get_insert, hne] using h.decided k hk
    bound := fun h => absurd h hb }

end Reader.Filed

theorem TxMsg.isDivertOf_iff {m : TxMsg} : m.isDivertOf e = true ↔ m.entry? = some e := by
  cases m <;> simp [TxMsg.isDivertOf, TxMsg.entry?]

/-- What is left of the DIVERTs of the open records without those of one entry. -/
theorem divertEntries_filter (ms : List TxMsg) :
    divertEntries (ms.filter (fun m => !m.isDivertOf e)) = (divertEntries ms).filter (fun k => !(k == e)) := by
  rw [divertEntries, divertEntries, List.filterMap_filter, List.filter_filterMap]
  refine List.filterMap_congr fun m _ => ?_
  by_cases hm : m.isDivertOf e = true
  · simp [hm, TxMsg.isDivertOf_iff.1 hm, Option.filter]
  · have hne := mt TxMsg.isDivertOf_iff.2 hm
    cases hk : m.entry? with
    | none => simp [hm]
    | some k => simp_all [Option.filter]

/-- The withdrawal of a record's DIVERT: the messages not begun lose it, and one being sent is no longer the record's (R140, R144). -/
theorem Reader.withdraw_cons {m : TxMsg} {ms : List TxMsg} (htx : r.tx = m :: ms) (e : Nat) : ∃ b,
    r.withdraw e = { r with tx := b :: ms.filter (fun x => !x.isDivertOf e) } ∧
    b.entry? = if m.entry? = some e then none else m.entry? := by
  unfold Reader.withdraw
  rw [htx]
  refine ⟨_, rfl, ?_⟩
  cases m with
  | divert d => by_cases hd : d.entry = some e <;> simp [TxMsg.entry?, hd]
  | feed go => rfl
  | geometry mask n rows => rfl

/-- A record closes, and with it its DIVERT goes (R144). -/
theorem Reader.Filed.close (h : r.Filed) (e : Nat) :
    ({ r.withdraw e with records := Table.erase r.records e } : Reader).Filed := by
  cases htx : r.tx with
  | nil =>
    have hw : r.withdraw e = r := by unfold Reader.withdraw; rw [htx]
    rw [hw]
    exact h.eraseRecord (by simp [htx])
  | cons m ms =>
    obtain ⟨b, hw, hb⟩ := Reader.withdraw_cons htx e
    have hq : (ms.filter fun x => !x.isDivertOf e).Sublist r.queued := by
      rw [Reader.queued, htx]
      exact List.filter_sublist
    have hd : divertEntries (b :: ms.filter fun x => !x.isDivertOf e) = (divertEntries r.tx).filter (fun k => !(k == e)) := by
      rw [htx, ← divertEntries_filter]
      by_cases hm : m.isDivertOf e = true
      · rw [if_pos (TxMsg.isDivertOf_iff.1 hm)] at hb
        simp [hb, hm]
      · rw [if_neg (mt TxMsg.isDivertOf_iff.2 hm)] at hb
        simp [hb, hm, List.filterMap_cons]
    have hf : ({ r with tx := b :: ms.filter fun x => !x.isDivertOf e } : Reader).Filed := { h with
      feeds := hq.countP_le.trans h.feeds
      geometries := hq.countP_le.trans h.geometries
      unrecorded := hq.countP_le.trans h.unrecorded
      diverts := by rw [hd]; exact h.diverts.filter _
      decided := fun k hk => h.decided k (List.mem_of_mem_filter (hd ▸ hk)) }
    rw [hw]
    exact hf.eraseRecord (by rw [hd]; simp)

end Sys2Proof.Machine
end
section
/-! PROOF. The transmit queue and the Collection List together: the predicate that every operation keeps, and the operations outside the
reader, which leave the queue and keep every candidate listed among those collected (R131). -/

namespace Sys2Proof.Machine

variable {s t u : State} {i : Nat} {c : Cand} {f : Cand → Cand}

/-! ### The Collection List (R131) -/

/-- The script has been collected: COLLECTED, MARK_PENDING or MARKED (R2). -/
def Cand.Taken (c : Cand) : Prop := c.state = .collected ∨ c.state = .markPending ∨ c.state = .marked

theorem Cand.Taken.of_state {d : Cand} (h : c.Taken) (hs : d.state = c.state) : d.Taken := by
  rwa [Cand.Taken, hs]

/-- Whoever is in one of the other states has not been collected. -/
theorem Cand.not_taken (h : c.state.active = true ∨ c.state = .unseated ∨ c.state = .seated ∨ c.state = .finished ∨
    c.state = .absent ∨ c.state = .missing) : ¬ c.Taken := by
  rintro (hs | hs | hs) <;> simp [hs, CandState.active] at h

/-- A change of those in one other state does not concern whoever has been collected. -/
theorem Cand.Taken.ite {d : Cand} {p : Prop} [Decidable p] (h : c.Taken) (hp : p → ¬ c.Taken) : (if p then d else c).Taken := by
  split
  next hs => exact absurd h (hp hs)
  next => exact h

theorem Cand.Taken.toMissing (h : c.Taken) : c.toMissing.Taken := h.ite fun hs => Cand.not_taken (by simp [hs])

theorem Cand.Taken.toAbsent (h : c.Taken) : c.toAbsent.Taken := h.ite fun hs => Cand.not_taken (by simp [hs])

theorem Cand.Taken.readingOver (h : c.Taken) : c.readingOver.Taken :=
  h.ite fun hs => Cand.not_taken (by simp [hs, CandState.active])

theorem Cand.Taken.started (n : Nat) (h : c.Taken) : (c.started n).Taken :=
  h.ite fun hs => Cand.not_taken (by simp [(Cand.atDesk_iff.1 hs).1])

theorem Cand.Taken.abandoned (n : Nat) (h : c.Taken) : (c.abandoned n).Taken := by
  unfold Cand.abandoned
  split
  next ha => exact absurd h (Cand.not_taken (.inl ha))
  next => exact h.toAbsent

/-- The part of `State.Filed` that belongs to the Collection List. -/
structure State.Listed (s : State) : Prop where
  listed : (s.collection.map CollEntry.index).Nodup
  taken : ∀ e ∈ s.collection, ∃ c, s.cand e.index = some c ∧ c.Taken

/-- The transmit queue and the Collection List are as `State.Filed` has them, the Sheet Records in their canonical form. -/
structure State.Orderly (s : State) : Prop where
  queue : s.reader.Filed
  list : s.Listed

theorem State.orderly_iff : s.Orderly ↔ s.Filed ∧ Table.wf Config.sheetRecords s.reader.records = true := by
  refine ⟨fun ⟨q, l⟩ => ⟨⟨q.feeds, q.geometries, q.unrecorded, q.diverts, fun m hm e he => ?_, q.bound, l.listed, l.taken⟩,
    q.canonical⟩, fun ⟨f, hw⟩ => ⟨⟨hw, f.feeds, f.geometries, f.unrecorded, f.diverts, fun e he => ?_, f.bound⟩,
    ⟨f.listed, f.taken⟩⟩⟩
  · exact Reader.sheetState_decided.1 (q.decided e (mem_divertEntries.2 ⟨m, hm, he⟩))
  · obtain ⟨m, hm, he⟩ := mem_divertEntries.1 he
    exact Reader.sheetState_decided.2 (f.decided m hm e he)

namespace State.Orderly

theorem ite {p : Prop} [Decidable p] (ht : p → t.Orderly) (hu : ¬ p → u.Orderly) : (if p then t else u).Orderly := by
  split
  · exact ht ‹_›
  · exact hu ‹_›

theorem foldl {α : Type} {f : State → α → State} (hf : ∀ t a, t.Orderly → (f t a).Orderly) (h : t.Orderly) (l : List α) :
    (l.foldl f t).Orderly := by
  induction l generalizing t with
  | nil => exact h
  | cons a l ih => exact ih (hf t a h)

variable (h : t.Orderly)
include h

/-! ### Changes outside the reader and the list -/

/-- The reader and the list stand, and whoever has been collected stays so. -/
theorem of_frame (hr : u.reader = t.reader) (hl : u.collection = t.collection)
    (hc : ∀ i c, t.cand i = some c → c.Taken → ∃ d, u.cand i = some d ∧ d.Taken) : u.Orderly where
  queue := hr ▸ h.queue
  list := {
    listed := hl ▸ h.list.listed
    taken := fun e he => by
      obtain ⟨c, hce, ht⟩ := h.list.taken e (hl ▸ he)
      exact hc _ c hce ht }

/-- The reader, the list and the candidates stand. -/
theorem same (hu : (u.reader, u.collection, u.cands) = (t.reader, t.collection, t.cands)) : u.Orderly := by
  obtain ⟨hr, hl, hc⟩ : u.reader = t.reader ∧ u.collection = t.collection ∧ u.cands = t.cands := by simpa using hu
  exact h.of_frame hr hl fun i c hi ht => ⟨c, (State.cand_congr hc i).trans hi, ht⟩

theorem modCand (i : Nat) (hf : ∀ c, t.cand i = some c → c.Taken → (f c).Taken) :
    (t.modCand i f).Orderly :=
  h.of_frame rfl rfl fun j c hc ht => by
    rw [State.modCand_cand, hc]
    split
    next hj => exact ⟨f c, rfl, hf c (hj ▸ hc) ht⟩
    next => exact ⟨c, rfl, ht⟩

theorem mapCands (p : Nat) (hf : ∀ c : Cand, c.Taken → (f c).Taken) : (t.mapCands p f).Orderly :=
  h.of_frame rfl rfl fun j c hc ht => by
    rw [State.mapCands_cand, hc]
    refine ⟨_, rfl, ?_⟩
    dsimp only
    split
    · exact hf c ht
    · exact ht

theorem changeCand (i : Nat) (cause : Cause) (hf : ∀ c, t.cand i = some c → c.Taken → (f c).Taken) :
    (t.changeCand i f cause).Orderly :=
  (h.modCand i hf).same (by simp [State.changeCand_cands])

/-- A candidate who has not been collected may change in any way. -/
theorem modCand_untaken (hc : t.cand i = some c) (hn : ¬ c.Taken) : (t.modCand i f).Orderly :=
  h.modCand i fun _ hd ht => absurd (Option.some.inj (hc.symm.trans hd) ▸ ht) hn

theorem changeCand_untaken (hc : t.cand i = some c) (hn : ¬ c.Taken) (cause : Cause) : (t.changeCand i f cause).Orderly :=
  h.changeCand i cause fun _ hd ht => absurd (Option.some.inj (hc.symm.trans hd) ▸ ht) hn

/-! ### Notices -/

/-- The link alone changes. -/
theorem linked (hu : ∃ l, u = { t with link := l }) : u.Orderly := by
  obtain ⟨l, rfl⟩ := hu
  exact h.same (by rfl)

theorem post (n : Nat) (b : NoticeBody) : (t.post n b).Orderly := h.same (by rfl)

theorem traceOne (i : Nat) (o : Cand) (c : Cause) : (t.traceOne i o c).Orderly := h.linked (State.traceOne_link ..)

theorem traceAllBy (b : Table Cand) (c : Cand → Cause) : (t.traceAllBy b c).Orderly := by
  refine foldl (fun u e hu => ?_) h _
  split
  · exact hu.linked (State.traceChange_link ..)
  · exact hu

theorem traceAll (b : Table Cand) (c : Cause) : (t.traceAll b c).Orderly := h.traceAllBy ..

/-! ### The Collection Unit (R120 to R136) -/

/-- The Collection Unit's work on the walks and the collection states. -/
theorem collects {P : Nat → Prop} (hu : t.Collects P u) : u.Orderly :=
  h.of_frame ((congrArg State.reader hu.frame).trans rfl) ((congrArg State.collection hu.frame).trans rfl) fun i c hc ht => by
    obtain ⟨b, hb⟩ := hu.deferral i c hc
    exact ⟨_, hb, ht⟩

theorem findTarget (slot : Nat) : (t.findTarget slot).1.Orderly :=
  h.collects ((State.Collects.refl (P := fun _ => False) t).findTarget id)

theorem settle (slot : Nat) (c : CollCause) : (t.settle slot c).Orderly :=
  h.collects ((State.Collects.refl (P := fun _ => False) t).settle id c)

theorem setColl (slot : Nat) (new : CollState) (c : CollCause) : (t.setColl slot new c).Orderly :=
  h.collects ((State.Collects.refl (P := fun _ => False) t).setColl id new c)

theorem startCollection (slot : Nat) (c : CollCause) : (t.startCollection slot c).Orderly :=
  h.collects ((State.Collects.refl (P := fun _ => False) t).startCollection id c)

theorem skipTarget (slot : Nat) (r : SkipReason) : (t.skipTarget slot r).Orderly :=
  h.collects ((State.Collects.refl (P := fun _ => False) t).skipTarget id r)

/-- Whoever is not yet collected is not on the list: the entry made for them is their first (R127, R131). -/
theorem recordScript (hc : t.cand i = some c) (hn : ¬ c.Taken) (flags : EntryFlags) :
    (t.recordScript i c flags).Orderly := by
  have hm := h.modCand_untaken (f := fun x => { x with state := .collected }) hc hn
  refine ⟨hm.queue, ?_, fun e he => ?_⟩
  · have hnew : i ∉ t.collection.map CollEntry.index := fun hi => by
      obtain ⟨e, he, rfl⟩ := List.mem_map.1 hi
      obtain ⟨d, hd, ht⟩ := h.list.taken e he
      exact hn (Option.some.inj (hc.symm.trans hd) ▸ ht)
    simpa [State.recordScript, List.nodup_append] using ⟨h.list.listed, fun e he hi => hnew (List.mem_map.2 ⟨e, he, hi⟩)⟩
  · rcases List.mem_append.1 he with he | he
    · exact hm.list.taken e he
    · obtain rfl := List.mem_singleton.1 he
      have hi : (t.modCand i fun x => { x with state := .collected }).cand i = some { c with state := .collected } := by simp [hc]
      exact ⟨_, hi, .inl rfl⟩

theorem takeScript (i : Nat) (how : Taking) (cause : Cause) : (t.takeScript i how cause).Orderly := by
  unfold State.takeScript
  split
  · exact h
  next c hc =>
  split
  · exact h
  next p _ =>
  refine .ite (fun _ => h) fun hst => ?_
  have hn : ¬ c.Taken := Cand.not_taken (by tauto)
  have hr := h.recordScript hc hn (entryFlags p c how)
  have hw : ∀ r : State × List Passed, r.1.Orderly → ∀ n b,
      (((r.1.post n b).traceOne i c cause).postPassed c.paper r.2).Orderly :=
    fun r hr n b => ((hr.post n b).traceOne i c cause).linked (State.postPassed_link ..)
  cases p.coll.target.isSome && Decidable.decide (p.coll.target = c.seat) with
  | true => exact (hw _ (State.Orderly.findTarget (t := State.resolveTarget ..) (hr.same (by rfl)) _) ..).settle ..
  | false =>
    have hw := hw (t.recordScript i c (entryFlags p c how), []) hr
    simp only [Bool.false_eq_true, if_false]
    exact .ite (fun _ => (hw ..).settle ..) fun _ => hw ..

theorem modColl (p : Nat) (k : Collecting → Collecting) : (t.modColl p k).Orderly := h.same (by rfl)

theorem closeCollection (slot : Nat) : (t.closeCollection slot).Orderly :=
  (((h.mapCands slot fun _ ht => ht.toMissing).modColl ..).traceAll ..).setColl ..

end State.Orderly

end Sys2Proof.Machine
end
section
/-! PROOF. The Session Timer, the Allocation Engine, the Seat Map and the seat loop leave the transmit queue and the Collection List
in order: none of them touches the reader, and none of them changes the state of a candidate who has been collected (R2, R131). -/

namespace Sys2Proof.Machine

variable {s t u : State} {i n : Nat} {c : Cand} {f : Cand → Cand}

/-! ### The second event (R67 to R96) -/

/-- The second event's clocks and boundaries leave the state of whoever has been collected. -/
theorem Cand.Taken.timed {o : Option Paper} (h : c.Taken) (hf : AtBoundary o f) (s : State) : (f (s.ticked c)).Taken := by
  have hst : (s.ticked c).state = c.state := by
    rw [State.ticked_stands] <;> rcases h with h | h | h <;> simp [Cand.awayCounted, h]
  rw [hf.other _ (by rcases h with h | h | h <;> simp [hst, h]) (by rcases h with h | h | h <;> simp [hst, h])]
  exact h.of_state hst

namespace State.Orderly

section
variable (h : t.Orderly)
include h

theorem timed (hb : t.Bounded) : t.timed.Orderly := by
  obtain ⟨_, _, -, h0⟩ := State.timed_boundary hb 0
  refine h.of_frame ((congrArg State.reader h0.frame).trans rfl) ((congrArg State.collection h0.frame).trans rfl)
    fun i c hc ht => ?_
  obtain ⟨f, o, hf, hbrings⟩ := State.timed_boundary hb c.paper
  exact ⟨_, hbrings.cand (State.timed_bounded hb).cands hc rfl, ht.timed hf t⟩

theorem runSecond (hb : t.Bounded) : t.runSecond.Orderly := (h.timed hb).collects t.runSecond_collects

theorem postPaperState (p : Nat) (x : PaperState) (c : PaperCause) : (t.postPaperState p x c).Orderly := by
  unfold State.postPaperState
  split
  · exact h
  · exact h.post ..

theorem modPaper (p : Nat) (k : Paper → Paper) : (t.modPaper p k).Orderly := h.same (by rfl)

theorem makeAbsent (p : Nat) : (t.makeAbsent p).Orderly := (h.mapCands p fun _ ht => ht.toAbsent).modColl ..

theorem closePaper (p : Nat) : (t.closePaper p).Orderly := ((h.makeAbsent p).modPaper ..).postPaperState ..

theorem startRecords (p : Nat) (c : PaperCause) : (t.startRecords p c).Orderly := by
  unfold State.startRecords
  split
  · exact h
  · exact ((h.mapCands p fun _ ht => ht.started _).modPaper ..).postPaperState ..

theorem scheduledRecords : t.scheduledRecords.Orderly := foldl (fun _ p hu => hu.startRecords p _) h _

theorem startPaper (p : Nat) (c : PaperCause) : (t.startPaper p c).Orderly := (h.startRecords p c).traceAll ..

theorem abandonRecords (p : Nat) (c : PaperCause) : (t.abandonRecords p c).Orderly := by
  unfold State.abandonRecords
  split
  · exact h
  · exact (((h.mapCands p fun _ ht => ht.abandoned _).modColl ..).modPaper ..).postPaperState ..

theorem withHold (c : Option HoldCause) : ({ t with hold := c } : State).Orderly := h.same (by rfl)

theorem expireHold (c : HoldCause) : (t.expireHold c).Orderly := by
  have hover := foldl (fun _ p hu => hu.abandonRecords p .holdExpiry)
    (h.post 0 (.holdExpired c t.holdElapsed (slots.filter t.paperRunning))) (slots.filter t.paperRunning)
  exact foldl (fun _ p hu => hu.startCollection p _) ((hover.withHold none).scheduledRecords.traceAllBy ..) _

theorem secondEvent (hb : t.Bounded) : t.secondEvent.Orderly := by
  unfold State.secondEvent
  split
  · exact .ite (fun _ => expireHold (h.same (by rfl)) _) fun _ => h.same (by rfl)
  · exact runSecond (h.same (by rfl)) (((State.Keeps.refl t).withHallTime (Nat.min_le_right ..)).bounded hb)

theorem secondIf (hb : t.Bounded) (b : Bool) : (t.secondIf b).Orderly := .ite (fun _ => h.secondEvent hb) fun _ => h

/-! ### The rest of the Session Timer (R76 to R95) -/

theorem finishCand (i : Nat) (r : FinishReason) (cause : Cause) : (t.finishCand i r cause).Orderly := by
  unfold State.finishCand
  split
  · exact h
  next c hc =>
  refine .ite (fun _ => h) fun ha => ?_
  have hf : (t.changeCand i (Cand.toFinished r t.hallTime) cause).Orderly :=
    h.changeCand_untaken hc (Cand.not_taken (.inl (by simpa using ha))) cause
  exact .ite (fun _ => (hf.closePaper _).traceAll ..) fun _ => hf

theorem admitCand (i : Nat) (cause : Cause) : (t.admitCand i cause).Orderly := by
  unfold State.admitCand
  split
  · exact h
  next c hc =>
  split
  · exact h
  refine .ite (fun _ => h) fun hs => ?_
  have hadmit : ∀ f, ((t.countAdmitted c.paper 1).changeCand i f cause).Orderly := fun f =>
    changeCand_untaken (t := t.countAdmitted c.paper 1) (h.same (by rfl)) hc (Cand.not_taken (by simp_all)) cause
  split
  · exact hadmit _
  · exact .ite (fun _ => (hadmit _).finishCand ..) fun _ => hadmit _
  · exact .ite (fun _ => (hadmit _).finishCand ..) fun _ => hadmit _
  all_goals exact h

theorem presentRise (i : Nat) : (t.presentRise i).Orderly := by
  unfold State.presentRise
  split
  · exact h
  split
  · exact h.admitCand ..
  · split
    case h_1 | h_2 | h_3 => exact h.post ..
    all_goals exact h
  · exact .ite (fun _ => h.changeCand i _ fun _ _ ht => by exact ht) fun _ => h

theorem presentFall (i : Nat) : (t.presentFall i).Orderly := by
  unfold State.presentFall
  split
  · exact h
  · exact .ite (fun _ => h.changeCand i _ fun _ _ ht => by exact ht) fun _ => h

theorem leaveRequest (i : Nat) : (t.leaveRequest i).Orderly := by
  unfold State.leaveRequest
  split
  · exact h
  split
  · exact h
  refine .ite (fun _ => h) fun _ => ?_
  split
  · exact h.post ..
  · exact h.finishCand ..

theorem holdAsserted : t.holdAsserted.Orderly := .ite (fun _ => h) fun _ => .ite (fun _ => h.same (by rfl)) fun _ => h.same (by rfl)

/-! ### The Allocation Engine (R48 to R66) -/

theorem endJob (j : Job) (o : JobOutcome) (a g : Nat) : (t.endJob j o a g).Orderly := by
  have hj : (State.post { t with
      job := none
      lastOutcome := some
        { paper := j.paper, outcome := o, placed := j.placed, unplacedAccess := a, unplacedGeneral := g,
          time := t.hallTime } } j.paper (.allocEnd j.paper o j.placed a g)).Orderly := h.same (by rfl)
  exact .ite (fun _ => hj.startPaper ..) fun _ => hj

theorem checkGeneral (j : Job) : (t.checkGeneral j).Orderly := .ite (fun _ => h.endJob ..) fun _ => h.same (by rfl)

theorem checkPass (j : Job) : (t.checkPass j).Orderly := by
  unfold State.checkPass
  split
  · exact h.checkGeneral j
  · exact .ite (fun _ => h.checkGeneral _) fun _ => h.same (by rfl)

theorem offer (j : Job) (n : Nat) : (t.offer j n).Orderly := by
  unfold State.offer
  split
  next i c hp =>
    obtain ⟨hc, hs, -⟩ := State.placeable_some hp
    have ho : (t.occupy i n).Orderly := modCand_untaken (t := t.modSeat n _) (h.same (by rfl)) hc (Cand.not_taken (by simp [hs]))
    exact (ho.traceOne ..).checkPass _
  next => exact h.checkPass j

theorem allocAdvance : t.allocAdvance.Orderly := by
  unfold State.allocAdvance
  split
  · exact h
  · dsimp only
    split
    · exact h.offer ..
    · exact h.checkPass _

theorem dropCall (n : Nat) : (t.dropCall n).Orderly := .ite (fun _ => h.same (by rfl)) fun _ => h.same (by rfl)

/-! ### The seat loop (R97 to R119) -/

theorem nextPass : t.nextPass.Orderly := h.same (by simp)

theorem endWindow : t.endWindow.Orderly := nextPass (h.same (by rfl))

theorem joinLoop (n : Nat) : (t.joinLoop n).Orderly := nextPass (h.same (by rfl))

theorem leaveLoop (n : Nat) : (t.leaveLoop n).Orderly := nextPass (h.same (by rfl))

theorem modLoop (n : Nat) (k : LoopRec → LoopRec) : (t.modLoop n k).Orderly := h.same (by rfl)

theorem modSeat (n : Nat) (k : Seat → Seat) : (t.modSeat n k).Orderly := h.same (by rfl)

theorem clearFault (n : Nat) (x : Seat) : (t.clearFault n x).Orderly := by
  have hl : ((t.modSeat n fun x => { x with state := .enabled, fault := none }).modLoop n
    fun r => { r.toFresh with misses := 0 }).Orderly := h.same (by rfl)
  unfold State.clearFault
  split
  · exact hl.changeCand _ _ fun _ _ ht => by exact ht
  · exact hl

theorem seatPoll : t.seatPoll.Orderly := by
  refine .ite (fun _ => h) fun _ => ?_
  split
  · exact h.same (by rfl)
  · exact h

theorem closingPoll : t.closingPoll.Orderly := by
  refine .ite (fun _ => h) fun _ => ?_
  split
  · exact .ite (fun _ => h.same (by rfl)) fun _ => h
  · split
    · exact h.same (by rfl)
    · exact h

theorem callRise (n : Nat) : (t.callRise n).Orderly := by
  unfold State.callRise
  split
  · refine .ite (fun _ => h) fun _ => ?_
    split
    · exact (((h.modLoop ..).modCand _ fun _ _ ht => by exact ht).post ..).traceOne ..
    · exact h
  · exact h

theorem endCall (n : Nat) (b : Bool) (how : CallEnd) (cause : Cause) : (t.endCall n b how cause).Orderly := by
  unfold State.endCall
  split
  · split
    · exact (((h.modLoop ..).modCand _ fun _ _ ht => by exact ht).post ..).traceOne ..
    · exact (h.modLoop ..).post ..
  · exact (h.modLoop ..).post ..

theorem callFall (n : Nat) : (t.callFall n).Orderly := by
  unfold State.callFall
  split
  · exact h
  · exact .ite (fun _ => h.endCall ..) fun _ => h.modLoop ..

theorem forOccupant (n : Nat) {k : Nat → State} (hk : ∀ i, (k i).Orderly) : (t.forOccupant n k).Orderly := by
  unfold State.forOccupant
  split
  · exact hk _
  · exact h

theorem clearStaleCall (n : Nat) : (t.clearStaleCall n).Orderly :=
  .ite (fun _ => h) fun _ => h.forOccupant n fun i => h.changeCand i _ fun _ _ ht => by exact ht

theorem keyPress (n : Nat) : (t.keyPress n).Orderly := by
  unfold State.keyPress
  split
  next r i _ _ =>
    split
    · exact h
    next c hc =>
      exact .ite (fun _ => h.takeScript ..) fun _ => .ite (fun _ => h.takeScript ..) fun _ =>
        .ite (fun _ => h.endCall ..) fun _ =>
        .ite (fun hw => h.changeCand_untaken hc (Cand.not_taken (by simp [hw.1, CandState.active])) _) fun _ =>
        .ite (fun hr => h.changeCand_untaken hc (Cand.not_taken (by simp [hr, CandState.active])) _) fun _ => h
  next => exact h

theorem writePresent (n : Nat) : (t.writePresent n).Orderly := h.forOccupant n fun i => h.modCand i fun _ _ ht => by exact ht

theorem decodeEdges (n : Nat) (old new : LoopRec) : (t.decodeEdges n old new).Orderly := by
  have presentEdge : (if rising old.presentIn new.presentIn then t.forOccupant n t.presentRise
      else if falling old.presentIn new.presentIn then t.forOccupant n t.presentFall else t).Orderly :=
    .ite (fun _ => h.forOccupant n h.presentRise) fun _ => .ite (fun _ => h.forOccupant n h.presentFall) fun _ => h
  have doneEdge : ∀ {a : State}, a.Orderly →
      (if rising old.doneIn new.doneIn then a.forOccupant n a.leaveRequest else a).Orderly := fun ha =>
    .ite (fun _ => ha.forOccupant n ha.leaveRequest) fun _ => ha
  have callEdge : ∀ {b : State}, b.Orderly → (if rising old.callIn new.callIn then b.callRise n
      else if falling old.callIn new.callIn then b.callFall n else b).Orderly := fun hb =>
    .ite (fun _ => hb.callRise n) fun _ => .ite (fun _ => hb.callFall n) fun _ => hb
  have hc := callEdge (doneEdge presentEdge)
  exact .ite (fun _ => hc.keyPress n) fun _ => hc

theorem enabledReply (n : Nat) (r : LoopRec) (raw : RawInputs) : (t.enabledReply n r raw).Orderly :=
  .ite (fun _ => ((h.modLoop ..).writePresent n).clearStaleCall n) fun _ =>
    (clearStaleCall (.ite (fun _ => (h.modLoop ..).writePresent n) fun _ => h.modLoop ..) n).decodeEdges ..

theorem takeReply (n : Nat) (raw : RawInputs) : (t.takeReply n raw).Orderly := by
  unfold State.takeReply
  split
  · split
    · exact h.enabledReply ..
    · exact h.same (by rfl)
    · exact h
  · exact h

theorem faultSeat (n : Nat) (x : Seat) : (t.faultSeat n x).Orderly := by
  have hskip : ∀ {u : State}, u.Orderly → (match t.targetOf n with
      | some slot => u.skipTarget slot .seatFault
      | none => u).Orderly := fun hu => by
    split
    · exact hu.skipTarget ..
    · exact hu
  refine hskip ?_
  split
  · exact h.same (by rfl)
  split
  · exact h.same (by rfl)
  · exact (((h.modSeat ..).modCand _ fun _ _ ht => by exact ht).post ..).traceOne ..

theorem miss (n : Nat) : (t.miss n).Orderly := by
  unfold State.miss
  split
  · exact .ite (fun _ => (h.modLoop ..).faultSeat ..) fun _ => h.modLoop ..
  · exact h

theorem missedReply : t.missedReply.Orderly := by
  unfold State.missedReply
  split
  · exact h
  · exact .ite (fun _ => h.endWindow) fun _ => h.endWindow.miss _

theorem goodReply (b0 b1 b2 : Byte) : (t.goodReply b0 b1 b2).Orderly := by
  unfold State.goodReply
  split
  · exact h
  · exact .ite (fun _ => h) fun _ => .ite (fun _ => h.endWindow.takeReply ..) fun _ => h.same (by rfl)

/-! ### Rescoring (R181, R182) -/

theorem continueRescore (p i n : Nat) : (t.continueRescore p i n).Orderly :=
  .ite (fun _ => h.same (by rfl)) fun _ => h.same (by rfl)

theorem rescoreStep : t.rescoreStep.Orderly := by
  unfold State.rescoreStep
  split
  · split
    · exact (h.modCand _ fun _ _ ht => by exact ht).continueRescore ..
    · exact h.same (by rfl)
  all_goals exact h

end

end State.Orderly

end Sys2Proof.Machine
end
section
/-! PROOF. The reader's and the marker's operations leave the transmit queue and the Collection List in order: a record gets its DIVERT
as it becomes DECIDED and loses it as it closes or becomes DIVERTED, and the marker moves candidates only among those collected
(R137 to R157, R172, R177). -/

namespace Sys2Proof.Machine

variable {s t u : State} {e : Nat} {x : SheetRec} {st : SheetState}

/-! ### The records that an operation finds -/

/-- The open record that holds a tag stands in its entry. -/
theorem State.Orderly.sheet_of_sheetOf (h : t.Orderly) {g : Nat} (hs : t.sheetOf g = some (e, x)) : t.sheet e = some x :=
  Table.get_of_mem h.queue.canonical (List.mem_of_find?_eq_some hs)

theorem State.sheetState_of_sheet (h : t.sheet e = some x) : t.reader.sheetState e = some x.state := congrArg _ h

theorem older_mem {counter : Nat} (a : Nat × SheetRec) (xs : List (Nat × SheetRec)) :
    xs.foldl (older counter) a ∈ a :: xs := by
  induction xs generalizing a with
  | nil => exact List.mem_singleton.2 rfl
  | cons b xs ih =>
    have hab : older counter a b = a ∨ older counter a b = b := by
      unfold older
      split
      · exact .inr rfl
      · exact .inl rfl
    rcases List.mem_cons.1 (ih (older counter a b)) with hm | hm
    · rw [List.foldl_cons, hm]
      rcases hab with hab | hab <;> simp [hab]
    · exact List.mem_cons_of_mem _ (List.mem_cons_of_mem _ hm)

/-- The record that the marker takes is STORED (R151). -/
theorem State.Orderly.sheet_of_earliestStored (h : t.Orderly) (hs : t.reader.earliestStored = some (e, x)) :
    t.sheet e = some x ∧ x.state = .stored := by
  unfold Reader.earliestStored at hs
  split at hs
  · cases hs
  next y ys hf =>
    have hm : (e, x) ∈ t.reader.records.filter (fun x => Decidable.decide (x.2.state = .stored)) :=
      hf ▸ Option.some.inj hs ▸ older_mem y ys
    obtain ⟨hm, hst⟩ := List.mem_filter.1 hm
    exact ⟨Table.get_of_mem h.queue.canonical hm, by simpa using hst⟩

/-! ### What the feed leaves -/

theorem Reader.updateFeed_frame (r : Reader) : r.updateFeed.records = r.records ∧ r.updateFeed.bound = r.bound := by
  have hmod : ∀ f, (r.modQueued f).records = r.records ∧ (r.modQueued f).bound = r.bound := fun f => by
    unfold Reader.modQueued
    split <;> exact ⟨rfl, rfl⟩
  unfold Reader.updateFeed
  dsimp only
  split
  · split_ifs
    · exact ⟨rfl, rfl⟩
    · exact hmod _
    · exact hmod _
  · split_ifs <;> exact ⟨rfl, rfl⟩

theorem Reader.updateFeed_sheetState (r : Reader) : r.updateFeed.sheetState = r.sheetState := by
  funext k
  rw [Reader.sheetState, (Reader.updateFeed_frame r).1, Reader.sheetState]

/-- A record that is spoiled keeps its state (R145). -/
theorem State.spoil_sheetState (s : State) (e : Nat) (r : Spoil) : (s.spoil e r).reader.sheetState = s.reader.sheetState := by
  unfold State.spoil
  split
  · rfl
  next x _ =>
    split
    · rfl
    · exact (Reader.updateFeed_sheetState _).trans (((Reader.Alike.modRecord s.reader e fun _ => by rfl).trans (.disown _ x.tag)).trans
        (.releaseOf _ x.buffer)).sheetState

theorem State.commit_reader (s : State) (g : Staged) : (s.commit g).reader = s.reader := by
  unfold State.commit
  split
  · rfl
  · split
    · rfl
    · exact State.traceOne_reader ..

/-- The reader after an open record is closed as lost (R144). -/
theorem State.closeLost_reader (hx : s.sheet e = some x) (c : LostCause) (k : Option Stacker) :
    (s.closeLost e c k).reader =
      (({ s.reader.withdraw e with records := Table.erase s.reader.records e }.disown x.tag).releaseOf x.buffer).updateFeed := by
  unfold State.closeLost
  simp only [hx]
  split
  · exact congrArg Reader.updateFeed (State.traceOne_reader ..)
  · rfl

theorem State.closeLost_bound (s : State) (e : Nat) (c : LostCause) (k : Option Stacker) :
    (s.closeLost e c k).reader.bound = s.reader.bound := by
  cases hx : s.sheet e with
  | none => simp only [State.closeLost, hx]
  | some x =>
    have hw : (s.reader.withdraw e).bound = s.reader.bound := by
      unfold Reader.withdraw
      split <;> rfl
    rw [State.closeLost_reader hx, (Reader.updateFeed_frame _).2]
    exact ((Reader.Alike.disown _ x.tag).trans (.releaseOf _ x.buffer)).bound.trans hw

namespace State.Orderly

variable (h : t.Orderly)
include h

theorem withReader {r : Reader} (hr : r.Filed) : ({ t with reader := r } : State).Orderly := ⟨hr, { h.list with }⟩

theorem modReader {f : Reader → Reader} (hr : (f t.reader).Filed) : (t.modReader f).Orderly := h.withReader hr

theorem modReader_alike {f : Reader → Reader} (ha : t.reader.Alike (f t.reader)) : (t.modReader f).Orderly :=
  h.modReader (h.queue.alike ha)

theorem modSheet (e : Nat) {f : SheetRec → SheetRec} (hf : ∀ x, (f x).state = x.state) :
    (t.modSheet e f).Orderly :=
  h.modReader_alike (.modRecord _ e hf)

theorem updateFeed : t.updateFeed.Orderly := h.modReader h.queue.updateFeed

theorem readerError (r : ReaderErr) (k : Option Nat) (g : Nat) : (t.readerError r k g).Orderly := h.post ..

theorem withMarker (m : Marker) : ({ t with marker := m } : State).Orderly := h.same (by rfl)

/-! ### Sheets that arrive (R144 to R150) -/

theorem divertUnrecorded (g : Nat) (r : Reason) : (t.divertUnrecorded g r).Orderly :=
  .ite (fun _ => h.readerError ..) fun hroom => h.modReader (h.queue.push rfl nofun nofun fun _ => by
    simp only [Config.divertRoom] at hroom
    omega)

theorem spoil (e : Nat) (r : Spoil) : (t.spoil e r).Orderly := by
  unfold State.spoil
  split
  · exact h
  · exact .ite (fun _ => h) fun _ =>
      (((h.modSheet e fun _ => by rfl).modReader_alike ((Reader.Alike.disown ..).trans (.releaseOf ..))).post ..).updateFeed

/-- A record that is not yet DECIDED becomes so, with its DIVERT (R152, R153). -/
theorem decideSheet (hst : t.reader.sheetState e = some st) (hne : st ≠ .decided) (g : Nat) (d : Decision)
    (c : Option Decoded) (b : Bool) : (t.decideSheet e g d c b).Orderly := by
  have hdecide : ∀ ms : List TxMsg, ms.Perm (.divert ⟨g, d, some e, c⟩ :: t.reader.tx) →
      (∀ p : TxMsg → Bool, p (.divert ⟨g, d, some e, c⟩) = false → ms.tail.countP p = t.reader.queued.countP p) →
      (t.modReader fun r => { r with
        records := Table.modify r.records e fun y => { y with state := .decided, decision := some d }
        tx := ms }).Orderly := fun ms hp ht =>
    h.modReader (h.queue.decide (fun _ => rfl) rfl hst hne hp ht)
  cases b with
  | false =>
    refine hdecide (t.reader.tx ++ [_]) (List.perm_append_singleton ..) fun p hp => ?_
    rw [Reader.queued]
    cases t.reader.tx with
    | nil => rfl
    | cons a ms => simp [List.countP_append, hp]
  | true =>
    unfold State.decideSheet State.modReader Reader.pushAhead State.modSheet State.modReader
    dsimp only
    rw [if_pos rfl]
    split
    next htx => exact hdecide [_] (by rw [htx]) fun p hp => by rw [Reader.queued, htx]; rfl
    next a ms htx =>
      exact hdecide (a :: _ :: ms) (by rw [htx]; exact .swap ..) fun p hp => by rw [Reader.queued, htx]; simp [hp]

theorem closeLost (e : Nat) (c : LostCause) (k : Option Stacker) : (t.closeLost e c k).Orderly := by
  cases hx : t.sheet e with
  | none =>
    simp only [State.closeLost, hx]
    exact h
  | some x =>
    have hq := (((h.queue.close e).alike ((Reader.Alike.disown _ x.tag).trans (.releaseOf _ x.buffer))))
    unfold State.closeLost
    simp only [hx]
    have hu := withMarker (h.modReader (f := fun r =>
      ({ r.withdraw e with records := Table.erase r.records e }.disown x.tag).releaseOf x.buffer) hq) (t.marker.lose e)
    split
    · refine updateFeed ((post (modCand hu _ fun c _ ht => ?_) ..).traceOne ..)
      unfold Cand.returned
      split
      · exact .inl rfl
      · exact ht
    · exact (hu.post ..).updateFeed

theorem openSheet (he : e < Config.sheetRecords) (hfree : t.sheet e = none) (hb : t.reader.bound ≠ none) (g : Nat) :
    (t.openSheet e g).Orderly := by
  refine .ite (fun _ => (h.modReader (h.queue.insertRecord he hfree hb _)).spoil ..) fun _ => h.withReader ?_
  have hbuf : t.reader.Alike (t.reader.freeBuffer.elim t.reader fun b => t.reader.setBuffer b .filling) := by
    cases t.reader.freeBuffer with
    | none => exact .refl _
    | some b => exact .setBuffer ..
  have hins := h.queue.insertRecord he hfree hb (SheetRec.opened g t.reader.freeBuffer)
  exact hins.alike ⟨hbuf.tx, hbuf.bound, rfl, rfl⟩

theorem beginSheet (hb : t.reader.bound ≠ none) (g : Nat) : (t.beginSheet g).Orderly := by
  unfold State.beginSheet
  split
  · exact h.divertUnrecorded ..
  next e he =>
    obtain ⟨hlt, hfree, -⟩ := Table.firstFree_spec he
    exact (h.openSheet hlt hfree hb g).updateFeed

theorem sheetBegin (g : Nat) : (t.sheetBegin g).Orderly := by
  refine .ite (fun _ => h.divertUnrecorded ..) fun hb => ?_
  have hb : t.reader.bound ≠ none := by simpa using hb
  split
  · exact (h.closeLost ..).beginSheet (by rwa [State.closeLost_bound]) g
  · exact h.beginSheet hb g

theorem countRow (e : Nat) : (t.countRow e).Orderly := h.modSheet e fun _ => by rfl

theorem takeSamples (e : Nat) (x : SheetRec) (l : List Byte) : (t.takeSamples e x l).Orderly := by
  refine .ite (fun _ => h) fun _ => ?_
  split
  · have ha : t.reader.Alike { t.reader with fifo := t.reader.fifo ++ l } := ⟨rfl, rfl, rfl, rfl⟩
    exact h.modReader_alike (ha.trans (.moveSamples ..))
  · exact .ite (fun _ => h.modReader_alike ⟨rfl, rfl, rfl, rfl⟩) fun _ => h.spoil ..

theorem takeRow (g i : Nat) (l : List Byte) : (t.takeRow g i l).Orderly := by
  unfold State.takeRow
  split
  · exact h
  split
  · exact h
  · exact h
  · exact h.readerError ..
  · exact h.readerError ..
  · exact .ite (fun _ => h.readerError ..) fun _ => .ite (fun _ => h.countRow _) fun _ =>
      .ite (fun _ => (h.takeSamples ..).countRow _) fun _ => (h.spoil ..).countRow _

/-- A RECEIVING record has no DIVERT, and becomes STORED (R150). -/
theorem store (hst : t.reader.sheetState e = some .receiving) (b : Nat) : (t.store e b).Orderly :=
  (h.modReader (h.queue.modRecord (h.queue.not_mem (by simp [hst])))).modReader_alike
    ((Reader.Alike.clearFifo _).trans (.setBuffer ..))

theorem endUnspoiled (hst : t.reader.sheetState e = some .receiving) (x : SheetRec) (n : Nat) :
    (t.endUnspoiled e x n).Orderly := by
  refine .ite (fun _ => ?_) fun _ =>
    ((h.spoil ..).decideSheet (by rw [State.spoil_sheetState, hst]) (by simp) ..).updateFeed
  split
  · exact .ite (fun _ => h.store hst _) fun _ => h
  · exact h

theorem sheetEnd (g n : Nat) : (t.sheetEnd g n).Orderly := by
  unfold State.sheetEnd
  split
  · exact h
  next e x hs =>
  split
  · exact h
  · exact h
  · exact h.readerError ..
  · exact h.readerError ..
  next hst =>
    have ha := (Reader.Alike.modRecord t.reader e (f := fun y => { y with endTaken := some t.reader.endCounter }) fun _ => rfl).trans
      (r'' := { t.reader with
        records := Table.modify t.reader.records e fun y => { y with endTaken := some t.reader.endCounter }
        endCounter := (t.reader.endCounter + 1) % 256 }) ⟨rfl, rfl, rfl, rfl⟩
    have hc : ((t.modSheet e fun y => { y with endTaken := some t.reader.endCounter }).modReader
        fun r => { r with endCounter := (r.endCounter + 1) % 256 }).Orderly := h.withReader (h.queue.alike ha)
    have hrec : t.reader.sheetState e = some .receiving := hst ▸ State.sheetState_of_sheet (h.sheet_of_sheetOf hs)
    have hrec' := (congrFun ha.sheetState e).trans hrec
    refine .ite (fun _ => h.readerError ..) fun _ => ?_
    dsimp only
    split
    · exact (hc.decideSheet hrec' (by simp) ..).updateFeed
    · exact hc.endUnspoiled hrec' ..

theorem sheetStored : t.sheetStored.Orderly := by
  unfold State.sheetStored
  split
  · exact h
  next e x hs =>
  split
  · exact h
  next b _ =>
    refine .ite (fun hst => ?_) fun _ => h
    obtain ⟨g, -, hs⟩ := Option.bind_eq_some_iff.1 hs
    have ha := Reader.Alike.moveSamples t.reader b
    exact (h.modReader_alike ha).store
      ((congrFun ha.sheetState e).trans (hst.1 ▸ State.sheetState_of_sheet (h.sheet_of_sheetOf hs))) b

/-! ### The gate and the stackers (R153 to R156) -/

theorem atGate (g : Nat) : (t.atGate g).Orderly := by
  unfold State.atGate
  split
  · exact h
  next e x hs =>
  have hst := State.sheetState_of_sheet (h.sheet_of_sheetOf hs)
  have hleave : x.state ≠ .decided → ∀ r, (((t.decideSheet e g r none true).modSheet e fun y => { y with buffer := none }).modReader
      fun r => (r.disown g).releaseOf x.buffer).updateFeed.Orderly := fun hne r =>
    (((h.decideSheet hst hne g r none true).modSheet e fun _ => by rfl).modReader_alike
      ((Reader.Alike.disown ..).trans (.releaseOf ..))).updateFeed
  split
  · exact h
  · exact h
  next hm => exact (h.decideSheet hst (by simp [hm]) ..).updateFeed
  next hm => exact hleave (by simp [hm]) _
  next hm => exact hleave (by simp [hm]) _

theorem commit (g : Staged) : (t.commit g).Orderly := by
  unfold State.commit
  split
  · exact h
  · have hm : (t.modCand g.index fun x => { x with state := .marked, result := some g.result }).Orderly :=
      h.modCand _ fun _ _ _ => .inr (.inr rfl)
    exact .ite (fun _ => h) fun _ => (post (hm.same (by rfl)) ..).traceOne ..

theorem closeSheet (he : t.reader.sheetState e ≠ some .decided) : (t.closeSheet e).Orderly :=
  updateFeed ((h.withMarker _).modReader (h.queue.eraseRecord (h.queue.not_mem he)))

theorem stackSheet (hx : t.sheet e = some x) (k : Stacker) : (t.stackSheet e x k).Orderly := by
  unfold State.stackSheet
  split
  next hst _ =>
    have hne : t.reader.sheetState e ≠ some .decided := by simp [State.sheetState_of_sheet hx, hst]
    refine .ite (fun _ => h.closeLost ..) fun _ => ?_
    split
    · exact (h.commit _).closeSheet (by rwa [State.commit_reader])
    · exact h.closeSheet hne
  · exact h.closeLost ..

theorem stacked (g n : Nat) : (t.stacked g n).Orderly := by
  unfold State.stacked
  split
  · exact h.readerError ..
  split
  · exact h
  next hs => exact h.stackSheet (h.sheet_of_sheetOf hs) _

theorem loseTag (g : Nat) (c : LostCause) : (t.loseTag g c).Orderly := by
  unfold State.loseTag
  split
  · exact h.closeLost ..
  · exact h

theorem clearReady : t.clearReady.Orderly := updateFeed (h.modReader_alike ⟨rfl, rfl, rfl, rfl⟩)

theorem jam (g : Nat) (tags : List Nat) : (t.jam g tags).Orderly :=
  .ite (fun _ => h.readerError ..) fun _ => foldl (fun _ g hu => hu.loseTag g _) (h.clearReady.post ..) _

theorem readerReset : t.readerReset.Orderly := by
  have hc := modReader_alike (foldl (fun _ g hu => hu.loseTag g .reset)
    (h.clearReady.post 0 (.readerStop .reset t.clearReady.openTags)) t.clearReady.openTags) (.clearFifo _)
  unfold State.readerReset State.sendGeometry
  dsimp only
  split
  · exact hc.modReader (hc.queue.makeGeometry _)
  · exact hc

theorem readerReady : t.readerReady.Orderly :=
  .ite (fun _ => h) fun _ => updateFeed (h.modReader_alike ⟨rfl, rfl, rfl, rfl⟩)

/-! ### Messages that have been sent (R140 to R142, R152) -/

theorem divertSent : t.divertSent.Orderly := by
  unfold State.divertSent
  split
  next d ms htx =>
    have hp := h.modReader (h.queue.popTx (.divert d))
    refine post ?_ _ _
    split
    next e he =>
      refine hp.modReader (hp.queue.modRecord fun hm => ?_)
      have hd := h.queue.diverts
      rw [htx, divertEntries, List.filterMap_cons_some (by exact he)] at hd
      simp only [State.modReader, Reader.popTx, htx] at hm
      exact (List.nodup_cons.1 hd).1 hm
    next => exact hp
  next => exact h

theorem geometrySent : t.geometrySent.Orderly := by
  unfold State.geometrySent
  split
  · exact h.modReader (h.queue.popTx _)
  · exact h

theorem feedSent : t.feedSent.Orderly := by
  unfold State.feedSent
  split
  next go _ _ => exact h.modReader { h.queue.popTx (.feed go) with }
  next => exact h

/-! ### The marker (R151, R152, R172) -/

theorem markerTake : t.markerTake.Orderly := by
  unfold State.markerTake
  split
  next e x f _ hs _ =>
    obtain ⟨hx, hst⟩ := h.sheet_of_earliestStored hs
    split
    · exact h
    · exact withMarker ((h.modReader (h.queue.modRecord (h.queue.not_mem (by
        simp [State.sheetState_of_sheet hx, hst])))).modReader_alike (.setBuffer ..)) _
  next => exact h

theorem decideMarked {j : MarkJob} (hst : t.reader.sheetState j.entry = some .marking) (p : Paper) (f : Format) :
    (t.decideMarked j p f).Orderly := by
  unfold State.decideMarked
  split
  · exact h.decideSheet hst (by simp) ..
  split
  next i _ =>
    have ha := Reader.Alike.modRecord t.reader j.entry (f := fun y => { y with staged := some (j.stage p f i) }) fun _ => rfl
    have hc := changeCand (h.modSheet j.entry (f := fun y => { y with staged := some (j.stage p f i) }) fun _ => rfl) i .sheet
      (f := fun c => { c with state := .markPending }) fun _ _ _ => .inr (.inl rfl)
    refine hc.decideSheet (st := .marking) ?_ (by simp) ..
    rw [State.changeCand_reader]
    exact (congrFun ha.sheetState _).trans hst
  next => exact h.decideSheet hst (by simp) ..

theorem endMarking (j : MarkJob) : (t.endMarking j).Orderly := by
  have hj : (if j.same then t.modSheet j.entry (fun y => { y with buffer := none }) else t).Orderly :=
    .ite (fun _ => h.modSheet _ fun _ => by rfl) fun _ => h
  exact ((hj.withMarker .idle).modReader_alike (.release ..)).updateFeed

theorem markingEnd : t.markingEnd.Orderly := by
  unfold State.markingEnd
  split
  next j _ =>
    split
    · exact h.endMarking j
    split
    · exact h.endMarking j
    · refine .ite (fun hm => (h.decideMarked ?_ ..).endMarking j) fun _ => h.endMarking j
      simp only [State.stillMarking, Bool.and_eq_true, Option.any_eq_true, decide_eq_true_eq] at hm
      obtain ⟨-, x, hx, hst⟩ := hm
      exact hst ▸ State.sheetState_of_sheet hx
  all_goals exact h

/-! ### Frames on the reader link (R138, R139) -/

theorem setReaderRx (f : Option (List Byte)) : (t.setReaderRx f).Orderly := h.modReader_alike ⟨rfl, rfl, rfl, rfl⟩

theorem readerMessage (k g : Nat) (b : List Byte) : (t.readerMessage k g b).Orderly := by
  unfold State.readerMessage
  split
  · exact h.sheetBegin g
  · exact h.takeRow ..
  · exact h.sheetEnd ..
  · exact h.atGate g
  · exact h.stacked ..
  · exact h.jam ..
  · exact h.readerReady
  · exact h.readerReset
  · exact h

theorem readerFrame (k g : Nat) (b : List Byte) : (t.readerFrame k g b).Orderly :=
  .ite (fun _ => h.readerError ..) fun _ => .ite (fun _ => h.readerError ..) fun _ => h.readerMessage ..

theorem discardReaderFrame (l : List Byte) : (t.discardReaderFrame l).Orderly := (h.setReaderRx none).readerError ..

theorem readerByte (b : Byte) : (t.readerByte b).Orderly := by
  unfold State.readerByte
  split
  · exact .ite (fun _ => h.setReaderRx _) fun _ => h
  · exact .ite (fun _ => h.discardReaderFrame _) fun _ =>
      .ite (fun _ => .ite (fun _ => (h.setReaderRx none).readerFrame ..) fun _ => h.discardReaderFrame _) fun _ =>
      h.setReaderRx _

theorem readerBytes (l : List Byte) : (t.readerBytes l).Orderly := foldl (fun _ b hu => hu.readerByte b) h l

theorem readerGap : t.readerGap.Orderly := by
  unfold State.readerGap
  split
  · exact h
  · exact h.discardReaderFrame _

end State.Orderly

end Sys2Proof.Machine
end
section
/-! PROOF. Every request leaves the transmit queue and the Collection List in order, whichever its owner (R189). -/

namespace Sys2Proof.Machine

variable {t : State}

namespace State.Orderly

variable (h : t.Orderly)
include h

omit h in
/-- A check: one answer where it holds, the other where it fails. -/
theorem answer_ite {a b : State × Answer} {p : Prop} [Decidable p] (ha : p → a.1.Orderly) (hb : ¬ p → b.1.Orderly) :
    (if p then a else b).1.Orderly := by
  split
  · exact ha ‹_›
  · exact hb ‹_›

/-- A check that refuses leaves the records as they are (R190). -/
theorem checked {a b : State × Answer} {p : Prop} [Decidable p] (ha : a.1 = t) (hb : ¬ p → b.1.Orderly) :
    (if p then a else b).1.Orderly :=
  answer_ite (fun _ => ha ▸ h) hb

/-! ### The Seat Map (R24 to R38) -/

theorem hallConfig (a : HallConfigArgs) : (decideHallConfig a t).1.Orderly :=
  h.checked rfl fun _ => h.checked rfl fun _ => h.checked rfl fun _ => h.checked rfl fun _ => h.checked rfl fun _ => h.same (by rfl)

theorem seatDefine (n row col cls : Nat) : (decideSeatDefine n row col cls t).1.Orderly := by
  refine h.checked rfl fun _ => h.checked rfl fun _ => h.checked rfl fun _ => ?_
  split
  · exact joinLoop (h.same (by rfl)) n
  · exact h.checked rfl fun _ => h.modSeat ..

theorem seatRemove (n : Nat) : (decideSeatRemove n t).1.Orderly := by
  refine h.checked rfl fun _ => h.checked rfl fun _ => ?_
  split
  · exact h
  · exact h.checked rfl fun _ => .ite (fun _ => h.same (by rfl)) fun _ => leaveLoop (h.same (by rfl)) n

theorem seatDefineAction (n action row col cls : Nat) : (decideSeatDefineAction n action row col cls t).1.Orderly := by
  unfold decideSeatDefineAction
  split
  · exact h.seatDefine ..
  · exact h.seatRemove n
  · exact h

theorem seatState (n action : Nat) : (decideSeatState n action t).1.Orderly := by
  refine h.checked rfl fun _ => h.checked rfl fun _ => ?_
  split
  · exact h
  split
  · exact h
  · exact (h.modSeat ..).joinLoop n
  · exact h
  · exact h
  · exact h.checked rfl fun _ => (h.modSeat ..).leaveLoop n
  · exact h.same (by rfl)
  · exact h
  · exact h.clearFault ..

theorem seatRead (sel place mode : Nat) : (decideSeatRead sel place mode t).1.Orderly := by
  refine h.checked rfl fun _ => ?_
  split
  · exact h.checked rfl fun _ => h
  · refine h.checked rfl fun _ => ?_
    split <;> exact h
  · exact h

/-! ### Candidates and papers (R8 to R22) -/

theorem addCand {i : Nat} {c : Cand} (hfree : t.cand i = none) : (t.addCand i c).Orderly := by
  have hins : ({ t with cands := Table.insert t.cands i c } : State).Orderly := h.of_frame rfl rfl fun j d hd ht => by
    refine ⟨d, (Table.get_insert ..).trans (Eq.trans (if_neg ?_) hd), ht⟩
    rintro rfl
    exact absurd (hfree.symm.trans hd) nofun
  unfold State.addCand
  split
  · exact hins.modSeat ..
  · exact hins

theorem candAdd (number slot allowance needs restBudget seat : Nat) :
    (decideCandAdd number slot allowance needs restBudget seat t).1.Orderly := by
  refine h.checked rfl fun _ => h.checked rfl fun _ => ?_
  split
  · exact h
  refine h.checked rfl fun _ => ?_
  split
  · exact h
  next i hi =>
  refine h.checked rfl fun _ => ?_
  split
  · exact h
  · exact h.addCand (Table.firstFree_spec hi).2.1

theorem candRemove (i : Nat) : (decideCandRemove i t).1.Orderly := by
  refine h.checked rfl fun _ => h.checked rfl fun _ => ?_
  split
  · exact h
  next c hc =>
  refine h.checked rfl fun hs => h.of_frame rfl rfl fun j d hd ht => ⟨d, (Table.get_erase ..).trans (Eq.trans (if_neg ?_) hd), ht⟩
  rintro rfl
  exact Cand.not_taken (by simp_all) (Option.some.inj (hd.symm.trans hc) ▸ ht)

theorem candReadAnswer (i : Nat) : (Machine.candReadAnswer i t).1.Orderly := by
  unfold Machine.candReadAnswer
  split <;> exact h

theorem candRead (sel value : Nat) : (decideCandRead sel value t).1.Orderly := by
  unfold decideCandRead
  split
  · exact answer_ite (fun _ => h.candReadAnswer _) fun _ => h
  · refine h.checked rfl fun _ => ?_
    split
    · exact h
    · exact h.candReadAnswer _
  · exact h

theorem candWatch (i watch : Nat) : (decideCandWatch i watch t).1.Orderly := by
  refine h.checked rfl fun _ => ?_
  split
  · exact h
  · exact h.checked rfl fun _ => h.modCand i fun _ _ ht => by exact ht

theorem paperDefine (slot : Nat) (a : PaperArgs) : (decidePaperDefine slot a t).1.Orderly := by
  refine h.checked rfl fun _ => h.checked rfl fun _ => h.checked rfl fun _ => h.checked rfl fun _ => ?_
  dsimp only
  split
  · exact h.same (by rfl)
  · exact h.checked rfl fun _ => (h.modPaper ..).mapCands slot fun _ ht => by exact ht

theorem paperRead (slot : Nat) : (decidePaperRead slot t).1.Orderly := by
  refine h.checked rfl fun _ => ?_
  split <;> exact h

/-! ### The Collection Unit (R132 to R134) -/

theorem collectMark (i : Nat) : (decideCollectMark i t).1.Orderly := by
  refine h.checked rfl fun _ => ?_
  split
  · exact h
  split
  · exact h
  · exact h.checked rfl fun _ => h.takeScript ..

theorem collectClose (slot : Nat) : (decideCollectClose slot t).1.Orderly := by
  refine h.checked rfl fun _ => ?_
  split
  · exact h
  · exact h.checked rfl fun _ => h.checked rfl fun _ => h.checked rfl fun _ => h.closeCollection slot

theorem collectionRead (sel start : Nat) : (decideCollectionRead sel start t).1.Orderly :=
  h.checked rfl fun _ => h.checked rfl fun _ => h

/-! ### The Session Timer (R68 to R95) -/

theorem timeSet (n : Nat) : (decideTimeSet n t).1.Orderly := h.checked rfl fun _ => h.same (by rfl)

theorem paperStart (slot : Nat) : (decidePaperStart slot t).1.Orderly := by
  refine h.checked rfl fun _ => ?_
  split
  · exact h
  · exact h.checked rfl fun _ => h.checked rfl fun _ => h.startPaper ..

theorem paperAbandon (slot : Nat) : (decidePaperAbandon slot t).1.Orderly := by
  refine h.checked rfl fun _ => ?_
  split
  · exact h
  · exact h.checked rfl fun _ => ((h.abandonRecords ..).traceAll ..).startCollection ..

theorem admitRequest (i : Nat) : (decideAdmit i t).1.Orderly := by
  refine h.checked rfl fun _ => ?_
  split
  · exact h
  · exact h.checked rfl fun _ => h.admitCand ..

theorem finish (i : Nat) : (decideFinish i t).1.Orderly := by
  refine h.checked rfl fun _ => ?_
  split
  · exact h
  · exact h.checked rfl fun _ => h.finishCand ..

theorem hold : (decideHold t).1.Orderly := by
  unfold decideHold
  split
  · exact h
  · exact h.same (by rfl)

theorem resume : (decideResume t).1.Orderly := by
  unfold decideResume
  split
  · exact h
  · exact h.checked rfl fun _ => (((h.withHold none).post ..).scheduledRecords).traceAll ..

/-! ### The Allocation Engine (R49 to R65) -/

theorem allocate (slot : Nat) (w : SeatWalkArgs) (spill : Nat) : (decideAllocate slot w spill t).1.Orderly := by
  refine h.checked rfl fun _ => ?_
  split
  · exact h
  · exact h.checked rfl fun _ => h.checked rfl fun _ => h.checked rfl fun _ => h.checkPass (Job.new ..)

theorem allocAbort : (decideAllocAbort t).1.Orderly := by
  unfold decideAllocAbort
  split
  · exact h
  · exact h.endJob ..

theorem move (i n : Nat) : (decideMove i n t).1.Orderly := by
  refine h.checked rfl fun _ => h.checked rfl fun _ => ?_
  split
  · exact h
  · exact h
  split
  next old _ _ =>
    refine h.checked rfl fun _ => h.checked rfl fun _ => ?_
    split
    · exact h
    · exact ((modCand ((h.modSeat old _).modSeat n _) i fun _ _ ht => by exact ht).dropCall old).traceOne ..
  next => exact h

theorem unseatRequest (i : Nat) : (decideUnseat i t).1.Orderly := by
  refine h.checked rfl fun _ => h.checked rfl fun _ => ?_
  split
  · exact h
  next c hc =>
  split
  · exact h
  next old _ =>
    exact h.checked rfl fun hs =>
      ((modCand_untaken (h.modSeat old _) hc (Cand.not_taken (by simp_all))).dropCall old).traceOne ..

/-! ### The marker's requests (R160 to R184) -/

theorem formatLoad (slot : Nat) (a : FormatArgs) : (decideFormatLoad slot a t).1.Orderly := by
  refine h.checked rfl fun _ => ?_
  split
  · exact h
  · exact h.checked rfl fun _ => h.checked rfl fun _ => h.checked rfl fun _ => h.checked rfl fun _ => h.checked rfl fun _ =>
      h.modPaper ..

theorem formatRead (slot : Nat) : (decideFormatRead slot t).1.Orderly := by
  refine h.checked rfl fun _ => ?_
  split <;> exact h

theorem keyLoad (slot first : Nat) (l : List KeyEntryArgs) : (decideKeyLoad slot first l t).1.Orderly := by
  refine h.checked rfl fun _ => ?_
  split
  · exact h
  split
  · exact h
  · exact h.checked rfl fun _ => h.checked rfl fun _ => h.modPaper ..

theorem keyRead (slot first n : Nat) : (decideKeyRead slot first n t).1.Orderly := by
  refine h.checked rfl fun _ => ?_
  split
  · exact h
  split
  · exact h
  · exact h.checked rfl fun _ => h

/-- MARK_BIND of a paper: from then on records may open (R179). -/
theorem bind (p : Nat) (f : Format) : (t.bind p f).Orderly := by
  have hq : ({ t.reader with bound := some p, ready := false } : Reader).Filed := { h.queue with bound := nofun }
  exact updateFeed (modReader (t := t.setMarking p .bound) (h.same (by rfl)) (hq.makeGeometry f))

theorem markBind (slot : Nat) : (decideMarkBind slot t).1.Orderly := by
  refine h.checked rfl fun _ => ?_
  split
  · exact h
  refine h.checked rfl fun _ => h.checked rfl fun _ => h.checked rfl fun _ => ?_
  split
  · exact h
  · exact h.bind ..

/-- MARK_UNBIND is taken with no record open (R180). -/
theorem markUnbind : (decideMarkUnbind t).1.Orderly := by
  unfold decideMarkUnbind
  split
  · exact h
  next slot _ =>
  refine h.checked rfl fun hr => h.checked rfl fun _ => ?_
  have hq : ({ t.reader with bound := none } : Reader).Filed := { h.queue with bound := fun _ => by simpa using hr }
  exact updateFeed (modReader (t := t.setMarking slot .ready) (h.same (by rfl)) hq)

theorem rescore (slot : Nat) : (decideRescore slot t).1.Orderly := by
  refine h.checked rfl fun _ => ?_
  split
  · exact h
  · exact h.checked rfl fun _ => h.checked rfl fun _ => continueRescore (t := t.setMarking slot .rescoring) (h.same (by rfl)) ..

theorem resultRead (i : Nat) : (decideResultRead i t).1.Orderly := by
  refine h.checked rfl fun _ => ?_
  split
  · exact h
  · refine h.checked rfl fun _ => ?_
    split <;> exact h

theorem responsesRead (i : Nat) : (decideResponsesRead i t).1.Orderly := by
  refine h.checked rfl fun _ => ?_
  split
  · exact h
  · exact h.checked rfl fun _ => h

/-! ### SESSION_CLEAR (R195) -/

/-- With no paper bound no record is open, so that no DIVERT in the queue loses its record; the list is emptied. -/
theorem cleared (hb : t.reader.bound = none) : t.cleared.Orderly := by
  have hnil := h.queue.bound hb
  have hbuf := (Reader.Alike.setBuffer t.reader 0 .free).trans (.setBuffer _ 1 .free)
  have hq : t.reader.Alike t.cleared.reader :=
    ⟨hbuf.tx, hbuf.bound, by rw [hnil]; rfl, funext fun k => by rw [Reader.sheetState, Reader.sheetState, hnil]; rfl⟩
  exact ⟨h.queue.alike hq, List.nodup_nil, List.forall_mem_nil _⟩

omit h in
/-- A SESSION_CLEAR that is not refused finds no paper bound (R195). -/
theorem unbound_of_clearRefusal (hc : t.clearRefusal = none) : t.reader.bound = none := by
  unfold State.clearRefusal at hc
  split_ifs at hc with _ _ _ hb
  simpa using hb

theorem sessionClear : (decideSessionClear t).1.Orderly := by
  unfold decideSessionClear
  split
  · exact h
  next hc => exact h.cleared (unbound_of_clearRefusal hc)

/-- Every request leaves the queue and the list in order. -/
theorem decide (r : Request) : (Machine.decide r t).1.Orderly := by
  cases r with
  | identify => exact h
  | status => exact h
  | sessionClear => exact h.sessionClear
  | timeSet => exact h.timeSet _
  | hallConfig => exact h.hallConfig _
  | seatDefine => exact h.seatDefineAction ..
  | seatState => exact h.seatState ..
  | seatRead => exact h.seatRead ..
  | paperDefine => exact h.paperDefine ..
  | paperRead => exact h.paperRead _
  | candAdd number slot allowance needs rest seat => exact h.candAdd number slot allowance needs rest seat
  | candRemove => exact h.candRemove _
  | candRead => exact h.candRead ..
  | candWatch => exact h.candWatch ..
  | allocate => exact h.allocate ..
  | allocAbort => exact h.allocAbort
  | move => exact h.move ..
  | unseat => exact h.unseatRequest _
  | paperStart => exact h.paperStart _
  | paperAbandon => exact h.paperAbandon _
  | admitCand => exact h.admitRequest _
  | finish => exact h.finish _
  | hold => exact h.hold
  | resume => exact h.resume
  | collectMark => exact h.collectMark _
  | collectClose => exact h.collectClose _
  | collectionRead => exact h.collectionRead ..
  | formatLoad => exact h.formatLoad ..
  | formatRead => exact h.formatRead _
  | keyLoad => exact h.keyLoad ..
  | keyRead => exact h.keyRead ..
  | markBind => exact h.markBind _
  | markUnbind => exact h.markUnbind
  | rescore => exact h.rescore _
  | resultRead => exact h.resultRead _
  | responsesRead => exact h.responsesRead _

end State.Orderly

end Sys2Proof.Machine
end
section
/-! PROOF. Every command leaves the transmit queue and the Collection List in order, and what that says of their lengths (R131, R137,
R140, R143). -/

namespace Sys2Proof.Machine

variable {s t : State}

/-! ### The host link (R185 to R196) -/

namespace State.Orderly

variable (h : t.Orderly)
include h

theorem withLink (l : Link) : ({ t with link := l } : State).Orderly := h.same (by rfl)

theorem takeRequest (k g : Byte) (r : Request) : (t.takeRequest k g r).Orderly :=
  .ite (fun _ => (h.decide r).same (by rfl)) fun _ => (h.decide r).same (by rfl)

theorem takeFrame (f : Frame) : (t.takeFrame f).Orderly := by
  unfold State.takeFrame
  split
  · exact h.same (by rfl)
  · exact h.same (by rfl)
  · exact h.takeRequest ..

theorem receiveFrame (f : Frame) : (t.receiveFrame f).Orderly :=
  .ite (fun _ => h.same (by rfl)) fun _ => .ite (fun _ => h.takeFrame f) fun _ =>
    .ite (fun _ => h.same (by rfl)) fun _ => h.same (by rfl)

theorem hostRequest (g : Nat) (r : Request) : (t.hostRequest g r).Orderly :=
  .ite (fun _ => h.takeRequest ..) fun _ => .ite (fun _ => h.same (by rfl)) fun _ => h.same (by rfl)

theorem hostByte (b : Byte) : (t.hostByte b).Orderly := by
  unfold State.hostByte
  split
  · exact .ite (fun _ => h.same (by rfl)) fun _ => h
  · exact .ite (fun _ => h.same (by rfl)) fun _ => .ite (fun _ => h.same (by rfl)) fun _ => h.same (by rfl)
  · exact .ite (fun _ => h.same (by rfl)) fun _ => .ite (fun _ => h.same (by rfl)) fun _ =>
      .ite (fun _ => receiveFrame (t := t.setRx HostRx.reset) (h.same (by rfl)) _) fun _ => h.same (by rfl)

theorem hostBytes (l : List Byte) : (t.hostBytes l).Orderly := foldl (fun _ b hu => hu.hostByte b) h l

theorem breakFrame : t.breakFrame.Orderly := by
  unfold State.breakFrame
  split
  · exact h
  · exact h.same (by rfl)
  · exact h.same (by rfl)

theorem replySent : t.replySent.Orderly := by
  unfold State.replySent
  split
  · dsimp only
    split
    · exact takeFrame (h.same (by rfl)) _
    · exact h.same (by rfl)
  · exact h
  · exact h

theorem noticeSent : t.noticeSent.Orderly := by
  unfold State.noticeSent
  split
  · exact h.same (by rfl)
  · exact h
  · exact h

/-! ### RESET (R185, R196) -/

omit h in
theorem resetAt (rate : Nat) : (State.resetAt rate).Orderly := State.orderly_iff.2 ⟨State.resetAt_filed rate, rfl⟩

/-- RESET driven low empties the queue. -/
theorem assertReset : t.assertReset.Orderly :=
  ⟨{ h.queue.subqueue (ms := []) (List.nil_sublist _) (List.nil_sublist _) with }, { h.list with }⟩

omit h in
theorem release (a b : Bool) : (s.release a b).Orderly := (resetAt (rateOf a b)).same (by rfl)

/-! ### The step -/

/-- A command other than RESET, from a state within its bounds. -/
theorem running {f : State → State} (hb : t.Bounded) (hf : ∀ u : State, u.Bounded → u.Orderly → (f u).Orderly)
    (hs : Machine.running f t = .next s) : s.Orderly := by
  rw [← Host.Outcome.next.inj hs]
  exact .ite (fun _ => h) fun _ => (hf _ ((State.Keeps.refl t).pump.bounded hb) (h.same (by rfl))).same (by rfl)

/-- Every command leaves the queue and the list in order. -/
theorem exec {c : Instr} (hb : t.Bounded) (hs : Machine.exec c t = .next s) : s.Orderly := by
  have hrun : ∀ {f : State → State}, (∀ u : State, u.Bounded → u.Orderly → (f u).Orderly) →
      Machine.running f t = .next s → s.Orderly := fun hf => h.running hb hf
  cases c with
  | reset a b => exact Host.Outcome.next.inj hs ▸ .release a b
  | resetAsserted => exact Host.Outcome.next.inj hs ▸ h.assertReset
  | secondEvent => exact hrun (fun _ hb hu => hu.secondEvent hb) hs
  | readingEnd => exact hrun (fun _ hb hu => hu.secondIf hb _) hs
  | lateEntryClose => exact hrun (fun _ hb hu => hu.secondIf hb _) hs
  | baseEnd => exact hrun (fun _ hb hu => hu.secondIf hb _) hs
  | limitReached => exact hrun (fun _ hb hu => hu.secondIf hb _) hs
  | restBudgetExhausted => exact hrun (fun _ hb hu => hu.secondIf hb _) hs
  | awayLong => exact hrun (fun _ hb hu => hu.secondIf hb _) hs
  | holdExpired => exact hrun (fun _ hb hu => hu.secondIf hb _) hs
  | collectTimeoutExpiry => exact hrun (fun _ hb hu => hu.secondIf hb _) hs
  | scheduledStart => exact hrun (fun _ hb hu => hu.secondIf hb _) hs
  | holdLineAsserted => exact hrun (fun _ _ hu => hu.holdAsserted) hs
  | holdLineReleased => exact hrun (fun _ _ hu => hu.same (by rfl)) hs
  | hostFrameReceived => exact hrun (fun _ _ hu => hu.hostBytes _) hs
  | hostGapTimeout => exact hrun (fun _ _ hu => (hu.hostBytes _).breakFrame) hs
  | hostFrameDiscarded =>
    exact hrun (fun _ _ hu => .ite (fun _ => (hu.hostBytes _).breakFrame) fun _ => hu.hostBytes _) hs
  | replySent => exact hrun (fun _ _ hu => hu.replySent) hs
  | noticeSent => exact hrun (fun _ _ hu => hu.noticeSent) hs
  | allocAdvance => exact hrun (fun _ _ hu => hu.allocAdvance) hs
  | rescoreStep => exact hrun (fun _ _ hu => hu.rescoreStep) hs
  | seatPoll => exact hrun (fun _ _ hu => hu.seatPoll) hs
  | closingPoll => exact hrun (fun _ _ hu => hu.closingPoll) hs
  | goodReply => exact hrun (fun _ _ hu => hu.goodReply ..) hs
  | missedReply => exact hrun (fun _ _ hu => hu.missedReply) hs
  | readerFrameReceived => exact hrun (fun _ _ hu => hu.readerBytes _) hs
  | readerGapTimeout => exact hrun (fun _ _ hu => (hu.readerBytes _).readerGap) hs
  | readerLengthAbove200 => exact hrun (fun _ _ hu => hu.readerBytes _) hs
  | sheetBegin => exact hrun (fun _ _ hu => hu.sheetBegin _) hs
  | row => exact hrun (fun _ _ hu => hu.takeRow ..) hs
  | sheetEnd => exact hrun (fun _ _ hu => hu.sheetEnd ..) hs
  | sheetStored => exact hrun (fun _ _ hu => hu.sheetStored) hs
  | atGate => exact hrun (fun _ _ hu => hu.atGate _) hs
  | stacked => exact hrun (fun _ _ hu => hu.stacked ..) hs
  | jam => exact hrun (fun _ _ hu => hu.jam ..) hs
  | readerReady => exact hrun (fun _ _ hu => hu.readerReady) hs
  | readerReset => exact hrun (fun _ _ hu => hu.readerReset) hs
  | divertSent => exact hrun (fun _ _ hu => hu.divertSent) hs
  | geometrySent => exact hrun (fun _ _ hu => hu.geometrySent) hs
  | feedSent => exact hrun (fun _ _ hu => hu.feedSent) hs
  | markerTake => exact hrun (fun _ _ hu => hu.markerTake) hs
  | markingEnd => exact hrun (fun _ _ hu => hu.markingEnd) hs
  | _ => exact hrun (fun _ _ hu => hu.hostRequest ..) hs

/-- Every step leaves the queue and the list in order. -/
theorem step (hb : t.Bounded) (hs : Machine.step t = .next s) : s.Orderly := by
  unfold Machine.step at hs
  split at hs
  next c rest _ => exact exec (t := { t with pending := rest }) (h.same (by rfl)) { hb with } hs
  next => exact Host.Outcome.next.inj hs ▸ h

end State.Orderly

/-! ### The lengths (R131, R137, R140) -/

/-- Every message is a FEED, a GEOMETRY, a DIVERT without a record or one of a record. -/
theorem length_messages (ms : List TxMsg) : ms.length = ms.countP TxMsg.isFeed + ms.countP TxMsg.isGeometry +
    ms.countP TxMsg.isUnrecorded + (divertEntries ms).length := by
  induction ms with
  | nil => rfl
  | cons m ms ih =>
    have hone : 1 = (if m.isFeed = true then 1 else 0) + (if m.isGeometry = true then 1 else 0) +
        (if m.isUnrecorded = true then 1 else 0) + m.entry?.toList.length := by
      cases m with
      | feed go => rfl
      | geometry mask n rows => rfl
      | divert d => cases hd : d.entry <;> simp [TxMsg.isFeed, TxMsg.isGeometry, TxMsg.isUnrecorded, TxMsg.entry?, hd]
    have hentries : (divertEntries (m :: ms)).length = m.entry?.toList.length + (divertEntries ms).length := by
      rw [divertEntries, List.filterMap_cons]
      cases m.entry? with
      | none => exact (Nat.zero_add _).symm
      | some e => exact Nat.add_comm ..
    rw [List.length_cons, List.countP_cons, List.countP_cons, List.countP_cons]
    omega

/-- Numbers below `n` without repetition are at most `n`. -/
theorem length_le_of_nodup_lt {l : List Nat} {n : Nat} (hl : l.Nodup) (hn : ∀ k ∈ l, k < n) : l.length ≤ n := by
  simpa using (List.subperm_of_subset hl fun k hk => List.mem_range.2 (hn k hk)).length_le

/-- One message being sent, one FEED, one GEOMETRY, nine DIVERTs without a record and one for each of the four records. -/
theorem Reader.Filed.tx_length {r : Reader} (h : r.Filed) : r.tx.length ≤ 16 := by
  have hentries : (divertEntries r.queued).length ≤ 4 := by
    refine length_le_of_nodup_lt (h.diverts.sublist ((List.tail_sublist _).filterMap _)) fun e he => ?_
    obtain ⟨x, hx, -⟩ := Reader.sheetState_decided.1 (h.decided e (((List.tail_sublist _).filterMap _).subset he))
    exact Table.get_lt h.canonical hx
  have hqueued := length_messages r.queued
  have hlen : r.tx.length ≤ r.queued.length + 1 := by
    rw [Reader.queued, List.length_tail]
    omega
  have hfeeds := h.feeds
  have hgeometries := h.geometries
  have hunrecorded := h.unrecorded
  omega

/-- A candidate is listed at most once, and there are 512 records (R1, R131). -/
theorem State.Listed.collection_length (h : s.Listed) (hb : s.Bounded) : s.collection.length ≤ 512 := by
  rw [← List.length_map (f := CollEntry.index)]
  refine length_le_of_nodup_lt h.listed fun i hi => ?_
  obtain ⟨e, he, rfl⟩ := List.mem_map.1 hi
  obtain ⟨c, hc, -⟩ := h.taken e he
  exact Table.get_lt hb.cands hc

end Sys2Proof.Machine

section
open Sys2Proof.Machine

/-- Settles O60: every command leaves the queue and the list in order, and their lengths follow from what that says. -/
theorem queueAndListKeptByStep : Obligations.QueueAndListKeptByStep := by
  refine ⟨fun s t hb hf hs => ?_, fun s hb hf => ?_⟩
  · exact (State.orderly_iff.1 ((State.orderly_iff.2 ⟨hf, hb.records⟩).step hb hs)).1
  · have ho := State.orderly_iff.2 ⟨hf, hb.records⟩
    exact ⟨ho.queue.tx_length, ho.list.collection_length hb⟩

end
end

section
/-! PROOF. The Collection Unit: the collection state and its notice, one advance of a walk, the taking of a script at the target and
away from it, and the start and the close of a collection (R120 to R136). -/

namespace Sys2Proof.Machine

variable {s : State} {slot i n fuel : Nat} {c : Cand} {p : Paper} {x : Seat} {w : SeatWalk} {cur : Cursor} {passed : List Passed}
  {how : Taking} {cause : Cause}

/-! ### The collection state (R126, R136) -/

theorem State.setColl_defined (hp : s.paper slot = some p) (new : CollState) (why : CollCause) :
    s.setColl slot new why = if p.coll.state = new then s else
      (s.modColl slot fun k => { k with state := new }).post slot
        (.collectionState p.coll.state new why p.coll.target p.coll.admitted p.coll.collected p.coll.absent p.coll.missing) := by
  simp only [State.setColl, hp]

/-- The collection state that R126 gives after an advance of the walk. -/
theorem State.settle_defined (hp : s.paper slot = some p) (why : CollCause) : s.settle slot why = s.setColl slot
    (if p.coll.target ≠ none then .walking
      else if p.coll.collected + p.coll.missing = p.coll.admitted then .complete else .outstanding) why := by
  cases ht : p.coll.target <;> simp [State.settle, hp, ht, Collecting.complete]

/-! ### One advance of the walk (R122, R123) -/

section
variable (hx : s.seat n = some x)
include hx

theorem State.judge_vacant (ho : x.occupant = none) : s.judge slot n = .pass := by
  simp only [State.judge, hx, ho]

variable (ho : x.occupant = some i) (hc : s.cand i = some c)
include ho hc

theorem State.judge_active (hq : c.paper = slot) (ha : c.state.active = true) : s.judge slot n = .defer i := by
  simp [State.judge, hx, ho, hc, hq, ha]

theorem State.judge_target (hq : c.paper = slot) (hf : c.state = .finished) (hd : c.flags.deferred = false)
    (he : x.state = .enabled) : s.judge slot n = .target := by
  simp [State.judge, hx, ho, hc, hq, hf, hd, he, CandState.active]

theorem State.judge_fault (hq : c.paper = slot) (hf : c.state = .finished) (hd : c.flags.deferred = false)
    (he : x.state = .faulty) : s.judge slot n = .fault i := by
  simp [State.judge, hx, ho, hc, hq, hf, hd, he, CandState.active]

/-- The last line of R122's table. -/
theorem State.judge_pass (h : c.paper ≠ slot ∨ c.state.active = false ∧ ¬ (c.state = .finished ∧ c.flags.deferred = false)) :
    s.judge slot n = .pass := by
  rcases h with hq | ⟨ha, hf⟩
  · simp [State.judge, hx, ho, hc, hq]
  · simp [State.judge, hx, ho, hc, ha, hf]

end

theorem State.passOver_used (hc : s.cand i = some c) (n : Nat) (fault : Bool) (passed : List Passed) :
    s.passOver i n fault passed = (s.modCand i Cand.setDeferred, passed ++ [⟨i, c, n, fault⟩]) := by
  simp only [State.passOver, hc]

/-- The state after the cursor of a paper's walk has moved on. -/
def State.withCursor (s : State) (slot : Nat) (cur : Cursor) : State := s.modColl slot fun k => { k with cursor := cur }

section
variable (hp : s.paper slot = some p) (hw : p.defn.walk = some w)
include hp hw

theorem State.walkOn_exhausted (ha : s.advanceSeatWalk w 4096 p.coll.cursor = (cur, none)) :
    State.walkOn slot (fuel + 1) (s, passed) = (s.withCursor slot cur, passed) := by
  simp only [State.walkOn, hp, hw, Config.maxWalk, ha, State.withCursor]

variable (ha : s.advanceSeatWalk w 4096 p.coll.cursor = (cur, some n))
include ha

theorem State.walkOn_pass (hj : s.judge slot n = .pass) :
    State.walkOn slot (fuel + 1) (s, passed) = State.walkOn slot fuel (s.withCursor slot cur, passed) := by
  simp only [State.walkOn, hp, hw, Config.maxWalk, ha, hj, State.withCursor]

theorem State.walkOn_target (hj : s.judge slot n = .target) :
    State.walkOn slot (fuel + 1) (s, passed) = ((s.withCursor slot cur).setTarget slot n, passed) := by
  simp only [State.walkOn, hp, hw, Config.maxWalk, ha, hj, State.withCursor]

/-- A candidate passed over is deferred, and the walk goes on (R122 lines 2 and 4). -/
theorem State.walkOn_deferred (hc : s.cand i = some c) {fault : Bool}
    (hj : s.judge slot n = if fault then .fault i else .defer i) :
    State.walkOn slot (fuel + 1) (s, passed) =
      State.walkOn slot fuel ((s.withCursor slot cur).modCand i Cand.setDeferred, passed ++ [⟨i, c, n, fault⟩]) := by
  have hover := State.passOver_used (s := s.withCursor slot cur) hc n fault passed
  cases fault <;> simp only [State.walkOn, hp, hw, Config.maxWalk, ha, hj, ← hover] <;> rfl

end

theorem State.walkOn_unwalked (hp : s.paper slot = some p) (hw : p.defn.walk = none) :
    State.walkOn slot fuel (s, passed) = (s, passed) := by
  cases fuel with
  | zero => rfl
  | succ fuel => simp only [State.walkOn, hp, hw]

/-! ### The taking of a script (R127 to R130) -/

/-- The script of a FINISHED candidate leaves the number of those missing as it is. -/
theorem State.recordScript_finished (hf : c.state = .finished) (flags : EntryFlags) : s.recordScript i c flags =
    { (s.modCand i fun d => { d with state := .collected }).modColl c.paper fun k => { k with collected := k.collected + 1 } with
      collection := s.collection ++ [⟨i, c.number, c.paper, c.seat, s.hallTime, flags⟩] } := by
  simp [State.recordScript, hf]

/-- The change of the records where a script is taken at the target, which is resolved with it (R123, R127). -/
theorem State.recordScript_resolveTarget (s : State) (i : Nat) (c : Cand) (flags : EntryFlags) :
    (s.recordScript i c flags).resolveTarget c.paper =
      { (s.modCand i fun d => { d with state := .collected }).modColl c.paper fun k => { k with
          collected := k.collected + 1
          missing := if c.state = .missing then k.missing - 1 else k.missing
          target := none, timer := 0 } with
        collection := s.collection ++ [⟨i, c.number, c.paper, c.seat, s.hallTime, flags⟩] } := by
  simp only [State.recordScript, State.resolveTarget, State.modColl, State.modPaper, Table.modify_modify]

theorem State.recordScript_targetSeat (hp : s.paper c.paper = some p) (flags : EntryFlags) :
    (s.recordScript i c flags).targetSeat c.paper = p.coll.target := by
  have hq : Table.get s.papers c.paper = some p := hp
  simp [State.targetSeat, State.paper, State.recordScript, State.modColl, State.modPaper, Table.get_modify, hq]

section
variable (hc : s.cand i = some c) (hp : s.paper c.paper = some p) (hst : c.state = .finished ∨ c.state = .missing)
include hc hp hst

/-- Away from the paper's target the walk stays where it is, and an OUTSTANDING collection is tested again (R127). -/
theorem State.takeScript_away (haway : p.coll.target = none ∨ p.coll.target ≠ c.seat) : s.takeScript i how cause =
    (let v := ((s.recordScript i c (entryFlags p c how)).post 0 (.scriptCollected s.collection.length i c.number c.paper c.seat
      (entryFlags p c how) p.coll.target)).traceOne i c cause
    if p.coll.state = .outstanding then v.settle c.paper .lastScript else v) := by
  have hoff : (p.coll.target.isSome && Decidable.decide (p.coll.target = c.seat)) = false := by
    rcases haway with h | h <;> simp [h]
  simp only [State.takeScript, hc, hp, hst, hoff, not_true, if_false, Bool.false_eq_true, State.postPassed, List.foldl_nil,
    State.recordScript_targetSeat hp]

/-- At the paper's target the walk goes on from there (R123, R127). -/
theorem State.takeScript_target (ht : p.coll.target = some n) (hn : c.seat = some n) : s.takeScript i how cause =
    (let r := ((s.recordScript i c (entryFlags p c how)).resolveTarget c.paper).findTarget c.paper
    (((r.1.post 0 (.scriptCollected s.collection.length i c.number c.paper c.seat (entryFlags p c how)
      (r.1.targetSeat c.paper))).traceOne i c cause).postPassed c.paper r.2).settle c.paper .walkEnd) := by
  have hat : (p.coll.target.isSome && Decidable.decide (p.coll.target = c.seat)) = true := by simp [ht, hn]
  simp only [State.takeScript, hc, hp, hst, hat, not_true, if_false, if_true]

end

theorem State.keyPress_unlooped (h : s.loop n = none) : s.keyPress n = s := by
  simp only [State.keyPress, h]

theorem decideCollectMark_range (h : 512 ≤ i) : decideCollectMark i s = refuse .range s := if_pos (Nat.not_lt.2 h)

theorem decideCollectMark_notFound (h : i < 512) (hc : s.cand i = none) : decideCollectMark i s = refuse .notFound s := by
  simp only [decideCollectMark, Config.indexCount, h, hc, not_true, if_false]

theorem decideCollectMark_defined (h : i < 512) (hc : s.cand i = some c) (hp : s.paper c.paper = some p) :
    decideCollectMark i s = if ¬ (c.state = .finished ∨ c.state = .missing) then refuse .state s
      else (s.takeScript i .host (.request 0x28), .ok (u16 s.collection.length ++ u8 (entryFlags p c .host).code)) := by
  simp only [decideCollectMark, Config.indexCount, h, hc, hp, not_true, if_false]

/-! ### The start and the close of a collection (R121, R134) -/

section
variable (hp : s.paper slot = some p)
include hp

theorem State.startCollection_started (h : p.coll.state ≠ .idle) (why : CollCause) : s.startCollection slot why = s := by
  simp only [State.startCollection, hp]
  exact if_pos h

theorem State.startCollection_idle (h : p.coll.state = .idle) (why : CollCause) : s.startCollection slot why =
    ((s.findTarget slot).1.postDeferred slot s.cands (s.findTarget slot).2).settle slot why := by
  simp only [State.startCollection, hp]
  exact if_neg (not_not.2 h)

/-- Without a walk there is nothing to advance (R121). -/
theorem State.startCollection_unwalked (h : p.coll.state = .idle) (hw : p.defn.walk = none) (hb : s.Bounded)
    (why : CollCause) : s.startCollection slot why = s.settle slot why := by
  have hstay : s.findTarget slot = (s, []) := State.walkOn_unwalked hp hw
  have hquiet : s.postDeferred slot s.cands [] = s := State.traceAllBy_self hb.cands fun _ => .collection
  rw [State.startCollection_idle hp h, hstay, hquiet]

end

theorem Cand.toMissing_eq (c : Cand) : c.toMissing = if c.state = .finished then
    { c with state := .missing, flags := { c.flags with missing := true } } else c := rfl

theorem State.countCands_finished_eq : s.countCands slot (fun d => Decidable.decide (d.state = .finished)) =
    s.cands.countP (fun e : Nat × Cand => e.2.paper = slot ∧ e.2.state = CandState.finished) :=
  State.countCands_eq fun _ => decide_eq_true_iff

/-- All that the close of a collection does (R134). -/
theorem State.closeCollection_eq (s : State) (slot : Nat) : s.closeCollection slot =
    ((({ s with cands := s.cands.map (fun e : Nat × Cand => if e.2.paper = slot ∧ e.2.state = CandState.finished then
        (e.1, { e.2 with state := .missing, flags := { e.2.flags with missing := true } }) else e) }.modColl slot
      fun k => { k with
        target := none, timer := 0, cursor := { k.cursor with exhausted := true }
        missing := k.missing +
          s.cands.countP (fun e : Nat × Cand => e.2.paper = slot ∧ e.2.state = CandState.finished) }).traceAll s.cands
      (.request 0x29)).setColl slot .complete .request) := by
  simp only [State.closeCollection, State.mapCands_ite Cand.toMissing_eq, State.countCands_finished_eq]

/-- A candidate of the paper is active where one of its records is in one of R82's three states. -/
theorem State.activeCount_ne_zero_iff : s.activeCount slot ≠ 0 ↔ ∃ e ∈ s.cands, e.2.paper = slot ∧
    (e.2.state = CandState.reading ∨ e.2.state = CandState.writing ∨ e.2.state = CandState.resting) := by
  rw [State.activeCount_eq, ← Nat.pos_iff_ne_zero, List.countP_pos_iff]
  simp only [decide_eq_true_eq]

theorem decideCollectClose_range (h : 8 ≤ slot) : decideCollectClose slot s = refuse .range s := if_pos (Nat.not_lt.2 h)

theorem decideCollectClose_notFound (h : slot < 8) (hp : s.paper slot = none) :
    decideCollectClose slot s = refuse .notFound s := by
  simp only [decideCollectClose, Config.slotCount, h, hp, not_true, if_false]

section
variable (h : slot < 8) (hp : s.paper slot = some p)
include h hp

theorem decideCollectClose_refused (hr : p.coll.state = .idle ∨ s.activeCount slot ≠ 0) :
    decideCollectClose slot s = refuse .state s := by
  rcases hr with hr | hr <;> simp [decideCollectClose, Config.slotCount, h, hp, hr]

theorem decideCollectClose_taken (hi : p.coll.state ≠ .idle) (ha : s.activeCount slot = 0) : decideCollectClose slot s =
    if p.coll.state = .complete then (s, .ok (u16 0 ++ u16 p.coll.collected ++ u16 p.coll.missing))
    else (s.closeCollection slot, .ok (u16 (s.countCands slot fun d => Decidable.decide (d.state = .finished)) ++
      u16 p.coll.collected ++ u16 (p.coll.missing + s.countCands slot fun d => Decidable.decide (d.state = .finished)))) := by
  simp only [decideCollectClose, Config.slotCount, h, hp, hi, ha, not_true, if_false, ne_eq]

end

end Sys2Proof.Machine

section
open Sys2Proof Sys2Proof.Machine

/-- Settles O45, by the checks of R133, the candidate's state, and whether the script is taken at the target. -/
theorem collectMarkTakesTheScript : Obligations.CollectMarkTakesTheScript := by
  refine ⟨fun tag i s h => ⟨fun hi => ?_, fun hi hc => ?_⟩, fun s slot p why new hp hnew => ?_, fun _ _ _ => rfl,
    fun tag i c p s h hi hc hp => ⟨fun hst haway fl u hfl hu => ?_, fun n x fl u hf hn ht hx ho hl hfl hu => ?_,
      fun hf hm => ?_, fun n hst ht hn taken htaken => ?_, fun slot fuel q w cur offered t passed hq hw ha ht => ?_⟩⟩
  · exact running_hostRequest_refused h (r := .collectMark i) (decideCollectMark_range (s := s.pump) hi)
  · exact running_hostRequest_refused h (r := .collectMark i) (decideCollectMark_notFound (s := s.pump) hi hc)
  · rw [State.settle_defined hp, ← hnew]
    exact State.setColl_defined hp new why
  · have hd := (decideCollectMark_defined (s := s.pump) hi hc hp).trans (if_neg (not_not.2 hst))
    rw [State.takeScript_away (s := s.pump) hc hp hst haway] at hd
    subst hfl hu
    exact running_hostRequest_ok h (r := .collectMark i) (by simp) hd
  · obtain ⟨r, hr⟩ := Option.ne_none_iff_exists'.1 hl
    have hk := (State.keyPress_eq hx hr ho hc hp).trans ((if_neg ht).trans (if_pos hf))
    rw [hk, State.takeScript_away hc hp (.inl hf) (.inr (hn ▸ ht)), State.recordScript_finished hf]
    subst hfl hu
    rfl
  · exact running_hostRequest_refused h (r := .collectMark i)
      ((decideCollectMark_defined (s := s.pump) hi hc hp).trans (if_pos (not_or.2 ⟨hf, hm⟩)))
  · subst htaken
    refine ⟨fun fl hfl => ?_, fun x hx ho => ?_⟩
    · have hd := (decideCollectMark_defined (s := s.pump) hi hc hp).trans (if_neg (not_not.2 hst))
      rw [State.takeScript_target (s := s.pump) hc hp hst ht hn, State.recordScript_resolveTarget] at hd
      subst hfl
      exact running_hostRequest_ok h (r := .collectMark i) (by simp) hd
    · cases hl : s.loop n with
      | none => exact State.keyPress_unlooped hl
      | some r =>
        have hk := (State.keyPress_eq hx hl ho hc hp).trans (if_pos ht)
        rw [State.takeScript_target hc hp hst ht hn, State.recordScript_resolveTarget] at hk
        exact hk
  · subst ht
    refine ⟨rfl, fun hnone => ?_, fun n x hsome hx => ⟨fun ho => ?_, fun k d ho hd =>
      ⟨fun hpaper hact => ?_, fun hpaper hf hdef he => ?_, fun hpaper hf hdef he => ?_, fun hother => ?_⟩⟩⟩
    · exact State.walkOn_exhausted hq hw (hnone ▸ ha)
    all_goals subst hsome
    · exact State.walkOn_pass hq hw ha (State.judge_vacant hx ho)
    · exact State.walkOn_deferred hq hw ha hd (fault := false)
        (State.judge_active hx ho hd hpaper ((CandState.active_iff _).2 hact))
    · exact State.walkOn_target hq hw ha (State.judge_target hx ho hd hpaper hf hdef he)
    · exact State.walkOn_deferred hq hw ha hd (fault := true) (State.judge_fault hx ho hd hpaper hf hdef he)
    · refine State.walkOn_pass hq hw ha (State.judge_pass hx ho hd (hother.imp_right fun hst => ?_))
      rcases hst with hst | hst | hst | hst | hst | hst | hst | ⟨hst, hdef⟩ <;> simp [hst, CandState.active]
      exact hdef

/-- Settles O46, by the checks of R134 in their order, and by whether the collection is IDLE. -/
theorem collectCloseMakesTheRestMissing : Obligations.CollectCloseMakesTheRestMissing := by
  refine ⟨fun tag slot s h => ⟨fun hslot => ?_, fun hslot hp => ?_⟩,
    fun s slot p new why hp => State.setColl_defined hp new why,
    fun s t slot p why passed hp hfind => ⟨fun hi => State.startCollection_started hp hi why, fun hi => ?_,
      fun hi hw hb ht => ?_⟩, fun tag slot p s h hslot hp => ?_⟩
  · exact running_hostRequest_refused h (r := .collectClose slot) (decideCollectClose_range (s := s.pump) hslot)
  · exact running_hostRequest_refused h (r := .collectClose slot) (decideCollectClose_notFound (s := s.pump) hslot hp)
  · rw [State.startCollection_idle hp hi, hfind]
    rfl
  · rw [State.startCollection_unwalked hp hi hw hb, State.settle_defined hp, if_neg (not_not.2 ht)]
  · split
    next hr =>
      exact running_hostRequest_refused h (r := .collectClose slot) (decideCollectClose_refused (s := s.pump) hslot hp
        (hr.imp_right State.activeCount_ne_zero_iff.2))
    next hr =>
    obtain ⟨hi, ha⟩ := not_or.1 hr
    have hd := decideCollectClose_taken (s := s.pump) hslot hp hi
      (not_not.1 fun hne => ha (State.activeCount_ne_zero_iff (s := s.pump).1 hne))
    split
    next hdone => exact running_hostRequest_ok h (r := .collectClose slot) (by simp) (hd.trans (if_pos hdone))
    next hopen =>
      rw [if_neg hopen, State.closeCollection_eq, State.countCands_finished_eq] at hd
      exact running_hostRequest_ok h (r := .collectClose slot) (by simp) hd

end
end

section
/-! PROOF. The bodies of the requests: every item is read back as it was written, at its place in the body (R138, R198, R199,
R201). -/

namespace Sys2Proof.Machine

/-! ### One item written and read back (R198) -/

theorem u16_value {n : Nat} (h : n < 65536) :
    (BitVec.ofNat 8 (n / 256)).toNat * 256 + (BitVec.ofNat 8 n).toNat = n := by
  simp only [BitVec.toNat_ofNat]
  omega

theorem u24_value {n : Nat} (h : n < 16777216) :
    ((BitVec.ofNat 8 (n / 65536)).toNat * 256 + (BitVec.ofNat 8 (n / 256)).toNat) * 256 + (BitVec.ofNat 8 n).toNat = n := by
  simp only [BitVec.toNat_ofNat]
  omega

theorem u8_value {n : Nat} (h : n < 256) : (BitVec.ofNat 8 n).toNat = n := by
  simp only [BitVec.toNat_ofNat]
  omega

theorem s8_value {z : Int} (hlow : -128 ≤ z) (hhigh : z < 128) : (BitVec.ofInt 8 z).toInt = z := by
  rw [BitVec.toInt_ofInt, Int.bmod_eq_of_le] <;> simpa

theorem s16_value {z : Int} (hlow : -32768 ≤ z) (hhigh : z < 32768) :
    (BitVec.ofNat 16 ((BitVec.ofNat 8 ((BitVec.ofInt 16 z).toNat / 256)).toNat * 256 +
      (BitVec.ofNat 8 (BitVec.ofInt 16 z).toNat).toNat)).toInt = z := by
  rw [u16_value (BitVec.isLt _), BitVec.ofNat_toNat, BitVec.setWidth_eq, BitVec.toInt_ofInt, Int.bmod_eq_of_le] <;> simpa

theorem mask_value (mask : BitVec 48) : mask.extractLsb' 40 8 ++ mask.extractLsb' 32 8 ++ mask.extractLsb' 24 8 ++
    mask.extractLsb' 16 8 ++ mask.extractLsb' 8 8 ++ mask.extractLsb' 0 8 = mask := by
  refine BitVec.eq_of_getLsbD_eq fun i hi => ?_
  simp only [BitVec.getLsbD_append, BitVec.getLsbD_extractLsb']
  split_ifs <;> grind


/-! ### Items at a place of a body -/

@[simp] theorem at8_cons_zero (b : Byte) (body : List Byte) : at8 (b :: body) 0 = b.toNat := rfl

@[simp] theorem at8_cons_succ (b : Byte) (body : List Byte) (i : Nat) : at8 (b :: body) (i + 1) = at8 body i := rfl

@[simp] theorem atS8_cons_zero (b : Byte) (body : List Byte) : atS8 (b :: body) 0 = b.toInt := rfl

@[simp] theorem atS8_cons_succ (b : Byte) (body : List Byte) (i : Nat) : atS8 (b :: body) (i + 1) = atS8 body i := rfl

theorem atSeatWalk_drop (body : List Byte) (i : Nat) : atSeatWalk body i = atSeatWalk (body.drop i) 0 := by
  simp [atSeatWalk, at8, atS8]

theorem atBlockWalk_drop (body : List Byte) (i : Nat) : atBlockWalk body i = atBlockWalk (body.drop i) 0 := by
  simp [atBlockWalk, atS16, at16, at8, Nat.add_assoc]

theorem atSeatWalk_writeSeatWalk {w : SeatWalkArgs} (hw : w.wellFormed = true) (rest : List Byte) :
    atSeatWalk (writeSeatWalk w ++ rest) 0 = w := by
  simp only [SeatWalkArgs.wellFormed, Bool.and_eq_true, decide_eq_true_eq] at hw
  simp [atSeatWalk, writeSeatWalk, u8, s8, u8_value, s8_value, hw, -BitVec.toNat_ofNat, -BitVec.toInt_ofInt]

theorem atBlockWalk_writeBlockWalk {w : BlockWalkArgs} (hw : w.wellFormed = true) (rest : List Byte) :
    atBlockWalk (writeBlockWalk w ++ rest) 0 = w := by
  simp only [BlockWalkArgs.wellFormed, Bool.and_eq_true, decide_eq_true_eq] at hw
  simp [atBlockWalk, writeBlockWalk, atS16, at16, u16, s16, u16_value, s16_value, hw, -BitVec.toNat_ofNat, -BitVec.toNat_ofInt,
    -BitVec.ofNat_toNat]

/-- The blocks of a format, one behind the other (R199). -/
theorem readBlocks_write {bs : List AnswerBlockArgs} (h : bs.all AnswerBlockArgs.wellFormed = true) :
    readBlocks bs.length (bs.flatMap fun b => u8 b.first ++ u8 b.count ++ u8 b.options ++ writeBlockWalk b.walk) = bs := by
  induction bs with
  | nil => rfl
  | cons b bs ih =>
    simp only [List.all_cons, Bool.and_eq_true, AnswerBlockArgs.wellFormed, decide_eq_true_eq] at h
    obtain ⟨⟨⟨⟨hfirst, hcount⟩, hoptions⟩, hwalk⟩, hrest⟩ := h
    rw [List.flatMap_cons, List.length_cons, readBlocks, atBlockWalk_drop]
    simp only [u8, List.cons_append, List.nil_append, at8_cons_zero, at8_cons_succ, u8_value, *]
    exact congrArg₂ List.cons
      (congrArg (AnswerBlockArgs.mk _ _ _) (atBlockWalk_writeBlockWalk hwalk _)) (ih hrest)

/-- The entries of a key, one behind the other (R199). -/
theorem readEntries_write {es : List KeyEntryArgs} (h : es.all KeyEntryArgs.wellFormed = true) :
    readEntries es.length (es.flatMap fun e => [e.keySet] ++ u8 e.weight ++ u8 e.penalty ++ u8 e.sect) = es := by
  induction es with
  | nil => rfl
  | cons e es ih =>
    simp only [List.all_cons, Bool.and_eq_true, KeyEntryArgs.wellFormed, decide_eq_true_eq] at h
    obtain ⟨⟨⟨hweight, hpenalty⟩, hsect⟩, hrest⟩ := h
    rw [List.flatMap_cons, List.length_cons, readEntries]
    simp only [u8, List.cons_append, List.nil_append, at8_cons_zero, at8_cons_succ, u8_value, *]
    exact congrArg (_ :: ·) (ih hrest)

theorem readHallArgs_write {a : HallConfigArgs} (h : a.wellFormed = true) : readHallArgs (writeHallArgs a) = a := by
  simp only [HallConfigArgs.wellFormed, Bool.and_eq_true, decide_eq_true_eq] at h
  simp [readHallArgs, writeHallArgs, at16, u8, u16, u8_value, u16_value, h, -BitVec.toNat_ofNat]

theorem readPaperArgs_write {slot : Nat} {a : PaperArgs} (h : a.wellFormed = true) :
    readPaperArgs (u8 slot ++ writePaperArgs a) = a := by
  simp only [PaperArgs.wellFormed, Bool.and_eq_true, decide_eq_true_eq, beq_iff_eq] at h
  obtain ⟨code, reading, writing, lateCutoff, noLeaveFirst, noLeaveLast, warnA, warnB, separation, collectTimeout,
    startPresent, start, walkPresent, walk⟩ := a
  match code, h with
  | [c0, c1, c2, c3, c4, c5, c6, c7], h =>
    have hwalk : atSeatWalk (writeSeatWalk walk) 0 = walk :=
      List.append_nil (writeSeatWalk walk) ▸ atSeatWalk_writeSeatWalk h.2 []
    rw [readPaperArgs, atSeatWalk_drop]
    simp [writePaperArgs, at16, at24, u8, u16, u24, u8_value, u16_value, u24_value, hwalk, h, -BitVec.toNat_ofNat]

theorem maskBytes_eq (mask : BitVec 48) : maskBytes mask = [mask.extractLsb' 0 8, mask.extractLsb' 8 8,
    mask.extractLsb' 16 8, mask.extractLsb' 24 8, mask.extractLsb' 32 8, mask.extractLsb' 40 8] := rfl

/-- The bytes of FORMAT_LOAD before the ID block's walk. -/
def formatHead (slot : Nat) (a : FormatArgs) : List Byte :=
  u8 slot ++ maskBytes a.mask ++ u8 a.subSamples ++ u8 a.rows ++ u8 a.refRow ++ u8 a.tBlank ++ u8 a.tMark ++ u8 a.margin ++
    u8 a.faintPolicy ++ u8 a.multiPolicy ++ u8 a.sectionFloor ++ s16 a.paperFloor

theorem formatLoad_body (slot : Nat) (a : FormatArgs) : u8 slot ++ writeFormatArgs a =
    formatHead slot a ++ (writeBlockWalk a.idBlock ++ (u8 a.blocks.length ++
      a.blocks.flatMap fun b => u8 b.first ++ u8 b.count ++ u8 b.options ++ writeBlockWalk b.walk)) := by
  simp only [writeFormatArgs, formatHead, listOf, List.append_assoc]

theorem length_formatHead (slot : Nat) (a : FormatArgs) : (formatHead slot a).length = 18 := rfl

theorem length_writeBlockWalk (w : BlockWalkArgs) : (writeBlockWalk w).length = 6 := rfl

theorem at8_append (xs ys : List Byte) (i : Nat) : at8 (xs ++ ys) (xs.length + i) = at8 ys i := by
  simp [at8, List.getElem?_append_right]

theorem formatLoad_count {slot : Nat} {a : FormatArgs} (h : a.blocks.length < 256) :
    at8 (u8 slot ++ writeFormatArgs a) 24 = a.blocks.length := by
  rw [formatLoad_body, ← List.append_assoc]
  exact (at8_append (formatHead slot a ++ writeBlockWalk a.idBlock) _ 0).trans (u8_value h)

theorem readFormatArgs_write {slot : Nat} {a : FormatArgs} (h : a.wellFormed = true) :
    readFormatArgs (u8 slot ++ writeFormatArgs a) = a := by
  simp only [FormatArgs.wellFormed, Bool.and_eq_true, decide_eq_true_eq] at h
  obtain ⟨⟨⟨hitems, hidBlock⟩, hlength⟩, hblocks⟩ := h
  have hcount : a.blocks.length < 256 := by omega
  have hmask : atMask (u8 slot ++ writeFormatArgs a) 1 = a.mask := by
    simpa [atMask, writeFormatArgs, u8, maskBytes_eq] using mask_value a.mask
  have hid : atBlockWalk (u8 slot ++ writeFormatArgs a) 18 = a.idBlock := by
    rw [formatLoad_body, atBlockWalk_drop, List.drop_left' (length_formatHead slot a)]
    exact atBlockWalk_writeBlockWalk hidBlock _
  have hread : readBlocks (at8 (u8 slot ++ writeFormatArgs a) 24) ((u8 slot ++ writeFormatArgs a).drop 25) = a.blocks := by
    have hpre : (formatHead slot a ++ writeBlockWalk a.idBlock ++ u8 a.blocks.length).length = 25 := rfl
    rw [formatLoad_count hcount, formatLoad_body, ← List.append_assoc, ← List.append_assoc, List.drop_left' hpre]
    exact readBlocks_write hblocks
  rw [readFormatArgs, hmask, hid, hread]
  simp [writeFormatArgs, maskBytes_eq, atS16, at16, u8, s16, u16, u8_value, s16_value, hitems,
    -BitVec.toNat_ofNat, -BitVec.toNat_ofInt, -BitVec.ofNat_toNat]

theorem readBody_requestBody {r : Request} (h : r.wellFormed = true) :
    readBody (requestKind r) (requestBody r) = some r := by
  cases r with
  | hallConfig a => exact congrArg (some ∘ Request.hallConfig) (readHallArgs_write h)
  | paperDefine slot a =>
    simp only [Request.wellFormed, Bool.and_eq_true, decide_eq_true_eq] at h
    exact congrArg some (congrArg₂ Request.paperDefine (u8_value h.1) (readPaperArgs_write h.2))
  | formatLoad slot a =>
    simp only [Request.wellFormed, Bool.and_eq_true, decide_eq_true_eq] at h
    exact congrArg some (congrArg₂ Request.formatLoad (u8_value h.1) (readFormatArgs_write h.2))
  | keyLoad slot first entries =>
    simp only [Request.wellFormed, Bool.and_eq_true, decide_eq_true_eq] at h
    obtain ⟨⟨⟨hslot, hfirst⟩, hlength⟩, hentries⟩ := h
    have hcount : entries.length < 256 := by omega
    exact congrArg some (congr (congrArg₂ Request.keyLoad (u8_value hslot) (u8_value hfirst))
      ((congrArg (readEntries · _) (u8_value hcount)).trans (readEntries_write hentries)))
  | allocate slot walk spill =>
    simp only [Request.wellFormed, Bool.and_eq_true, decide_eq_true_eq] at h
    obtain ⟨⟨hslot, hwalk⟩, hspill⟩ := h
    have hread : atSeatWalk (u8 slot ++ writeSeatWalk walk ++ u8 spill) 1 = walk :=
      (atSeatWalk_drop _ 1).trans (atSeatWalk_writeSeatWalk hwalk (u8 spill))
    exact congrArg some (congr (congrArg₂ Request.allocate (u8_value hslot) hread) (u8_value hspill))
  | _ =>
    simp only [Request.wellFormed, Bool.and_eq_true, decide_eq_true_eq] at h
    simp [readBody, requestKind, requestBody, at16, at24, u8, u16, u24, u8_value, u16_value, u24_value, h,
      -BitVec.toNat_ofNat]

/-- The length of a body that is written is the one its kind needs (R199). -/
theorem bodyLength_requestBody {r : Request} (h : r.wellFormed = true) :
    bodyLength (requestKind r) (requestBody r) = some (requestBody r).length := by
  simp only [Request.wellFormed] at h
  cases r with
  | paperDefine slot a =>
    simp only [PaperArgs.wellFormed, Bool.and_eq_true, beq_iff_eq] at h
    simp [bodyLength, requestKind, requestBody, writePaperArgs, writeSeatWalk, h]
  | formatLoad slot a =>
    simp only [FormatArgs.wellFormed, Bool.and_eq_true, decide_eq_true_eq] at h
    have hcount : at8 (u8 slot ++ writeFormatArgs a) 24 = a.blocks.length := formatLoad_count (by omega)
    have hlength : (u8 slot ++ writeFormatArgs a).length = 25 + 9 * a.blocks.length := by
      have hblock : ∀ b : AnswerBlockArgs,
          (u8 b.first ++ u8 b.count ++ u8 b.options ++ writeBlockWalk b.walk).length = 9 := fun _ => rfl
      rw [formatLoad_body]
      simp only [List.length_append, length_formatHead, length_writeBlockWalk, length_u8, List.length_flatMap, hblock,
        List.map_const', List.sum_replicate_nat]
      omega
    exact (congrArg (fun n => some (25 + 9 * n)) hcount).trans (congrArg some hlength.symm)
  | keyLoad slot first entries =>
    simp only [Bool.and_eq_true, decide_eq_true_eq] at h
    have hcount : at8 (requestBody (.keyLoad slot first entries)) 2 = entries.length := u8_value (by omega)
    have hlength : (requestBody (.keyLoad slot first entries)).length = 3 + 4 * entries.length := by
      simp [requestBody, listOf, List.length_flatMap]
      omega
    exact (congrArg (fun n => some (3 + 4 * n)) hcount).trans (congrArg some hlength.symm)
  | _ => rfl

/-- A body of the length its kind needs is read as the request it carries (R199). -/
theorem readRequest_of_read {kind : Nat} {body : List Byte} {r : Request} (hlength : bodyLength kind body = some body.length)
    (hread : readBody kind body = some r) : readRequest kind body = .request r := by
  have hfixed : ¬ ((kind = 0x30 ∧ body.length < 25) ∨ (kind = 0x32 ∧ body.length < 3)) := by
    rintro (⟨rfl, hshort⟩ | ⟨rfl, hshort⟩)
    · have : 25 + 9 * at8 body 24 = body.length := Option.some.inj hlength
      omega
    · have : 3 + 4 * at8 body 2 = body.length := Option.some.inj hlength
      omega
  simp only [readRequest, hlength, hread, if_neg hfixed, if_true]

end Sys2Proof.Machine

section
open Sys2Proof Sys2Proof.Machine

/-- Settles O5, from the length of each body and the items read back at their places. -/
theorem requestBodyRoundTrip : Obligations.RequestBodyRoundTrip := by
  refine ⟨fun r h => readRequest_of_read (bodyLength_requestBody h) (readBody_requestBody h), fun sw hsw bw hbw r => ?_⟩
  subst hsw hbw
  cases r with
  | paperDefine slot a => simp only [requestKind, requestBody, writePaperArgs, writeSeatWalk, List.append_assoc]
  | formatLoad slot a =>
    simp only [requestKind, requestBody, writeFormatArgs, writeBlockWalk, listOf, maskBytes_eq, List.append_assoc]
  | keyLoad slot first entries => simp only [requestKind, requestBody, listOf, List.append_assoc]
  | _ => rfl

end
end

section
/-! PROOF. The reader's operations, said once: the transmit queue and the feed, the messages that have been sent, and the records that
a tag finds (R138, R140 to R142, R152). -/

namespace Sys2Proof.Machine

variable {s : State} {r : Reader}

/-- What a command other than RESET leaves with RESET high, read off what its operation does (log 6). -/
theorem running_next {f : State → State} (h : s.resetLow = false) {u : State} (hu : f s.pump = u) :
    running f s = .next u.pump := by
  rw [running_high f h, hu]

/-- A command whose event cannot come about leaves the state but for the transmitter's choice (log 5). -/
theorem running_unchanged {f : State → State} (h : s.resetLow = false) (hu : f s.pump = s.pump) :
    running f s = .next s.pump := by
  rw [running_next h hu, State.pump_pump]

/-! ### The feed (R140, R142) -/

/-- The feed is worked out in the transmit queue alone. -/
theorem Reader.updateFeed_eq (r : Reader) : ∃ ms, r.updateFeed = { r with tx := ms } := by
  have hmod : ∀ f, ∃ ms, r.modQueued f = { r with tx := ms } := fun f => by
    unfold Reader.modQueued
    split
    · exact ⟨r.tx, rfl⟩
    · exact ⟨_, rfl⟩
  unfold Reader.updateFeed
  dsimp only
  split
  · split_ifs
    · exact ⟨r.tx, rfl⟩
    · exact hmod _
    · exact hmod _
  · split_ifs
    · exact ⟨r.tx, rfl⟩
    · exact ⟨_, rfl⟩

theorem Reader.feedWanted_iff : r.feedWanted = true ↔ r.bound ≠ none ∧ r.ready = true ∧
    (r.buf0.state = .free ∨ r.buf1.state = .free) ∧ r.records.length < 4 := by
  simp [Reader.feedWanted, Option.isSome_iff_ne_none, and_assoc]

/-- Without its FEEDs a list has none. -/
theorem feedIn_filter (ms : List TxMsg) : feedIn (ms.filter fun m => !m.isFeed) = none := by
  induction ms with
  | nil => rfl
  | cons m ms ih =>
    cases m with
    | feed go => exact ih
    | geometry mask n rows => exact ih
    | divert d => exact ih

theorem feedIn_map (go : Bool) (ms : List TxMsg) :
    feedIn (ms.map fun m => if m.isFeed then .feed go else m) = (feedIn ms).map fun _ => go := by
  induction ms with
  | nil => rfl
  | cons m ms ih =>
    cases m with
    | feed x => rfl
    | geometry mask n rows => exact ih
    | divert d => exact ih

theorem feedIn_append (ms : List TxMsg) (go : Bool) : feedIn (ms ++ [.feed go]) = some ((feedIn ms).getD go) := by
  induction ms with
  | nil => rfl
  | cons m ms ih =>
    cases m with
    | feed x => rfl
    | geometry mask n rows => exact ih
    | divert d => exact ih

/-- A change of the messages not begun leaves the message being sent. -/
theorem Reader.modQueued_cases (r : Reader) (f : List TxMsg → List TxMsg) : (r.tx = [] ∧ r.modQueued f = r) ∨
    ∃ m ms, r.tx = m :: ms ∧ r.modQueued f = { r with tx := m :: f ms } := by
  unfold Reader.modQueued
  split
  next h => exact .inl ⟨h, rfl⟩
  next m ms h => exact .inr ⟨m, ms, h, rfl⟩

theorem Reader.modQueued_feedBegun (r : Reader) (f : List TxMsg → List TxMsg) : (r.modQueued f).feedBegun = r.feedBegun := by
  rcases r.modQueued_cases f with ⟨-, e⟩ | ⟨m, ms, h, e⟩
  · rw [e]
  · rw [e]
    simp only [Reader.feedBegun, h]
    cases m <;> rfl

theorem Reader.modQueued_queued {f : List TxMsg → List TxMsg} (hf : f [] = []) :
    (r.modQueued f).queued = f r.queued := by
  rcases r.modQueued_cases f with ⟨h, e⟩ | ⟨m, ms, h, e⟩
  · simp [e, Reader.queued, h, hf]
  · simp [e, Reader.queued, h]

/-- Once the feed is worked out, the FEED that is queued, or else the one begun last, is the one wanted (R142, log 12). -/
theorem Reader.updateFeed_wanted (r : Reader) :
    (feedIn r.updateFeed.queued).getD r.updateFeed.feedBegun = r.feedWanted := by
  unfold Reader.updateFeed
  dsimp only
  split
  next queued hq =>
    split_ifs with hsame hbegun
    · simp [hq, hsame]
    · rw [Reader.modQueued_queued rfl, Reader.modQueued_feedBegun, feedIn_filter]
      exact hbegun.symm
    · rw [Reader.modQueued_queued rfl, feedIn_map, hq]
      rfl
  next hq =>
    split_ifs with hbegun
    · simp [hq, hbegun]
    · cases htx : r.tx with
      | nil => simp [Reader.push, Reader.queued, Reader.feedBegun, htx, feedIn]
      | cons m ms =>
        have htail : feedIn ms = none := by simpa [Reader.queued, htx] using hq
        simp [Reader.push, Reader.queued, htx, feedIn_append, htail]

/-- The feed touches no message but FEEDs (R140). -/
theorem Reader.updateFeed_filter (r : Reader) :
    r.updateFeed.tx.filter (fun m => !m.isFeed) = r.tx.filter (fun m => !m.isFeed) := by
  have hmod : ∀ f : List TxMsg → List TxMsg,
      (∀ ms, (f ms).filter (fun m => !m.isFeed) = ms.filter (fun m => !m.isFeed)) →
      (r.modQueued f).tx.filter (fun m => !m.isFeed) = r.tx.filter (fun m => !m.isFeed) := fun f hf => by
    rcases r.modQueued_cases f with ⟨-, e⟩ | ⟨m, ms, h, e⟩
    · rw [e]
    · rw [e, h, List.filter_cons, List.filter_cons, hf]
  have hmap : ∀ (go : Bool) (ms : List TxMsg), (ms.map fun m => if m.isFeed then .feed go else m).filter (fun m => !m.isFeed) =
      ms.filter (fun m => !m.isFeed) := fun go ms => by
    induction ms with
    | nil => rfl
    | cons m ms ih => cases m <;> simp_all [TxMsg.isFeed]
  unfold Reader.updateFeed
  dsimp only
  split
  · split_ifs
    · rfl
    · exact hmod _ fun ms => by simp
    · exact hmod _ (hmap _)
  · split_ifs
    · rfl
    · simp [Reader.push, TxMsg.isFeed]

/-! ### The bytes of the messages (R138) -/

/-- Channel k of a mask is bit k mod 8 of byte k div 8 (R138). -/
theorem maskBytes_getLsbD {mask : BitVec 48} {k : Nat} {b : Byte} (h : (maskBytes mask)[k / 8]? = some b) :
    b.getLsbD (k % 8) = mask.getLsbD k := by
  simp only [maskBytes, List.getElem?_map, Option.map_eq_some_iff, List.getElem?_eq_some_iff, List.getElem_range] at h
  obtain ⟨i, ⟨-, rfl⟩, rfl⟩ := h
  rw [BitVec.getLsbD_extractLsb']
  have hlt : k % 8 < 8 := Nat.mod_lt _ (by decide)
  simp [hlt, Nat.div_add_mod]

theorem TxMsg.frame_divert (d : Divert) : (TxMsg.divert d).frame = readerFrame 0x43 (BitVec.ofNat 8 d.tag)
    (match d.decision with | .accept => [0, 0] | .reject r => [1, BitVec.ofNat 8 r.code]) := by
  obtain ⟨tag, _ | reason, entry, cand⟩ := d <;> rfl

/-! ### The messages that have been sent (R140 to R142, R152) -/

theorem Reader.popTx_eq {m : TxMsg} {ms : List TxMsg} (h : r.tx = m :: ms) :
    r.popTx m = { r with tx := ms, sent := some m.frame } := by
  rw [Reader.popTx, h, List.tail_cons]

theorem State.divertSent_eq {d : Divert} {ms : List TxMsg} (h : s.reader.tx = .divert d :: ms) : s.divertSent =
    (d.entry.elim (s.modReader fun r => { r with tx := ms, sent := some (TxMsg.divert d).frame }) fun e =>
      (s.modReader fun r => { r with tx := ms, sent := some (TxMsg.divert d).frame }).modSheet e fun x =>
        if x.state = SheetState.decided then { x with state := SheetState.diverted } else x).post d.tag
          (.sheetDiverted d.tag d.decision s.reader.bound d.cand) := by
  have hpop : s.modReader (Reader.popTx (.divert d)) =
      s.modReader fun r => { r with tx := ms, sent := some (TxMsg.divert d).frame } :=
    congrArg (fun r => { s with reader := r }) (Reader.popTx_eq h)
  rw [← hpop]
  unfold State.divertSent
  rw [h]
  obtain ⟨tag, decision, _ | e, cand⟩ := d <;> rfl

theorem State.geometrySent_eq {mask : BitVec 48} {n rows : Nat} {ms : List TxMsg}
    (h : s.reader.tx = .geometry mask n rows :: ms) : s.geometrySent =
      s.modReader fun r => { r with tx := ms, sent := some (TxMsg.geometry mask n rows).frame } := by
  unfold State.geometrySent
  rw [h]
  exact congrArg (fun r => { s with reader := r }) (Reader.popTx_eq h)

theorem State.feedSent_eq {go : Bool} {ms : List TxMsg} (h : s.reader.tx = .feed go :: ms) : s.feedSent =
      s.modReader fun r => { r with tx := ms, feedSent := go, sent := some (TxMsg.feed go).frame } := by
  unfold State.feedSent
  rw [h]
  exact congrArg (fun r => { s with reader := { r with feedSent := go } }) (Reader.popTx_eq h)

end Sys2Proof.Machine

section
open Sys2Proof Sys2Proof.Machine

/-- Settles O54, from what the feed leaves in the queue and from the message at its front. -/
theorem readerMessagesAndTheFeed : Obligations.ReaderMessagesAndTheFeed := by
  refine ⟨rfl, fun mask => ⟨rfl, fun k b _ hb => maskBytes_getLsbD hb⟩, fun s h => ⟨fun hg => ?_, fun hg => ?_,
    fun d ms htx u hu => ?_, fun mask n rows ms htx => ?_, fun go ms htx => ?_⟩,
    fun r => ⟨r.updateFeed_wanted, Reader.feedWanted_iff, r.updateFeed_filter⟩⟩
  · exact running_unchanged h (if_pos hg)
  · exact running_next h (if_neg (Bool.eq_false_iff.1 hg))
  · refine running_next h ((State.divertSent_eq (s := s.pump) htx).trans ?_)
    rw [TxMsg.frame_divert, hu]
    obtain ⟨tag, _ | reason, _ | e, cand⟩ := d <;> rfl
  · exact running_next h (State.geometrySent_eq (s := s.pump) htx)
  · refine running_next h ((State.feedSent_eq (s := s.pump) htx).trans ?_)
    cases go <;> rfl

end
end

section
/-! PROOF. Frames on the reader link: the bytes gather until the frame is complete, and then its check, kind and length decide (R138,
R139, R157). -/

namespace Sys2Proof.Machine

variable {s : State} {kind tag : Byte} {body got : List Byte}

/-! ### The receiver (R139) -/

/-- The bytes after the start byte are not yet a whole frame, nor has a length byte above 200 come (R139). -/
def FrameOpen (got : List Byte) : Prop := 3 ≤ got.length → at8 got 2 ≤ 200 ∧ got.length ≤ at8 got 2 + 3

theorem at8_append_left {xs : List Byte} {i : Nat} (h : i < xs.length) (ys : List Byte) : at8 (xs ++ ys) i = at8 xs i := by
  simp [at8, List.getElem?_append_left h]

theorem FrameOpen.of_append {ys : List Byte} (h : FrameOpen (got ++ ys)) : FrameOpen got := fun hlen => by
  have hopen := h (by simp; omega)
  rw [at8_append_left hlen, List.length_append] at hopen
  omega

theorem State.setReaderRx_none (h : s.reader.frame = none) : s.setReaderRx none = s := by
  rw [State.setReaderRx, State.modReader, ← h]

theorem State.readerBytes_append (xs ys : List Byte) : s.readerBytes (xs ++ ys) = (s.readerBytes xs).readerBytes ys :=
  List.foldl_append ..

theorem State.readerBytes_start (h : s.reader.frame = none) (bytes : List Byte) :
    s.readerBytes (0xA5#8 :: bytes) = (s.setReaderRx (some [])).readerBytes bytes := by
  simp [State.readerBytes, State.readerByte, h]

/-- Bytes gather as long as the frame is open. -/
theorem State.readerBytes_open (h : FrameOpen got) : (s.setReaderRx (some [])).readerBytes got = s.setReaderRx (some got) := by
  induction got using List.reverseRecOn with
  | nil => rfl
  | append_singleton got b ih =>
    have hlength : (got ++ [b]).length = got.length + 1 := List.length_append
    have hshort : ¬ ((got ++ [b]).length = 3 ∧ 200 < b.toNat) := fun ⟨hthree, hbig⟩ => by
      have hb : at8 (got ++ [b]) 2 = b.toNat := by
        rw [show 2 = got.length + 0 by omega]
        exact at8_append got [b] 0
      have := h hthree.ge
      omega
    have hpart : ¬ (3 ≤ (got ++ [b]).length ∧ (got ++ [b]).length = at8 (got ++ [b]) 2 + 4) := fun ⟨hthree, hwhole⟩ => by
      have := h hthree
      omega
    rw [State.readerBytes_append, ih h.of_append]
    exact (if_neg hshort).trans (if_neg hpart)

/-- The last byte completes a frame. -/
theorem State.readerByte_completes {b : Byte} (hlength : 3 ≤ got.length)
    (hwhole : got.length = at8 got 2 + 3) :
    (s.setReaderRx (some got)).readerByte b = s.completeReaderFrame (got ++ [b]) := by
  have hlen : (got ++ [b]).length = got.length + 1 := List.length_append
  have hshort : ¬ ((got ++ [b]).length = 3 ∧ 200 < b.toNat) := by omega
  have hlast : 3 ≤ (got ++ [b]).length ∧ (got ++ [b]).length = at8 (got ++ [b]) 2 + 4 := by
    rw [at8_append_left (by omega)]
    omega
  exact (if_neg hshort).trans (if_pos hlast)

/-! ### Whole frames (R138, R139) -/

/-- The header and the body of a frame, its check still to come. -/
theorem frameOpen_body (kind tag : Byte) (h : body.length ≤ 200) :
    FrameOpen ([kind, tag, BitVec.ofNat 8 body.length] ++ body) := fun _ => by
  have hn : at8 ([kind, tag, BitVec.ofNat 8 body.length] ++ body) 2 = body.length := u8_value (by omega)
  rw [hn]
  simp
  omega

theorem State.readerBytes_whole (hs : s.reader.frame = none) (h : body.length ≤ 200) (kind tag c : Byte) :
    s.readerBytes ([0xA5, kind, tag, BitVec.ofNat 8 body.length] ++ body ++ [c]) =
      s.completeReaderFrame ([kind, tag, BitVec.ofNat 8 body.length] ++ body ++ [c]) := by
  have hn : at8 ([kind, tag, BitVec.ofNat 8 body.length] ++ body) 2 = body.length := u8_value (by omega)
  have hlength : ([kind, tag, BitVec.ofNat 8 body.length] ++ body).length = body.length + 3 :=
    List.length_append.trans (Nat.add_comm ..)
  calc s.readerBytes ([0xA5, kind, tag, BitVec.ofNat 8 body.length] ++ body ++ [c])
      = (s.setReaderRx (some [])).readerBytes ([kind, tag, BitVec.ofNat 8 body.length] ++ body ++ [c]) :=
        State.readerBytes_start hs _
    _ = (s.setReaderRx (some ([kind, tag, BitVec.ofNat 8 body.length] ++ body))).readerByte c := by
        rw [State.readerBytes_append, State.readerBytes_open (frameOpen_body kind tag h)]
        rfl
    _ = _ := State.readerByte_completes (by omega) (by omega)

/-- The bytes that a check covers, without the check. -/
theorem sum_checked (kind tag c : Byte) (body : List Byte) : ([kind, tag, BitVec.ofNat 8 body.length] ++ body ++ [c]).sum =
    kind + tag + BitVec.ofNat 8 body.length + body.sum + c := by
  simp [add_assoc]

theorem State.completeReaderFrame_good (hs : s.reader.frame = none) {c : Byte}
    (hc : kind + tag + BitVec.ofNat 8 body.length + body.sum + c = 0xFF#8) :
    s.completeReaderFrame ([kind, tag, BitVec.ofNat 8 body.length] ++ body ++ [c]) =
      s.readerFrame kind.toNat tag.toNat body := by
  rw [State.completeReaderFrame, if_pos ((sum_checked ..).trans hc), State.setReaderRx_none hs]
  simp

theorem State.completeReaderFrame_bad (hs : s.reader.frame = none) {c : Byte}
    (hc : kind + tag + BitVec.ofNat 8 body.length + body.sum + c ≠ 0xFF#8) :
    s.completeReaderFrame ([kind, tag, BitVec.ofNat 8 body.length] ++ body ++ [c]) =
      s.post tag.toNat (.readerError .frame (some kind.toNat)) := by
  rw [State.completeReaderFrame, if_neg ((sum_checked ..).trans_ne hc), State.discardReaderFrame, State.setReaderRx_none hs]
  rfl

/-- The frame as it is sent, with the check that makes its bytes sum to 0xFF (R138). -/
theorem readerFrame_eq (kind tag : Byte) (body : List Byte) : ∃ c,
    readerFrame kind tag body = [0xA5, kind, tag, BitVec.ofNat 8 body.length] ++ body ++ [c] ∧
      kind + tag + BitVec.ofNat 8 body.length + body.sum + c = 0xFF#8 :=
  ⟨checkByte ([kind, tag] ++ u8 body.length ++ body), rfl, by simp [checkByte, u8]; ring⟩

/-- A good frame is taken by its kind and length (R139). -/
theorem running_readerFrame (h : s.resetLow = false) (hs : s.reader.frame = none) (hb : body.length ≤ 200) :
    exec (.readerFrameReceived (readerFrame kind tag body)) s =
      .next (s.pump.readerFrame kind.toNat tag.toNat body).pump := by
  obtain ⟨c, hframe, hcheck⟩ := readerFrame_eq kind tag body
  refine running_next h (f := fun t => t.readerBytes (readerFrame kind tag body)) ?_
  rw [hframe, State.readerBytes_whole (s := s.pump) hs hb, State.completeReaderFrame_good (s := s.pump) hs hcheck]

/-- A good frame of a known kind whose length its kind allows does what its row does (R139). -/
theorem running_readerFrame_taken (h : s.resetLow = false) (hs : s.reader.frame = none) (hb : body.length ≤ 200)
    {k : Nat} (hkind : kind.toNat = k) (hk : 1 ≤ k ∧ k ≤ 8) (hok : readerLengthOk k body = true) :
    exec (.readerFrameReceived (readerFrame kind tag body)) s = running (fun t => t.readerMessage k tag.toNat body) s := by
  rw [running_readerFrame h hs hb, hkind, State.readerFrame, if_neg (not_not.2 hk), if_neg (not_not.2 hok), running_high _ h]

/-- A good frame of a known kind whose length its kind does not allow is dropped (R139). -/
theorem running_readerFrame_length (h : s.resetLow = false) (hs : s.reader.frame = none) (hb : body.length ≤ 200)
    {k : Nat} (hkind : kind.toNat = k) (hk : 1 ≤ k ∧ k ≤ 8) (hbad : readerLengthOk k body = false) :
    exec (.readerFrameReceived (readerFrame kind tag body)) s =
      .next (s.pump.post tag.toNat (.readerError .length (some kind.toNat))).pump := by
  rw [running_readerFrame h hs hb, hkind, State.readerFrame, if_neg (not_not.2 hk), if_pos (by simp [hbad])]
  rfl

/-- A kind without a body: its frame does what its row does, and is dropped with any byte of a body (R138, R139). -/
theorem running_readerFrame_empty (h : s.resetLow = false) (hs : s.reader.frame = none) (hb : body.length ≤ 200)
    {k : Nat} (hkind : kind.toNat = k) (hk : k = 1 ∨ k = 4 ∨ k = 7 ∨ k = 8) :
    exec (.readerFrameReceived (readerFrame kind tag body)) s =
      if body = [] then running (fun t => t.readerMessage k tag.toNat []) s
      else .next (s.pump.post tag.toNat (.readerError .length (some kind.toNat))).pump := by
  have hok : readerLengthOk k body = body.isEmpty := by rcases hk with rfl | rfl | rfl | rfl <;> rfl
  split
  next hnil => subst hnil; exact running_readerFrame_taken h hs hb hkind (by omega) hok
  next hne => exact running_readerFrame_length h hs hb hkind (by omega) (by simpa [hok] using hne)

/-- A kind with a body of one byte: its frame is dropped with none or with more (R138, R139). -/
theorem running_readerFrame_one (h : s.resetLow = false) (hs : s.reader.frame = none) (hb : body.length ≤ 200)
    {k : Nat} (hkind : kind.toNat = k) (hk : k = 3 ∨ k = 5) (hbody : body.length ≠ 1) :
    exec (.readerFrameReceived (readerFrame kind tag body)) s =
      .next (s.pump.post tag.toNat (.readerError .length (some kind.toNat))).pump :=
  running_readerFrame_length h hs hb hkind (by omega) (by rcases hk with rfl | rfl <;> simpa [readerLengthOk] using hbody)

/-- A frame broken off by a gap: what has come of its kind and tag is told (R139). -/
theorem State.readerGap_open (hs : s.reader.frame = none) (hopen : FrameOpen got) :
    (s.readerBytes (0xA5#8 :: got)).readerGap =
      s.post (at8 got 1) (.readerError .frame (got.head?.map BitVec.toNat)) := by
  rw [State.readerBytes_start hs, State.readerBytes_open hopen]
  conv => rhs; rw [← State.setReaderRx_none hs]
  rfl

/-- A length byte above 200 breaks the frame off (R139). -/
theorem State.readerBytes_overlong (hs : s.reader.frame = none) (kind tag : Byte) {n : Byte} (hn : 200 < n.toNat) :
    s.readerBytes [0xA5, kind, tag, n] = s.post tag.toNat (.readerError .frame (some kind.toNat)) := by
  have hopen : FrameOpen [kind, tag] := fun hlength => absurd hlength (by simp)
  calc s.readerBytes [0xA5, kind, tag, n]
      = (s.setReaderRx (some [kind, tag])).readerByte n := by
        rw [← State.readerBytes_open hopen]
        exact State.readerBytes_start hs [kind, tag, n]
    _ = (s.setReaderRx none).readerError .frame (some kind.toNat) tag.toNat := if_pos ⟨rfl, hn⟩
    _ = _ := by rw [State.setReaderRx_none hs]; rfl

/-- A part of a frame is an open frame. -/
theorem frameOpen_of_prefix (h : body.length ≤ 200) {c : Byte}
    (hp : got <+: [kind, tag, BitVec.ofNat 8 body.length] ++ body ++ [c])
    (hne : got ≠ [kind, tag, BitVec.ofNat 8 body.length] ++ body ++ [c]) : FrameOpen got := by
  obtain ⟨rest, hrest⟩ := hp
  rcases List.eq_nil_or_concat rest with rfl | ⟨rest, b, rfl⟩
  · exact absurd (by simpa using hrest) hne
  · rw [List.concat_eq_append, ← List.append_assoc] at hrest
    have := (List.append_inj' hrest rfl).1
    exact (this ▸ frameOpen_body kind tag h : FrameOpen (got ++ rest)).of_append

end Sys2Proof.Machine

section
open Sys2Proof Sys2Proof.Machine

/-- Settles O51, by the kind of a whole frame, its check, and the bytes that have come of a broken one. -/
theorem readerFramesAreTakenOrDropped : Obligations.ReaderFramesAreTakenOrDropped := by
  intro kind tag body s h hs hb error herror
  subst herror
  refine ⟨readerFrame_eq kind tag body, ?_, ?_, ?_, ?_, ?_, ?_, ?_, ?_, ?_, ?_, ?_, ?_, ?_⟩
  · rintro rfl
    exact running_readerFrame_empty (kind := 1) h hs hb rfl (by decide)
  · rintro index samples rfl rfl
    exact running_readerFrame_taken (kind := 2) h hs hb rfl (by decide) rfl
  · rintro rfl
    match body with
    | [] => exact running_readerFrame_one (kind := 3) h hs hb rfl (by decide) (by simp)
    | [n] => exact running_readerFrame_taken (kind := 3) h hs hb rfl (by decide) rfl
    | _ :: _ :: _ => exact running_readerFrame_one (kind := 3) h hs hb rfl (by decide) (by simp)
  · rintro rfl
    exact running_readerFrame_empty (kind := 4) h hs hb rfl (by decide)
  · rintro rfl
    match body with
    | [] => exact running_readerFrame_one (kind := 5) h hs hb rfl (by decide) (by simp)
    | [k] => exact running_readerFrame_taken (kind := 5) h hs hb rfl (by decide) rfl
    | _ :: _ :: _ => exact running_readerFrame_one (kind := 5) h hs hb rfl (by decide) (by simp)
  · rintro rfl rfl
    match body with
    | [] => exact running_readerFrame_length (kind := 6) h hs hb rfl (by decide) rfl
    | m :: tags =>
      have hok : readerLengthOk 6 (m :: tags) = Decidable.decide (m.toNat = tags.length) := by
        rw [Bool.eq_iff_iff]
        simpa [readerLengthOk] using eq_comm
      dsimp only
      split
      next hm => exact running_readerFrame_taken (kind := 6) h hs hb rfl (by decide) (by simp [hok, hm])
      next hm => exact running_readerFrame_length (kind := 6) h hs hb rfl (by decide) (by simp [hok, hm])
  · rintro rfl
    exact running_readerFrame_empty (kind := 7) h hs hb rfl (by decide)
  · rintro rfl
    exact running_readerFrame_empty (kind := 8) h hs hb rfl (by decide)
  · intro hk
    have hunknown : ¬ (1 ≤ kind.toNat ∧ kind.toNat ≤ 8) := by
      rcases hk with rfl | hk
      · decide
      · omega
    rw [running_readerFrame h hs hb, State.readerFrame, if_pos hunknown]
    rfl
  · intro c hc
    refine running_next h (f := fun t => t.readerBytes _) ?_
    exact (State.readerBytes_whole (s := s.pump) hs hb kind tag c).trans (State.completeReaderFrame_bad (s := s.pump) hs hc)
  · intro got hne hp hpart
    obtain ⟨c, hframe, -⟩ := readerFrame_eq kind tag body
    rw [hframe] at hp hpart
    obtain ⟨b, got, rfl⟩ := List.exists_cons_of_ne_nil hne
    obtain ⟨rfl, hrest⟩ := List.cons_prefix_cons.1 hp
    have hopen := frameOpen_of_prefix hb hrest (fun heq => hpart (congrArg (_ :: ·) heq))
    refine running_next h (f := fun t => (t.readerBytes _).readerGap) ((State.readerGap_open (s := s.pump) hs hopen).trans ?_)
    match got with
    | [] | [_] | _ :: _ :: _ => rfl
  · refine running_unchanged h (f := fun t => (t.readerBytes []).readerGap) ?_
    simp only [State.readerGap, State.readerBytes, List.foldl_nil, State.pump_reader, hs]
  · intro length hlength
    exact running_next h (f := fun t => t.readerBytes _) (State.readerBytes_overlong (s := s.pump) hs kind tag hlength)

end
end

section
/-! PROOF. The records, the FIFO and the buffers under the reader's operations, said once: what a tag finds, what a freed buffer
becomes, what a spoiled record leaves, and the format that a ROW is judged by (R143 to R150). -/

namespace Sys2Proof.Machine

variable {s t : State} {r : Reader} {e tag : Nat} {x : SheetRec}

/-- A change of one record, with its number written out. -/
theorem Table.modify_eq_map {α : Type} (t : Table α) (k : Nat) (f : α → α) :
    Table.modify t k f = t.map fun a : Nat × α => if a.1 = k then (k, f a.2) else a :=
  List.map_congr_left fun a _ => by
    by_cases ha : a.1 = k <;> simp [ha]

/-! ### The record of a tag (R143) -/

/-- The record that a tag finds is listed and holds the tag. -/
theorem State.sheetOf_spec (h : s.sheetOf tag = some (e, x)) : (e, x) ∈ s.reader.records ∧ x.tag = tag :=
  ⟨List.mem_of_find?_eq_some h, by simpa using List.find?_some h⟩

theorem State.sheetOf_tag (h : s.sheetOf tag = some (e, x)) : x.tag = tag := (State.sheetOf_spec h).2

/-! ### The FIFO and the buffers (R144, R147, R148) -/

theorem Reader.disown_eq (r : Reader) (tag : Nat) : r.disown tag = { r with
    fifo := if r.owner = some tag then [] else r.fifo
    owner := if r.owner = some tag then none else r.owner
    moved := if r.owner = some tag then 0 else r.moved } := by
  unfold Reader.disown
  split <;> rfl

theorem SheetRec.waiting_iff {owner : Option Nat} : x.waiting owner = true ↔
    owner = some x.tag ∧ x.state = .receiving ∧ x.spoil = none ∧ x.buffer = none := by
  simp [SheetRec.waiting, and_assoc]

/-- A buffer that no owner waits for becomes FREE (R148). -/
theorem Reader.release_free (h : ∀ y ∈ r.records, y.2.waiting r.owner ≠ true) (b : Nat) :
    r.release b = r.setBuffer b .free := by
  have hfind : r.records.find? (fun y => y.2.waiting r.owner) = none := List.find?_eq_none.2 h
  unfold Reader.release
  rw [hfind]

/-- A buffer that an owner waits for is taken by it at once (R148). -/
theorem Reader.release_taken {k : Nat} {y : SheetRec} (hy : (k, y) ∈ r.records) (hw : y.waiting r.owner = true)
    (h : ∀ z ∈ r.records, z.2.waiting r.owner = true → z.1 = k) (b : Nat) :
    r.release b = { r.setBuffer b .filling with
      records := Table.modify r.records k fun x => { x with buffer := some b } } := by
  obtain ⟨z, hfind⟩ := Option.isSome_iff_exists.1
    ((List.find?_isSome (p := fun z : Nat × SheetRec => z.2.waiting r.owner)).2 ⟨(k, y), hy, hw⟩)
  have hz : z.1 = k :=
    h z (List.mem_of_find?_eq_some hfind) (List.find?_some (p := fun z : Nat × SheetRec => z.2.waiting r.owner) hfind)
  unfold Reader.release
  rw [hfind, ← hz]

/-- What the buffer of number `k` becomes when a record gives up the buffer `b` and no owner waits (R144, R148). -/
def freedBuffer (b : Option Nat) (k : Nat) (y : Buffer) : Buffer :=
  if b.map (fun n => n == 0) = some (k == 0) ∧ y.state ≠ .marking then { y with state := .free } else y

/-- A record's buffer becomes FREE where no owner waits, unless the marker reads it (R144). -/
theorem Reader.releaseOf_eq {b : Option Nat} (h : b = none ∨ r.owner = none) :
    r.releaseOf b = { r with buf0 := freedBuffer b 0 r.buf0, buf1 := freedBuffer b 1 r.buf1 } := by
  cases b with
  | none => rfl
  | some n =>
    have hfree : r.release n = r.setBuffer n .free := Reader.release_free (fun y _ hy => by
      simp [SheetRec.waiting_iff, h.resolve_left nofun] at hy) n
    simp only [Reader.releaseOf, hfree, Reader.setBuffer, Reader.modBuffer, Reader.buffer, freedBuffer]
    by_cases hn : n = 0
    · by_cases hm : r.buf0.state = .marking <;> simp [hn, hm]
    · by_cases hm : r.buf1.state = .marking <;> simp [hn, hm]

/-! ### A record is spoiled (R145) -/

theorem State.spoil_again (hx : s.sheet e = some x) (h : x.spoil ≠ none) (reason : Spoil) : s.spoil e reason = s := by
  simp only [State.spoil, hx, Option.isSome_iff_ne_none.2 h, if_true]

theorem State.spoil_eq (hx : s.sheet e = some x) (h : x.spoil = none) (reason : Spoil) : s.spoil e reason =
    (((s.modSheet e (fun y => { y with spoil := some reason, buffer := none })).modReader
      (fun r => (r.disown x.tag).releaseOf x.buffer)).post x.tag (.sheetSpoiled x.tag reason x.rows)).updateFeed := by
  simp [State.spoil, hx, h]

theorem State.spoil_unwaited (hx : s.sheet e = some x) (h : x.spoil = none)
    (hb : x.buffer = none ∨ s.reader.owner = some x.tag ∨ s.reader.owner = none) (reason : Spoil) :
    s.spoil e reason = ({ s with reader := { s.reader with
      records := Table.modify s.reader.records e fun y => { y with spoil := some reason, buffer := none }
      fifo := if s.reader.owner = some x.tag then [] else s.reader.fifo
      owner := if s.reader.owner = some x.tag then none else s.reader.owner
      moved := if s.reader.owner = some x.tag then 0 else s.reader.moved
      buf0 := freedBuffer x.buffer 0 s.reader.buf0
      buf1 := freedBuffer x.buffer 1 s.reader.buf1 } }.post x.tag (.sheetSpoiled x.tag reason x.rows)).updateFeed := by
  rw [State.spoil_eq hx h, State.modSheet, State.modReader, State.modReader, Reader.disown_eq, Reader.releaseOf_eq]
  · rcases hb with hb | hb | hb
    · exact .inl hb
    · exact .inr (if_pos hb)
    · exact .inr (by simp [hb])

/-! ### The format of the bound paper -/

theorem State.boundFormat_congr (hb : t.reader.bound = s.reader.bound) (hp : t.papers = s.papers) :
    t.boundFormat = s.boundFormat := by
  have hpaper : t.paper = s.paper := funext fun p => State.paper_congr hp p
  rw [State.boundFormat, State.boundFormat, hb, hpaper]

theorem State.spoil_boundFormat (s : State) (e : Nat) (reason : Spoil) : (s.spoil e reason).boundFormat = s.boundFormat := by
  cases hx : s.sheet e with
  | none => simp only [State.spoil, hx]
  | some x =>
    by_cases h : x.spoil = none
    · rw [State.spoil_eq hx h]
      refine State.boundFormat_congr ?_ rfl
      exact (Reader.updateFeed_frame _).2.trans ((Reader.Alike.disown _ x.tag).trans (.releaseOf _ x.buffer)).bound
    · rw [State.spoil_again hx h]

/-- A ROW counts up to the rows of the bound format (R149). -/
theorem State.countRow_eq {f : Format} (h : s.boundFormat = some f) (e : Nat) :
    s.countRow e = s.modSheet e fun y => { y with rows := min (y.rows + 1) f.rows } := by
  simp only [State.countRow, h, Option.elim_some]

theorem State.rowFits_iff {f : Format} (h : s.boundFormat = some f) {index n : Nat} : s.rowFits x index n = true ↔
    index = x.rows ∧ x.rows < f.rows ∧ n = f.channels * f.subSamples := by
  simp [State.rowFits, h, and_assoc]

/-! ### SHEET_BEGIN (R140, R146) -/

theorem State.divertUnrecorded_eq (s : State) (tag : Nat) (reason : Reason) : s.divertUnrecorded tag reason =
    if s.reader.tx.length < 10 then
      { s with reader := { s.reader with tx := s.reader.tx ++ [.divert ⟨tag, .reject reason, none, none⟩] } }
    else s.post tag (.readerError .txFull (some 1)) := by
  simp only [State.divertUnrecorded, Config.divertRoom, ← not_lt, ite_not]
  rfl

/-- SHEET_BEGIN without a paper bound, or with every entry in use (R146 lines 1 and 3). -/
theorem State.sheetBegin_unrecorded (h : s.reader.bound = none ∨ s.sheetOf tag = none ∧ ∀ e, e < 4 → s.sheet e ≠ none) :
    s.sheetBegin tag = s.divertUnrecorded tag (if s.reader.bound = none then .notBound else .noRecord) := by
  by_cases hb : s.reader.bound = none
  · simp [State.sheetBegin, hb]
  · obtain ⟨htag, hfull⟩ := h.resolve_left hb
    have hfree : Table.firstFree s.reader.records Config.sheetRecords = none := Table.firstFree_eq_none hfull
    simp [State.sheetBegin, State.beginSheet, htag, hfree, hb, Option.isNone_iff_eq_none]

theorem State.sheetBegin_reused (hb : s.reader.bound ≠ none) (h : s.sheetOf tag = some (e, x)) :
    s.sheetBegin tag = (s.closeLost e .tagReused none).beginSheet tag := by
  simp [State.sheetBegin, Option.isNone_iff_eq_none, hb, h]

/-- SHEET_BEGIN with a free entry: the lowest is opened (R146 lines 4 and 5, log 27). -/
theorem State.sheetBegin_opened (hb : s.reader.bound ≠ none) (htag : s.sheetOf tag = none) (he : e < 4)
    (hfree : s.sheet e = none) (hlow : ∀ k, k < e → s.sheet k ≠ none) :
    s.sheetBegin tag = (s.openSheet e tag).updateFeed := by
  have hfirst : Table.firstFree s.reader.records Config.sheetRecords = some e := Table.firstFree_eq_some he hfree hlow
  simp [State.sheetBegin, State.beginSheet, Option.isNone_iff_eq_none, hb, htag, hfirst]

/-- The sheet that finds the FIFO free owns it, with the lowest FREE buffer if there is one (R146 line 5). -/
theorem State.openSheet_owner (h : s.reader.owner = none) {b : Option Nat}
    (hb : b = if s.reader.buf0.state = .free then some 0 else if s.reader.buf1.state = .free then some 1 else none)
    (e tag : Nat) : s.openSheet e tag = { s with reader := { s.reader with
      records := Table.insert s.reader.records e ⟨tag, .receiving, b, 0, none, none, none, none⟩
      fifo := [], owner := some tag, moved := 0
      buf0 := if b = some 0 then { s.reader.buf0 with state := .filling } else s.reader.buf0
      buf1 := if b = some 1 then { s.reader.buf1 with state := .filling } else s.reader.buf1 } } := by
  have hfree : s.reader.freeBuffer = b := hb.symm
  rw [State.openSheet, if_neg (by simp [h]), hfree]
  obtain rfl | rfl | rfl : b = some 0 ∨ b = some 1 ∨ b = none := by
    rw [hb]
    split_ifs <;> simp
  all_goals rfl

/-- A number without a record is not listed. -/
theorem Table.ne_of_get_eq_none {α : Type} {t : Table α} {k : Nat} (h : Table.get t k = none) : ∀ a ∈ t, a.1 ≠ k := by
  induction t with
  | nil => simp
  | cons a t ih =>
    simp only [Table.get] at h
    split at h
    · cases h
    next hne => exact List.forall_mem_cons.2 ⟨hne, ih h⟩

theorem Table.modify_of_get_eq_none {α : Type} {t : Table α} {k : Nat} (h : Table.get t k = none) (f : α → α) :
    Table.modify t k f = t :=
  (List.map_congr_left fun a ha => if_neg (Table.ne_of_get_eq_none h a ha)).trans (List.map_id t)

/-- A change of the record just inserted is the insertion of the changed record. -/
theorem Table.modify_insert {α : Type} {t : Table α} {k : Nat} (h : Table.get t k = none) (v : α) (f : α → α) :
    Table.modify (Table.insert t k v) k f = Table.insert t k (f v) := by
  induction t with
  | nil => simp [Table.insert, Table.modify]
  | cons a t ih =>
    have hne : a.1 ≠ k := Table.ne_of_get_eq_none h a (by simp)
    have hrest : Table.get t k = none := by simpa [Table.get, hne] using h
    have hmod := Table.modify_of_get_eq_none hrest f
    simp only [Table.modify] at hmod ih
    simp only [Table.insert, if_neg hne.symm]
    split
    · simp [Table.modify, hne, hmod]
    · simp [Table.modify, hne, ih hrest]

/-- The sheet that finds the FIFO owned by another is spoiled at once (R145, R146 line 4). -/
theorem State.openSheet_spoiled (h : s.reader.owner ≠ none) (htag : s.reader.owner ≠ some tag) (hfree : s.sheet e = none) :
    s.openSheet e tag = ({ s with reader := { s.reader with
      records := Table.insert s.reader.records e ⟨tag, .receiving, none, 0, none, some .noBuffer, none, none⟩ } }.post tag
        (.sheetSpoiled tag .noBuffer 0)).updateFeed := by
  have hx : (s.modReader fun r => { r with
      records := Table.insert r.records e (SheetRec.opened tag none) }).sheet e = some (SheetRec.opened tag none) :=
    (Table.get_insert ..).trans (if_pos rfl)
  rw [State.openSheet, if_pos (Option.isSome_iff_ne_none.2 h), State.spoil_unwaited hx rfl (.inl rfl)]
  simp only [State.modReader, Table.modify_insert hfree]
  simp [SheetRec.opened, htag, freedBuffer]

end Sys2Proof.Machine
end

section
/-! PROOF. What SHEET_BEGIN, ROW, SHEET_END and SHEET_STORED do to an open record, case by case of their tables (R145 to R150). -/

namespace Sys2Proof.Machine

variable {s : State} {e b tag n : Nat} {x : SheetRec} {f : Format} {samples : List Byte}

/-! ### ROW (R147, R149) -/

theorem State.takeRow_unknown (h : s.sheetOf tag = none) (n : Nat) (samples : List Byte) : s.takeRow tag n samples = s := by
  simp only [State.takeRow, h]

theorem State.takeRow_decided (h : s.sheetOf tag = some (e, x)) (hst : x.state = .decided ∨ x.state = .diverted) (n : Nat)
    (samples : List Byte) : s.takeRow tag n samples = s := by
  rcases hst with hst | hst <;> simp only [State.takeRow, h, hst]

/-- A ROW after the record's end breaks the order (R149). -/
theorem State.takeRow_order (h : s.sheetOf tag = some (e, x))
    (hst : x.state = .stored ∨ x.state = .marking ∨ x.state = .receiving ∧ x.endTaken ≠ none) (n : Nat)
    (samples : List Byte) : s.takeRow tag n samples = s.post tag (.readerError .order (some 2)) := by
  rcases hst with hst | hst | ⟨hst, hend⟩
  · simp only [State.takeRow, h, hst, State.readerError]
  · simp only [State.takeRow, h, hst, State.readerError]
  · simp only [State.takeRow, h, hst, Option.isSome_iff_ne_none.2 hend, if_true, State.readerError]

/-- A ROW of a RECEIVING record counts; of an unspoiled one its samples are taken where it fits (R149). -/
theorem State.takeRow_receiving (h : s.sheetOf tag = some (e, x)) (hst : x.state = .receiving) (hend : x.endTaken = none) :
    s.takeRow tag n samples = if x.spoil ≠ none then s.countRow e
      else if s.rowFits x n samples.length then (s.takeSamples e x samples).countRow e
      else (s.spoil e .geometry).countRow e := by
  simp [State.takeRow, h, hst, hend, Option.isSome_iff_ne_none]

/-- With a buffer the samples move into it behind those that waited (R147, log 10). -/
theorem State.takeSamples_moved (ho : s.reader.owner = some x.tag) (hb : x.buffer = some b) :
    s.takeSamples e x samples = s.modReader fun r =>
      { r.modBuffer b (fun y => { y with mem := Mem.writeFrom y.mem s.reader.moved (s.reader.fifo ++ samples) }) with
        fifo := [], moved := s.reader.moved + (s.reader.fifo ++ samples).length } := by
  simp only [State.takeSamples, ho, ne_eq, not_true_eq_false, if_false, hb, State.modReader, Reader.moveSamples,
    Reader.modBuffer]
  by_cases h0 : b = 0 <;> simp [h0]

/-- Without a buffer they wait in the FIFO, and a sample beyond its 1024 places spoils the sheet (R147). -/
theorem State.takeSamples_waiting (ho : s.reader.owner = some x.tag) (hb : x.buffer = none) :
    s.takeSamples e x samples = if s.reader.fifo.length + samples.length ≤ 1024 then
      s.modReader fun r => { r with fifo := s.reader.fifo ++ samples } else s.spoil e .overrun := by
  simp only [State.takeSamples, ho, ne_eq, not_true_eq_false, if_false, hb]
  rfl

theorem State.takeSamples_boundFormat (s : State) (e : Nat) (x : SheetRec) (samples : List Byte) :
    (s.takeSamples e x samples).boundFormat = s.boundFormat := by
  by_cases ho : s.reader.owner = some x.tag
  · cases hb : x.buffer with
    | some b =>
      rw [State.takeSamples_moved ho hb]
      refine State.boundFormat_congr ?_ rfl
      simp only [State.modReader, Reader.modBuffer]
      split_ifs <;> rfl
    | none =>
      rw [State.takeSamples_waiting ho hb]
      split_ifs
      · exact State.boundFormat_congr rfl rfl
      · exact State.spoil_boundFormat ..
  · rw [State.takeSamples, if_pos ho]

/-- A ROW that fits brings its samples, and counts (R149). -/
theorem State.takeRow_fits (h : s.sheetOf tag = some (e, x)) (hst : x.state = .receiving) (hend : x.endTaken = none)
    (hx : x.spoil = none) (hf : s.boundFormat = some f) (hn : n = x.rows) (hr : x.rows < f.rows)
    (hl : samples.length = f.channels * f.subSamples) : s.takeRow tag n samples =
      (s.takeSamples e x samples).modSheet e fun y => { y with rows := min (y.rows + 1) f.rows } := by
  have hf' : (s.takeSamples e x samples).boundFormat = some f := (State.takeSamples_boundFormat ..).trans hf
  rw [State.takeRow_receiving h hst hend, if_neg (not_not.2 hx), if_pos ((State.rowFits_iff hf).2 ⟨hn, hr, hl⟩),
    State.countRow_eq hf']

/-- A ROW that does not fit spoils the sheet, and counts (R149). -/
theorem State.takeRow_misfits (h : s.sheetOf tag = some (e, x)) (hst : x.state = .receiving) (hend : x.endTaken = none)
    (hx : x.spoil = none) (hf : s.boundFormat = some f)
    (hbad : n ≠ x.rows ∨ f.rows ≤ x.rows ∨ samples.length ≠ f.channels * f.subSamples) : s.takeRow tag n samples =
      (s.spoil e .geometry).modSheet e fun y => { y with rows := min (y.rows + 1) f.rows } := by
  have hf' : (s.spoil e .geometry).boundFormat = some f := (State.spoil_boundFormat ..).trans hf
  have hunfit : ¬ s.rowFits x n samples.length = true := by
    rw [State.rowFits_iff hf]
    omega
  rw [State.takeRow_receiving h hst hend, if_neg (not_not.2 hx), if_neg hunfit, State.countRow_eq hf']

/-! ### SHEET_END and SHEET_STORED (R150) -/

theorem State.sheetEnd_unknown (h : s.sheetOf tag = none) (n : Nat) : s.sheetEnd tag n = s := by
  simp only [State.sheetEnd, h]

theorem State.sheetEnd_decided (h : s.sheetOf tag = some (e, x)) (hst : x.state = .decided ∨ x.state = .diverted) (n : Nat) :
    s.sheetEnd tag n = s := by
  rcases hst with hst | hst <;> simp only [State.sheetEnd, h, hst]

/-- A second SHEET_END breaks the order (R150). -/
theorem State.sheetEnd_order (h : s.sheetOf tag = some (e, x))
    (hst : x.state = .stored ∨ x.state = .marking ∨ x.state = .receiving ∧ x.endTaken ≠ none) (n : Nat) :
    s.sheetEnd tag n = s.post tag (.readerError .order (some 3)) := by
  rcases hst with hst | hst | ⟨hst, hend⟩
  · simp only [State.sheetEnd, h, hst, State.readerError]
  · simp only [State.sheetEnd, h, hst, State.readerError]
  · simp only [State.sheetEnd, h, hst, Option.isSome_iff_ne_none.2 hend, if_true, State.readerError]

/-- The state in which the end of the record in an entry has been taken: it has its place in the end order (R150). -/
def State.tookEnd (s : State) (e : Nat) : State :=
  (s.modSheet e (fun y => { y with endTaken := some s.reader.endCounter })).modReader
    (fun r => { r with endCounter := (s.reader.endCounter + 1) % 256 })

theorem State.sheetEnd_spoiled (h : s.sheetOf tag = some (e, x)) (hst : x.state = .receiving) (hend : x.endTaken = none)
    {reason : Spoil} (hx : x.spoil = some reason) (n : Nat) : s.sheetEnd tag n =
      ((s.tookEnd e).decideSheet e tag (.reject reason.reason) none false).updateFeed := by
  simp only [State.sheetEnd, h, hst, hend, Option.isSome_none, Bool.false_eq_true, if_false, hx]
  rfl

theorem State.sheetEnd_unspoiled (h : s.sheetOf tag = some (e, x)) (hst : x.state = .receiving) (hend : x.endTaken = none)
    (hx : x.spoil = none) (n : Nat) : s.sheetEnd tag n = (s.tookEnd e).endUnspoiled e x n := by
  simp only [State.sheetEnd, h, hst, hend, Option.isSome_none, Bool.false_eq_true, if_false, hx]
  rfl

/-- A sheet with the wrong number of rows is rejected (R150). -/
theorem State.endUnspoiled_geometry (hf : s.boundFormat = some f) (h : n ≠ f.rows ∨ x.rows ≠ f.rows) :
    s.endUnspoiled e x n = ((s.spoil e .geometry).decideSheet e x.tag (.reject .geometry) none false).updateFeed := by
  have hbad : ¬ s.boundFormat.any (fun f => n == f.rows && x.rows == f.rows) = true := by
    simp only [hf, Option.any_some, Bool.and_eq_true, beq_iff_eq]
    tauto
  simp only [State.endUnspoiled, if_neg hbad]

/-- A whole sheet waits for SHEET_STORED until its last sample has moved (R150). -/
theorem State.endUnspoiled_waits (hf : s.boundFormat = some f) (hn : n = f.rows) (hr : x.rows = f.rows)
    (h : x.buffer = none ∨ s.reader.fifo ≠ []) : s.endUnspoiled e x n = s := by
  cases hb : x.buffer with
  | none => simp [State.endUnspoiled, hf, hn, hr, hb]
  | some b => simp [State.endUnspoiled, hf, hn, hr, hb, h.resolve_left (by simp [hb])]

theorem State.endUnspoiled_stores (hf : s.boundFormat = some f) (hn : n = f.rows) (hr : x.rows = f.rows)
    (hb : x.buffer = some b) (h : s.reader.fifo = []) : s.endUnspoiled e x n = s.store e b := by
  simp [State.endUnspoiled, hf, hn, hr, hb, h]

theorem State.store_eq (s : State) (e b : Nat) : s.store e b = (s.modSheet e (fun y => { y with state := .stored })).modReader
    fun r => { r.modBuffer b (fun y => { y with state := .full }) with fifo := [], owner := none, moved := 0 } := by
  simp only [State.store, State.modReader, Reader.setBuffer, Reader.clearFifo, Reader.modBuffer]
  by_cases h0 : b = 0 <;> simp [h0]

/-- The samples of an ended owner have all been moved, and the sheet is STORED (R150). -/
theorem State.sheetStored_eq (h : s.sheetOf tag = some (e, x)) (ho : s.reader.owner = some tag) (hst : x.state = .receiving)
    (hend : x.endTaken ≠ none) (hx : x.spoil = none) (hb : x.buffer = some b) :
    s.sheetStored = (s.modSheet e (fun y => { y with state := .stored })).modReader fun r =>
      { r.modBuffer b (fun y => { y with state := .full, mem := Mem.writeFrom y.mem s.reader.moved s.reader.fifo }) with
        fifo := [], owner := none, moved := 0 } := by
  have hstored : s.sheetStored = (s.modReader (Reader.moveSamples b)).store e b := by
    simp [State.sheetStored, ho, h, hb, hst, hx, Option.isSome_iff_ne_none.2 hend]
  rw [hstored, State.store_eq]
  simp only [State.modSheet, State.modReader, Reader.moveSamples, Reader.modBuffer]
  by_cases h0 : b = 0 <;> simp [h0]

theorem State.atGate_unknown (h : s.sheetOf tag = none) : s.atGate tag = s := by
  simp only [State.atGate, h]

theorem State.stacked_unknown (h : s.sheetOf tag = none) {k : Nat} (hk : k ≤ 1) : s.stacked tag k = s := by
  obtain rfl | rfl : k = 0 ∨ k = 1 := by omega
  · simp only [State.stacked, stackerOf, h]
  · simp only [State.stacked, stackerOf, h]

end Sys2Proof.Machine

section
open Sys2Proof Sys2Proof.Machine

/-- Settles O52, by the lines of the tables of R146, R149 and R150. -/
theorem sheetsArriveByTheirTables : Obligations.SheetsArriveByTheirTables := by
  refine ⟨fun s e x reason freed hx hfreed => ⟨fun h => State.spoil_again hx h reason, fun h hb => ?_⟩,
    fun s tag h => ⟨fun hun => ?_, fun e x hb htag => ?_, fun e hb htag he hfree hlow =>
      ⟨fun b hbuf ho => ?_, fun ho hne => ?_⟩⟩,
    fun s tag index count samples h htag => ⟨?_, ?_, ?_, ?_, ?_⟩,
    fun s tag index count e samples x f h htag hf => ⟨fun hst => ⟨?_, ?_⟩, fun hst => ⟨?_, ?_⟩,
      fun hst hend counted hcounted => ⟨fun hx => ?_, fun hx hbad => ?_, fun hx hi hr hl ho => ⟨fun b hb => ?_, fun hb => ?_⟩,
        fun u hu => ⟨fun reason hx => ?_, fun hx hbad => ?_, fun hx hn hr hwait => ?_, fun b hx hn hr hb hempty => ?_⟩⟩,
      fun b hst hend hx ho hb => ?_⟩⟩
  · subst hfreed
    rw [State.spoil_unwaited hx h hb reason, Table.modify_eq_map]
    rfl
  · refine (running_next h (f := fun t => t.sheetBegin tag)
      ((State.sheetBegin_unrecorded (s := s.pump) hun).trans (State.divertUnrecorded_eq ..))).trans ?_
    exact congrArg Host.Outcome.next (apply_ite State.pump ..)
  · exact running_next h (f := fun t => t.sheetBegin tag) (State.sheetBegin_reused (s := s.pump) hb htag)
  · refine running_next h (f := fun t => t.sheetBegin tag) ((State.sheetBegin_opened (s := s.pump) hb htag he hfree hlow).trans ?_)
    rw [State.openSheet_owner (s := s.pump) ho hbuf]
    rfl
  · refine running_next h (f := fun t => t.sheetBegin tag) ((State.sheetBegin_opened (s := s.pump) hb htag he hfree hlow).trans ?_)
    rw [State.openSheet_spoiled (s := s.pump) ho hne hfree]
    rfl
  · exact running_unchanged h (f := fun t => t.takeRow tag index samples) (State.takeRow_unknown (s := s.pump) htag ..)
  · exact running_unchanged h (f := fun t => t.sheetEnd tag count) (State.sheetEnd_unknown (s := s.pump) htag _)
  · exact running_unchanged h (f := fun t => t.atGate tag) (State.atGate_unknown (s := s.pump) htag)
  · exact running_unchanged h (f := fun t => t.stacked tag 0) (State.stacked_unknown (s := s.pump) htag (by decide))
  · exact running_unchanged h (f := fun t => t.stacked tag 1) (State.stacked_unknown (s := s.pump) htag (by decide))
  · exact running_unchanged h (f := fun t => t.takeRow tag index samples) (State.takeRow_decided (s := s.pump) htag hst ..)
  · exact running_unchanged h (f := fun t => t.sheetEnd tag count) (State.sheetEnd_decided (s := s.pump) htag hst _)
  · exact running_next h (f := fun t => t.takeRow tag index samples) (State.takeRow_order (s := s.pump) htag hst ..)
  · exact running_next h (f := fun t => t.sheetEnd tag count) (State.sheetEnd_order (s := s.pump) htag hst _)
  · subst hcounted
    refine running_next h (f := fun t => t.takeRow tag index samples) ?_
    rw [State.takeRow_receiving (s := s.pump) htag hst hend, if_pos hx, State.countRow_eq (s := s.pump) hf]
  · subst hcounted
    exact running_next h (f := fun t => t.takeRow tag index samples)
      (State.takeRow_misfits (s := s.pump) htag hst hend hx hf hbad)
  · subst hcounted
    have ho' : s.pump.reader.owner = some x.tag := ho.trans (congrArg some (State.sheetOf_tag htag).symm)
    refine running_next h (f := fun t => t.takeRow tag index samples) ?_
    rw [State.takeRow_fits (s := s.pump) htag hst hend hx hf hi hr hl, State.takeSamples_moved ho' hb]
    rfl
  · subst hcounted
    have ho' : s.pump.reader.owner = some x.tag := ho.trans (congrArg some (State.sheetOf_tag htag).symm)
    refine running_next h (f := fun t => t.takeRow tag index samples) ?_
    rw [State.takeRow_fits (s := s.pump) htag hst hend hx hf hi hr hl, State.takeSamples_waiting ho' hb]
    rfl
  · subst hu
    exact running_next h (f := fun t => t.sheetEnd tag count) (State.sheetEnd_spoiled (s := s.pump) htag hst hend hx _)
  · subst hu
    have hf' : (s.pump.tookEnd e).boundFormat = some f := hf
    refine running_next h (f := fun t => t.sheetEnd tag count) ?_
    rw [State.sheetEnd_unspoiled (s := s.pump) htag hst hend hx, State.endUnspoiled_geometry hf' hbad, State.sheetOf_tag htag]
    rfl
  · subst hu
    have hf' : (s.pump.tookEnd e).boundFormat = some f := hf
    refine running_next h (f := fun t => t.sheetEnd tag count) ?_
    exact (State.sheetEnd_unspoiled (s := s.pump) htag hst hend hx _).trans (State.endUnspoiled_waits hf' hn hr hwait)
  · subst hu
    have hf' : (s.pump.tookEnd e).boundFormat = some f := hf
    refine running_next h (f := fun t => t.sheetEnd tag count) ?_
    rw [State.sheetEnd_unspoiled (s := s.pump) htag hst hend hx, State.endUnspoiled_stores hf' hn hr hb hempty, State.store_eq]
    rfl
  · exact running_next h (State.sheetStored_eq (s := s.pump) htag ho hst hend hx hb)

end
end

section
/-! PROOF. The gate, the stackers, and the records that close: what a close as lost leaves, field by field (R140, R144, R148, R152 to
R156, R177). -/

namespace Sys2Proof.Machine

variable {s t : State} {e tag : Nat} {x : SheetRec}

/-! ### AT_GATE (R153) -/

theorem State.atGate_decided (h : s.sheetOf tag = some (e, x)) (hst : x.state = .decided ∨ x.state = .diverted) :
    s.atGate tag = s := by
  rcases hst with hst | hst <;> simp only [State.atGate, h, hst]

/-- The reason that a record decided at the gate is rejected with (R153). -/
def SheetRec.gateReason (x : SheetRec) : Reason := x.spoil.elim .noDecision Spoil.reason

/-- A record decided at the gate: its DIVERT goes ahead of every message not begun (R153, log 13). -/
def State.gated (s : State) (e tag : Nat) (reason : Reason) : State :=
  (s.modSheet e (fun y => { y with state := .decided, decision := some (.reject reason) })).modReader
    (Reader.pushAhead (.divert ⟨tag, .reject reason, some e, none⟩))

theorem SheetRec.gateReason_eq (x : SheetRec) : x.gateReason = match x.spoil with
    | some .noBuffer => .noBuffer | some .overrun => .overrun | some .geometry => .geometry
    | none => .noDecision := by
  unfold SheetRec.gateReason
  rcases x.spoil with _ | _ | _ | _ <;> rfl

theorem State.gated_eq (s : State) (e tag : Nat) (reason : Reason) : s.gated e tag reason =
    (s.modSheet e (fun y => { y with state := .decided, decision := some (.reject reason) })).modReader fun r => { r with
      tx := match r.tx with
        | [] => [.divert ⟨tag, .reject reason, some e, none⟩]
        | b :: ms => b :: .divert ⟨tag, .reject reason, some e, none⟩ :: ms } := by
  simp only [State.gated, State.modSheet, State.modReader, Reader.pushAhead]
  cases s.reader.tx <;> rfl

theorem State.atGate_marking (h : s.sheetOf tag = some (e, x)) (hst : x.state = .marking) :
    s.atGate tag = (s.gated e tag .noDecision).updateFeed := by
  simp only [State.atGate, h, hst]
  rfl

theorem State.atGate_undecided (h : s.sheetOf tag = some (e, x)) (hst : x.state = .receiving ∨ x.state = .stored) :
    s.atGate tag = (((s.gated e tag x.gateReason).modSheet e (fun y => { y with buffer := none })).modReader
      (fun r => (r.disown tag).releaseOf x.buffer)).updateFeed := by
  rcases hst with hst | hst <;> simp only [State.atGate, h, hst] <;> rfl

/-! ### STACKED (R154, R177) -/

theorem State.stacked_value {k : Nat} (hk : 1 < k) (s : State) (tag : Nat) :
    s.stacked tag k = s.post tag (.readerError .value (some 5)) := by
  obtain ⟨k, rfl⟩ : ∃ n, k = n + 2 := ⟨k - 2, by omega⟩
  rfl

theorem State.stacked_open (h : s.sheetOf tag = some (e, x)) {k : Nat} (hk : k ≤ 1) :
    s.stacked tag k = s.stackSheet e x (if k = 0 then .accept else .reject) := by
  obtain rfl | rfl : k = 0 ∨ k = 1 := by omega
  · simp only [State.stacked, stackerOf, h, if_true]
  · simp only [State.stacked, stackerOf, h]
    rfl

theorem State.stackSheet_early (hst : x.state ≠ .diverted) (k : Stacker) :
    s.stackSheet e x k = s.closeLost e .earlyStack (some k) := by
  unfold State.stackSheet
  split
  next h _ => exact absurd h hst
  next => rfl

theorem State.stackSheet_misrouted (hst : x.state = .diverted) {d : Decision} (hd : x.decision = some d) {k : Stacker}
    (hk : d.stacker ≠ k) : s.stackSheet e x k = s.closeLost e .misrouted (some k) := by
  simp only [State.stackSheet, hst, hd, if_pos hk]

theorem State.stackSheet_rejected (hst : x.state = .diverted) {reason : Reason} (hd : x.decision = some (.reject reason)) :
    s.stackSheet e x .reject = s.closeSheet e := by
  simp only [State.stackSheet, hst, hd]
  rfl

theorem State.stackSheet_accepted (hst : x.state = .diverted) (hd : x.decision = some .accept) {g : Staged}
    (hg : x.staged = some g) : s.stackSheet e x .accept = (s.commit g).closeSheet e := by
  simp only [State.stackSheet, hst, hd, hg]
  rfl

/-- The marker's hand after the record of an entry has closed (R144, R158). -/
theorem Marker.lose_eq (m : Marker) (e : Nat) : m.lose e = match m with
    | .marking j => .marking (if j.entry = e then { j with same := false } else j)
    | .idle => .idle
    | .rescoring slot next count => .rescoring slot next count := by
  cases m <;> rfl

theorem State.commit_pending {g : Staged} {c : Cand} (hc : s.cand g.index = some c) (hst : c.state = .markPending) :
    s.commit g = ({ s.modCand g.index (fun d => { d with state := .marked, result := some g.result }) with
        responses := Table.insert s.responses g.index g.responses }.post g.index
      (.resultCommitted c.number c.paper g.result.tag g.result.final g.result.raw g.result.floored g.result.neg
        g.result.zero g.result.clamped g.result.generation)).traceOne g.index c .sheet := by
  simp [State.commit, hc, hst]

/-- The trace of a change does not look at the marker. -/
theorem State.traceOne_withMarker (s : State) (m : Marker) (i : Nat) (c : Cand) (cause : Cause) :
    { s.traceOne i c cause with marker := m } = ({ s with marker := m } : State).traceOne i c cause := by
  have hcand : ({ s with marker := m } : State).cand i = s.cand i := rfl
  simp only [State.traceOne, hcand]
  cases s.cand i with
  | none => rfl
  | some d =>
    simp only [State.traceChange]
    split <;> rfl

/-! ### A record closes as lost (R144) -/

theorem Reader.withdraw_eq (r : Reader) (e : Nat) : ∃ ms, r.withdraw e = { r with tx := ms } := by
  unfold Reader.withdraw
  split
  · exact ⟨r.tx, rfl⟩
  · exact ⟨_, rfl⟩

/-- A buffer that is given up changes the buffers, and the record of an owner that waits (R148). -/
theorem Reader.releaseOf_frame (r : Reader) (b : Option Nat) : ∃ buf0 buf1 records,
    r.releaseOf b = { r with buf0 := buf0, buf1 := buf1, records := records } := by
  have hset : ∀ (n : Nat) (st : BufState), ∃ buf0 buf1, r.setBuffer n st = { r with buf0 := buf0, buf1 := buf1 } := by
    intro n st
    unfold Reader.setBuffer Reader.modBuffer
    split
    · exact ⟨_, r.buf1, rfl⟩
    · exact ⟨r.buf0, _, rfl⟩
  cases b with
  | none => exact ⟨r.buf0, r.buf1, r.records, rfl⟩
  | some n =>
    simp only [Reader.releaseOf]
    split
    · exact ⟨r.buf0, r.buf1, r.records, rfl⟩
    · unfold Reader.release
      split
      · obtain ⟨b0, b1, h⟩ := hset n .filling
        exact ⟨b0, b1, _, by rw [h]⟩
      · obtain ⟨b0, b1, h⟩ := hset n .free
        exact ⟨b0, b1, r.records, by rw [h]⟩

/-- The reader without the record of an entry, before the feed is worked out: its DIVERT, its place in the FIFO and its buffer are
given up (R140, R144, R148). -/
def Reader.without (r : Reader) (e : Nat) (x : SheetRec) : Reader :=
  ({ r.withdraw e with records := Table.erase r.records e }.disown x.tag).releaseOf x.buffer

theorem Reader.without_sheetState (r : Reader) (e : Nat) (x : SheetRec) (k : Nat) :
    (r.without e x).sheetState k = if k = e then none else r.sheetState k := by
  rw [Reader.without, (Reader.Alike.releaseOf _ x.buffer).sheetState, (Reader.Alike.disown _ x.tag).sheetState,
    Reader.sheetState, Table.get_erase]
  split <;> rfl

theorem Reader.releaseOf_marking {r : Reader} {b : Nat} (h : (r.buffer b).state = .marking) : r.releaseOf (some b) = r :=
  if_pos h

theorem Reader.releaseOf_release {r : Reader} {b : Nat} (h : (r.buffer b).state ≠ .marking) :
    r.releaseOf (some b) = r.release b :=
  if_neg h

/-- Before its buffer is given up a record is gone from the queue, the table and the FIFO. -/
theorem Reader.disowned_frame (r : Reader) (e tag : Nat) :
    ({ r.withdraw e with records := Table.erase r.records e } : Reader).disown tag =
      { r.disown tag with tx := (r.withdraw e).tx, records := Table.erase r.records e } := by
  obtain ⟨ms, hw⟩ := r.withdraw_eq e
  rw [hw]
  simp only [Reader.disown_eq]

theorem Reader.without_eq (r : Reader) (e : Nat) (x : SheetRec) : r.without e x =
    ({ r.disown x.tag with tx := (r.withdraw e).tx, records := Table.erase r.records e } : Reader).releaseOf x.buffer := by
  rw [Reader.without, Reader.disowned_frame]

theorem Reader.disown_buffer (r : Reader) (tag b : Nat) : (r.disown tag).buffer b = r.buffer b := by
  rw [Reader.disown_eq]
  rfl

theorem Reader.setBuffer_buffer (r : Reader) (b : Nat) (st : BufState) :
    (r.setBuffer b st).buffer b = { r.buffer b with state := st } := by
  unfold Reader.setBuffer Reader.modBuffer Reader.buffer
  split <;> rfl

/-- What the FIFO is after a record has closed: empty where the record owned it (R144). -/
theorem Reader.without_fifo (r : Reader) (e : Nat) (x : SheetRec) :
    (r.without e x).fifo = (r.disown x.tag).fifo ∧ (r.without e x).owner = (r.disown x.tag).owner ∧
      (r.without e x).moved = (r.disown x.tag).moved := by
  rw [Reader.without_eq]
  obtain ⟨b0, b1, records, h⟩ := Reader.releaseOf_frame
    { r.disown x.tag with tx := (r.withdraw e).tx, records := Table.erase r.records e } x.buffer
  rw [h]
  exact ⟨rfl, rfl, rfl⟩

theorem Reader.without_tx (r : Reader) (e : Nat) (x : SheetRec) : (r.without e x).tx = (r.withdraw e).tx := by
  rw [Reader.without_eq]
  exact (Reader.Alike.releaseOf _ x.buffer).tx

/-- A record without a buffer, or with one that the marker reads, leaves the buffers (R144). -/
theorem Reader.without_buffers_kept {r : Reader}
    (h : x.buffer = none ∨ ∃ b, x.buffer = some b ∧ (r.buffer b).state = .marking) (e : Nat) :
    (r.without e x).buf0 = r.buf0 ∧ (r.without e x).buf1 = r.buf1 := by
  rw [Reader.without_eq, Reader.disown_eq]
  rcases h with hb | ⟨b, hb, hm⟩
  · rw [hb]
    exact ⟨rfl, rfl⟩
  · rw [hb, Reader.releaseOf_marking]
    · exact ⟨rfl, rfl⟩
    · exact hm

/-- The buffer of a record becomes FREE where no other owner waits (R144, R148). -/
theorem Reader.without_buffer_free {r : Reader} {b : Nat} (hb : x.buffer = some b) (hm : (r.buffer b).state ≠ .marking)
    (ho : r.owner = some x.tag ∨ r.owner = none) (e : Nat) :
    (r.without e x).buffer b = { r.buffer b with state := .free } := by
  have howner : (r.disown x.tag).owner = none := by
    rw [Reader.disown_eq]
    rcases ho with ho | ho <;> simp [ho]
  have hfree := Reader.release_free
    (r := { r.disown x.tag with tx := (r.withdraw e).tx, records := Table.erase r.records e })
    (fun y _ hy => by simp [SheetRec.waiting_iff, howner] at hy) b
  have hbuf := Reader.disown_buffer r x.tag b
  rw [Reader.without_eq, hb, Reader.releaseOf_release, hfree, Reader.setBuffer_buffer, ← hbuf]
  · rfl
  · exact hbuf.symm ▸ hm

/-- The buffer of a record is taken at once by another owner that waits (R144, R148). -/
theorem Reader.without_buffer_taken {r : Reader} {b j : Nat} {y : SheetRec} (hb : x.buffer = some b)
    (hm : (r.buffer b).state ≠ .marking) (hj : j ≠ e) (htag : y.tag ≠ x.tag) (hy : Table.get r.records j = some y)
    (ho : r.owner = some y.tag) (hst : y.state = .receiving) (hsp : y.spoil = none) (hbuf : y.buffer = none)
    (huniq : ∀ z ∈ r.records, z.2.tag = y.tag → z = (j, y)) :
    (r.without e x).buffer b = { r.buffer b with state := .filling } ∧
      Table.get (r.without e x).records j = some { y with buffer := some b } := by
  have hown : r.disown x.tag = r := if_neg (by simp [ho, htag])
  have hget : Table.get (Table.erase r.records e) j = some y := by rw [Table.get_erase, if_neg hj, hy]
  have htaken := Reader.release_taken (r := { r with tx := (r.withdraw e).tx, records := Table.erase r.records e })
    (Table.get_mem hget) (SheetRec.waiting_iff.2 ⟨ho, hst, hsp, hbuf⟩) (fun z hz hw => by
      obtain ⟨hzo, -⟩ := SheetRec.waiting_iff.1 hw
      have htagz : z.2.tag = y.tag := Option.some.inj (hzo.symm.trans ho)
      rw [huniq z (List.mem_of_mem_filter hz) htagz]) b
  have htake : Table.get (Table.modify (Table.erase r.records e) j fun x => { x with buffer := some b }) j =
      some { y with buffer := some b } := by
    rw [Table.get_modify, if_pos rfl, hget]
    rfl
  rw [Reader.without_eq, hown, hb, Reader.releaseOf_release, htaken]
  · exact ⟨Reader.setBuffer_buffer .., htake⟩
  · exact hm

/-! ### The queue after a close (R140, R144) -/

theorem Reader.withdraw_tx (r : Reader) (e : Nat) : (r.withdraw e).tx = match r.tx with
    | [] => []
    | m :: ms => (match m with
        | .divert d => TxMsg.divert (if d.entry = some e then { d with entry := none } else d)
        | .feed go => .feed go
        | .geometry mask n rows => .geometry mask n rows) :: ms.filter (fun y => y.entry? ≠ some e) := by
  have hfilter : ∀ ms : List TxMsg, ms.filter (fun y => !y.isDivertOf e) = ms.filter (fun y => y.entry? ≠ some e) :=
    fun ms => List.filter_congr fun m _ => by
      by_cases hm : m.isDivertOf e = true
      · simp [hm, TxMsg.isDivertOf_iff.1 hm]
      · simp [hm, mt TxMsg.isDivertOf_iff.2 hm]
  unfold Reader.withdraw
  cases h : r.tx with
  | nil => exact h
  | cons m ms =>
    cases m <;> exact congrArg (fun l => { r with tx := l }.tx) (congrArg (List.cons _) (hfilter ms))

/-! ### The close as lost, whole (R144) -/

/-- A record has closed and is not yet told: the marker has lost it if it had taken it. -/
def State.without (s : State) (e : Nat) (x : SheetRec) : State :=
  { s with reader := s.reader.without e x, marker := s.marker.lose e }

theorem State.closeLost_other (hx : s.sheet e = some x) (hl : s.lostCand x = none) (cause : LostCause) (k : Option Stacker) :
    s.closeLost e cause k =
      ((s.without e x).post x.tag (.sheetLost x.tag cause x.state x.decision k none false)).updateFeed := by
  simp only [State.closeLost, hx, hl]
  rfl

theorem State.closeLost_cand (hx : s.sheet e = some x) {i : Nat} {c : Cand} (hl : s.lostCand x = some (i, c))
    (cause : LostCause) (k : Option Stacker) : s.closeLost e cause k =
      (((((s.without e x).modCand i Cand.returned).post x.tag (.sheetLost x.tag cause x.state x.decision k
        (some (i, c.number)) (Decidable.decide (c.state = .markPending)))).traceOne i c .sheet)).updateFeed := by
  simp only [State.closeLost, hx, hl]
  rfl

theorem State.closeLost_frame (hx : s.sheet e = some x) (cause : LostCause) (k : Option Stacker) : ∃ ms,
    (s.closeLost e cause k).reader = { s.reader.without e x with tx := ms } := by
  obtain ⟨ms, hms⟩ := (s.reader.without e x).updateFeed_eq
  exact ⟨ms, (State.closeLost_reader hx ..).trans hms⟩

theorem State.closeLost_sheet (hx : s.sheet e = some x) (cause : LostCause) (k : Option Stacker) :
    (s.closeLost e cause k).sheet e = none := by
  obtain ⟨ms, hms⟩ := State.closeLost_frame hx cause k
  have hgone : (s.reader.without e x).sheetState e = none := (Reader.without_sheetState ..).trans (if_pos rfl)
  rw [State.sheet, hms]
  exact Option.map_eq_none_iff.1 hgone

theorem State.closeLost_buffer (hx : s.sheet e = some x) (cause : LostCause) (k : Option Stacker) (b : Nat) :
    (s.closeLost e cause k).reader.buffer b = (s.reader.without e x).buffer b := by
  obtain ⟨ms, hms⟩ := State.closeLost_frame hx cause k
  rw [hms]
  rfl

theorem State.closeLost_marker (hx : s.sheet e = some x) (cause : LostCause) (k : Option Stacker) :
    (s.closeLost e cause k).marker = s.marker.lose e := by
  cases hl : s.lostCand x with
  | none => rw [State.closeLost_other hx hl]; rfl
  | some c => rw [State.closeLost_cand hx hl]; exact State.traceOne_marker ..

theorem State.lostCand_accepted {g : Staged} {c : Cand} (hd : x.decision = some .accept) (hg : x.staged = some g)
    (hc : s.cand g.index = some c) : s.lostCand x = some (g.index, c) := by
  simp only [State.lostCand, hd, hg, hc, Option.map_some]

theorem State.lostCand_of_ne_accept (hd : x.decision ≠ some .accept) : s.lostCand x = none := by
  unfold State.lostCand
  split
  next h _ => exact absurd h hd
  next => rfl

theorem State.Told.traceOne {m : Notice} (h : s.Told m) (i : Nat) (c : Cand) (cause : Cause) :
    (s.traceOne i c cause).Told m := by
  unfold State.traceOne
  split
  · exact h.traceChange ..
  · exact h

/-! ### Jams and restarts (R155, R156) -/

theorem State.clearReady_sheetOf (s : State) (tag : Nat) : s.clearReady.sheetOf tag = s.sheetOf tag :=
  congrArg (List.find? _) (Reader.updateFeed_frame _).1

theorem State.jam_value {tags : List Nat} (h : 16 < tags.length) (s : State) (g : Nat) :
    s.jam g tags = s.post g (.readerError .value (some 6)) := if_pos h

theorem State.jam_taken {tags : List Nat} (h : tags.length ≤ 16) (s : State) (g : Nat) : s.jam g tags =
    tags.foldl (fun u tag => u.loseTag tag .jam)
      (s.clearReady.post 0 (.readerStop .jam (tags.filter fun tag => (s.sheetOf tag).isSome))) := by
  rw [State.jam, if_neg (Nat.not_lt.2 h)]
  simp only [State.clearReady_sheetOf]

/-- The tags that a restart lists, ascending (log 48). -/
theorem State.openTags_eq {tags : List Nat} (hperm : tags.Perm (s.reader.records.map fun y => y.2.tag))
    (hsorted : tags.Pairwise (· ≤ ·)) : s.clearReady.openTags = tags := by
  have hrecords : s.clearReady.reader.records = s.reader.records := (Reader.updateFeed_frame _).1
  rw [State.openTags, hrecords]
  exact ((List.perm_insertionSort _ _).trans hperm.symm).eq_of_pairwise' (List.pairwise_insertionSort _ _) hsorted

theorem State.sendGeometry_eq (s : State) :
    s.sendGeometry = s.boundFormat.elim s fun f => s.modReader (Reader.makeGeometry f) := by
  unfold State.sendGeometry
  cases s.boundFormat <;> rfl

theorem State.closeLost_papers (s : State) (e : Nat) (cause : LostCause) (k : Option Stacker) :
    (s.closeLost e cause k).papers = s.papers := by
  cases hx : s.sheet e with
  | none => simp only [State.closeLost, hx]
  | some x =>
    cases hl : s.lostCand x with
    | none => rw [State.closeLost_other hx hl]; rfl
    | some c => rw [State.closeLost_cand hx hl]; exact State.traceOne_papers ..

theorem State.loseTag_boundFormat (s : State) (tag : Nat) (cause : LostCause) :
    (s.loseTag tag cause).boundFormat = s.boundFormat := by
  unfold State.loseTag
  split
  · exact State.boundFormat_congr (State.closeLost_bound ..) (State.closeLost_papers ..)
  · rfl

theorem State.foldl_loseTag_boundFormat (tags : List Nat) (s : State) (cause : LostCause) :
    (tags.foldl (fun u tag => u.loseTag tag cause) s).boundFormat = s.boundFormat := by
  induction tags generalizing s with
  | nil => rfl
  | cons tag tags ih => rw [List.foldl_cons, ih, State.loseTag_boundFormat]

end Sys2Proof.Machine

section
open Sys2Proof Sys2Proof.Machine

/-- Settles O53, by the state of the record at the gate and at the stackers, and by what a close as lost leaves. -/
theorem gateStackersAndStops : Obligations.GateStackersAndStops := by
  refine ⟨fun s tag e x h htag => ⟨fun hst => ?_, fun d u hd hu => ?_,
      fun k hk => ⟨fun hst => ?_, fun d hst hd hside => ?_⟩, fun reason hst hd m hm => ?_,
      fun g c m hm hst hd hg hc hp => ?_⟩,
    fun s tag k h hk => ?_, fun s lose h hlose stopped hstopped => ?_,
    fun s e x cause k hx => ⟨State.closeLost_sheet hx cause k, ?_, ?_, fun ho => ?_, fun ho => ?_, fun hb => ?_,
      fun b hb hm => ⟨fun ho => ?_, fun j y hj htag hy ho hst hsp hbuf huniq => ?_⟩, fun g c hd hg hc hp => ?_, fun hd => ?_⟩⟩
  · exact running_unchanged h (f := fun t => t.atGate tag) (State.atGate_decided (s := s.pump) htag hst)
  · have hgated : s.pump.gated e tag x.gateReason = u := by
      rw [hu, hd]
      exact (congrArg (s.pump.gated e tag) x.gateReason_eq).trans (State.gated_eq ..)
    rw [← hgated]
    refine ⟨fun hst hsp => ?_, fun hst => ?_⟩
    · have hreason : x.gateReason = .noDecision := by rw [SheetRec.gateReason, hsp]; rfl
      rw [hreason]
      exact running_next h (f := fun t => t.atGate tag) (State.atGate_marking (s := s.pump) htag hst)
    · exact running_next h (f := fun t => t.atGate tag) (State.atGate_undecided (s := s.pump) htag hst)
  · refine running_next h (f := fun t => t.stacked tag k) ?_
    rw [State.stacked_open (s := s.pump) htag hk, State.stackSheet_early hst]
  · have hother : d.stacker ≠ if k = 0 then Stacker.accept else .reject := by
      rcases hside with ⟨rfl, rfl⟩ | ⟨hne, rfl⟩
      · decide
      · cases d with
        | accept => exact absurd rfl hne
        | reject reason => exact nofun
    refine running_next h (f := fun t => t.stacked tag k) ?_
    rw [State.stacked_open (s := s.pump) htag hk, State.stackSheet_misrouted hst hd hother]
  · obtain rfl : m = s.marker.lose e := hm.trans (Marker.lose_eq ..).symm
    exact running_next h (f := fun t => t.stacked tag 1)
      ((State.stacked_open (s := s.pump) htag (by decide)).trans (State.stackSheet_rejected hst hd))
  · obtain rfl : m = s.marker.lose e := hm.trans (Marker.lose_eq ..).symm
    refine running_next h (f := fun t => t.stacked tag 0)
      (((State.stacked_open (s := s.pump) htag (by decide)).trans (State.stackSheet_accepted hst hd hg)).trans ?_)
    rw [State.closeSheet, State.commit_pending (s := s.pump) hc hp, State.traceOne_marker, State.traceOne_withMarker]
    rfl
  · exact running_next h (f := fun t => t.stacked tag k) (State.stacked_value hk ..)
  · obtain rfl : lose = fun cause u g => u.loseTag g cause := funext fun cause => funext fun u => funext fun g => by
      rw [hlose, State.loseTag]
    subst hstopped
    refine ⟨fun tags hl => ?_, fun tags hl => ?_, fun tags hperm hsorted u hu => ?_⟩
    · exact running_next h (f := fun t => t.jam 0 tags) (State.jam_taken hl ..)
    · exact running_next h (f := fun t => t.jam 0 tags) (State.jam_value hl ..)
    · have hbound : u.boundFormat = s.boundFormat := by
        rw [hu]
        exact (State.foldl_loseTag_boundFormat tags ..).trans
          (State.boundFormat_congr (Reader.updateFeed_frame _).2 rfl)
      have hreset : s.pump.readerReset = u.sendGeometry := by
        rw [State.readerReset, State.openTags_eq (s := s.pump) hperm hsorted, hu]
        rfl
      refine running_next h (f := State.readerReset) ?_
      rw [hreset, State.sendGeometry_eq, hbound]
      cases s.boundFormat <;> rfl
  · exact (State.closeLost_marker hx ..).trans (Marker.lose_eq ..)
  · rw [State.closeLost_reader hx]
    exact (Reader.updateFeed_filter _).trans (congrArg _ ((Reader.without_tx ..).trans (Reader.withdraw_tx ..)))
  · obtain ⟨ms, hms⟩ := State.closeLost_frame hx cause k
    obtain ⟨hfifo, howner, hmoved⟩ := s.reader.without_fifo e x
    rw [hms]
    exact ⟨hfifo.trans (by simp [Reader.disown_eq, ho]), howner.trans (by simp [Reader.disown_eq, ho]),
      hmoved.trans (by simp [Reader.disown_eq, ho])⟩
  · obtain ⟨ms, hms⟩ := State.closeLost_frame hx cause k
    have hown : s.reader.disown x.tag = s.reader := if_neg ho
    obtain ⟨hfifo, howner, hmoved⟩ := s.reader.without_fifo e x
    rw [hown] at hfifo howner hmoved
    rw [hms]
    exact ⟨hfifo, howner, hmoved⟩
  · obtain ⟨ms, hms⟩ := State.closeLost_frame hx cause k
    rw [hms]
    exact Reader.without_buffers_kept hb e
  · rw [State.closeLost_buffer hx]
    exact Reader.without_buffer_free hb hm ho e
  · obtain ⟨ms, hms⟩ := State.closeLost_frame hx cause k
    rw [State.sheet, hms]
    exact Reader.without_buffer_taken hb hm hj htag hy ho hst hsp hbuf huniq
  · have hl := State.lostCand_accepted hd hg hc
    have hback : Cand.returned c = { c with state := .collected } := by rw [Cand.returned, hp]; rfl
    rw [State.closeLost_cand hx hl, hp, ← hback]
    refine ⟨?_, State.Told.traceOne (State.post_told ..) ..⟩
    exact (State.cand_congr (State.traceOne_cands ..) _).trans
      ((State.modCand_cand ..).trans ((if_pos rfl).trans (congrArg (Option.map _) hc)))
  · have hl := State.lostCand_of_ne_accept (s := s) hd
    rw [State.closeLost_other hx hl]
    exact ⟨rfl, State.post_told ..⟩

end
end

section
/-! PROOF. Binding the reader to a paper, and rescoring (R141, R179 to R182). -/

namespace Sys2Proof.Machine

variable {s : State} {slot next count i : Nat} {p : Paper} {f : Format} {c : Cand}

/-! ### MARK_BIND and MARK_UNBIND (R179, R180) -/

/-- Nothing of the reader is at work, so that a READY paper can be bound (R179). -/
def State.FreeToBind (s : State) : Prop := s.reader.bound = none ∧ s.marker = .idle ∧ s.reader.records = [] ∧
  s.reader.buf0.state = .free ∧ s.reader.buf1.state = .free

theorem Marker.isMarking_iff (m : Marker) : m.isMarking = true ↔ ∃ j, m = .marking j := by
  cases m <;> simp [Marker.isMarking]

theorem State.freeToBind_iff (s : State) :
    s.FreeToBind ↔ ¬ (s.reader.bound.isSome = true ∨ s.marker.isRescoring = true) ∧ s.readerIdle = true := by
  have hrescoring : s.marker = .idle → s.marker.isRescoring = false := fun h => by rw [h]; rfl
  simp only [State.FreeToBind, State.readerIdle, Bool.and_eq_true, decide_eq_true_eq, List.isEmpty_iff, not_or,
    Bool.not_eq_true, Option.isSome_eq_false_iff, Option.isNone_iff_eq_none]
  exact ⟨fun ⟨hb, hm, hr, h0, h1⟩ => ⟨⟨hb, hrescoring hm⟩, ⟨⟨hr, h0⟩, h1⟩, hm⟩,
    fun ⟨⟨hb, _⟩, ⟨⟨hr, h0⟩, h1⟩, hm⟩ => ⟨hb, hm, hr, h0, h1⟩⟩

theorem decideMarkBind_range (h : 8 ≤ slot) : decideMarkBind slot s = refuse .range s := if_pos (Nat.not_lt.2 h)

theorem decideMarkBind_notFound (h : slot < 8) (hp : s.paper slot = none) : decideMarkBind slot s = refuse .notFound s := by
  simp only [decideMarkBind, Config.slotCount, h, hp, not_true, if_false]

section
variable (h : slot < 8) (hp : s.paper slot = some p)
include h hp

theorem decideMarkBind_busy (hb : ¬ s.FreeToBind) : decideMarkBind slot s = refuse .busy s := by
  rw [State.freeToBind_iff, not_and] at hb
  simp only [decideMarkBind, Config.slotCount, h, hp, not_true, if_false]
  split
  · rfl
  next hbound => exact if_pos (hb hbound)

variable (hfree : s.FreeToBind)
include hfree

theorem decideMarkBind_state (hm : p.marking ≠ .ready) : decideMarkBind slot s = refuse .state s := by
  obtain ⟨hbound, hidle⟩ := (State.freeToBind_iff s).1 hfree
  simp only [decideMarkBind, Config.slotCount, h, hp, hidle, hm, not_true, if_false, if_neg hbound, ne_eq, not_false_iff, if_true]

theorem decideMarkBind_taken (hm : p.marking = .ready) (hf : p.format = some f) : decideMarkBind slot s =
    (s.bind slot f, .ok (u8 slot ++ maskBytes f.mask ++ u8 f.subSamples ++ u8 f.rows ++ u16 p.generation)) := by
  obtain ⟨hbound, hidle⟩ := (State.freeToBind_iff s).1 hfree
  simp only [decideMarkBind, Config.slotCount, h, hp, hidle, hm, hf, not_true, if_false, if_neg hbound, ne_eq]

end

theorem decideMarkUnbind_unbound (hb : s.reader.bound = none) : decideMarkUnbind s = refuse .state s := by
  simp only [decideMarkUnbind, hb]

section
variable (hb : s.reader.bound = some slot)
include hb

theorem decideMarkUnbind_open (hr : s.reader.records ≠ []) : decideMarkUnbind s = refuse .state s := by
  simp only [decideMarkUnbind, hb]
  exact if_pos (mt List.isEmpty_iff.1 hr)

variable (hr : s.reader.records = [])
include hr

theorem decideMarkUnbind_busy {j : MarkJob} (hm : s.marker = .marking j) : decideMarkUnbind s = refuse .busy s := by
  simp only [decideMarkUnbind, hb, hr, hm]
  rfl

theorem decideMarkUnbind_taken (hm : ∀ j, s.marker ≠ .marking j) : decideMarkUnbind s =
    (((s.setMarking slot .ready).modReader (fun r => { r with bound := none })).updateFeed, .ok (u8 slot)) := by
  have hidle : ¬ s.marker.isMarking = true := mt (Marker.isMarking_iff _).1 fun ⟨j, hj⟩ => hm j hj
  simp only [decideMarkUnbind, hb, hr]
  exact if_neg hidle

end

/-! ### The GEOMETRY in the queue (R140, R141) -/

theorem Reader.makeGeometry_new {r : Reader} (h : r.tx.tail.any TxMsg.isGeometry = false) :
    (r.makeGeometry f).tx = r.tx ++ [.geometry f.mask f.subSamples f.rows] := by
  have hq : ¬ r.queued.any TxMsg.isGeometry = true := Bool.not_eq_true _ ▸ h
  rw [Reader.makeGeometry, if_neg hq]
  rfl

/-- A queued GEOMETRY is replaced where it stands. -/
theorem Reader.makeGeometry_replaced {r : Reader} (h : r.tx.tail.any TxMsg.isGeometry = true) : ∃ m ms, r.tx = m :: ms ∧
    (r.makeGeometry f).tx = m :: ms.map fun x => if x.isGeometry then .geometry f.mask f.subSamples f.rows else x := by
  have hq : r.queued.any TxMsg.isGeometry = true := h
  rw [Reader.makeGeometry, if_pos hq]
  rcases r.modQueued_cases _ with ⟨hnil, -⟩ | ⟨m, ms, htx, he⟩
  · rw [hnil] at h
    exact absurd h (by decide)
  · exact ⟨m, ms, htx, congrArg Reader.tx he⟩

/-! ### RESCORE and RESCORE_STEP (R181, R182) -/

theorem State.markedCount_eq (s : State) (slot : Nat) : s.markedCount slot =
    s.cands.countP (fun e : Nat × Cand => e.2.paper = slot ∧ e.2.state = CandState.marked) :=
  List.countP_congr fun e _ => by simp

theorem State.nextMarked_isSome_iff (s : State) (slot k : Nat) : (s.nextMarked slot k).isSome = true ↔
    ∃ e ∈ s.cands, k ≤ e.1 ∧ e.2.paper = slot ∧ e.2.state = .marked := by
  simp only [State.nextMarked, List.find?_isSome, Bool.and_eq_true, decide_eq_true_eq, beq_iff_eq, and_assoc]

theorem State.nextMarked_zero_isSome_iff (s : State) (slot : Nat) :
    (s.nextMarked slot 0).isSome = true ↔ s.markedCount slot ≠ 0 := by
  rw [State.nextMarked_isSome_iff, State.markedCount_eq, ← Nat.pos_iff_ne_zero, List.countP_pos_iff]
  simp

theorem State.nextMarked_isSome_iff_cand (hw : Table.wf Config.indexCount s.cands = true) (slot k : Nat) :
    (s.nextMarked slot k).isSome = true ↔ ∃ j d, k ≤ j ∧ s.cand j = some d ∧ d.paper = slot ∧ d.state = .marked := by
  rw [State.nextMarked_isSome_iff]
  constructor
  · rintro ⟨⟨j, d⟩, he, hk, hd⟩
    exact ⟨j, d, hk, (Table.mem_iff_get hw).1 he, hd⟩
  · rintro ⟨j, d, hk, hj, hd⟩
    exact ⟨(j, d), (Table.mem_iff_get hw).2 hj, hk, hd⟩

theorem State.nextMarked_lowest (hw : Table.wf Config.indexCount s.cands = true) (hn : next ≤ i) (hc : s.cand i = some c)
    (hp : c.paper = slot) (hst : c.state = .marked)
    (hlow : ∀ j d, next ≤ j → j < i → s.cand j = some d → d.paper = slot → d.state ≠ .marked) :
    s.nextMarked slot next = some (i, c) := by
  refine Table.find?_eq_some_of_lowest hw hc (by simp [hn, hp, hst]) fun j d hj hd ht => ?_
  obtain ⟨⟨hnj, hpd⟩, hstd⟩ : (next ≤ j ∧ d.paper = slot) ∧ d.state = .marked := by simpa using ht
  exact hlow j d hnj hj hd hpd hstd

theorem State.generationOf_eq (hp : s.paper slot = some p) : s.generationOf slot = p.generation := by
  rw [State.generationOf, hp]
  rfl

theorem State.rescored_eq (hp : s.paper c.paper = some p) (hf : p.format = some f) {rs : List QClass} {r : MarkResult}
    (hrs : Table.get s.responses i = some rs) (hr : c.result = some r) :
    s.rescored i c = some (scoreSheet f (p.key.filterMap id) rs p.generation r.tag) := by
  simp only [State.rescored, hp, hrs, hr, hf]
  rfl

theorem State.rescoreStep_marked (hm : s.marker = .rescoring slot next count) (hn : s.nextMarked slot next = some (i, c)) :
    s.rescoreStep =
      (s.modCand i (fun d => { d with result := s.rescored i c })).continueRescore slot (i + 1) (count + 1) := by
  simp only [State.rescoreStep, hm, hn]

theorem decideRescore_range (h : 8 ≤ slot) : decideRescore slot s = refuse .range s := if_pos (Nat.not_lt.2 h)

theorem decideRescore_notFound (h : slot < 8) (hp : s.paper slot = none) : decideRescore slot s = refuse .notFound s := by
  simp only [decideRescore, Config.slotCount, h, hp, not_true, if_false]

section
variable (h : slot < 8) (hp : s.paper slot = some p)
include h hp

theorem decideRescore_state (hm : p.marking ≠ .ready) : decideRescore slot s = refuse .state s := by
  simp only [decideRescore, Config.slotCount, h, hp, hm, not_true, if_false, ne_eq, not_false_iff, if_true]

variable (hm : p.marking = .ready)
include hm

theorem decideRescore_busy (hb : s.marker ≠ .idle ∨ s.reader.bound ≠ none) : decideRescore slot s = refuse .busy s := by
  simp only [decideRescore, Config.slotCount, h, hp, hm, not_true, if_false, ne_eq]
  exact if_pos (not_and_or.2 hb)

theorem decideRescore_taken (hi : s.marker = .idle) (hb : s.reader.bound = none) : decideRescore slot s =
    (if s.markedCount slot = 0 then (s.modPaper slot (fun q => { q with marking := .ready })).post slot
        (.rescoreDone 0 p.generation)
      else { s.modPaper slot (fun q => { q with marking := .rescoring }) with marker := .rescoring slot 0 0 },
      .ok (u16 (s.markedCount slot) ++ u16 p.generation)) := by
  have hmarked : ((s.setMarking slot .rescoring).nextMarked slot 0).isSome = true ↔ s.markedCount slot ≠ 0 :=
    State.nextMarked_zero_isSome_iff s slot
  have hgen : (s.setMarking slot .rescoring).generationOf slot = p.generation := by
    rw [State.generationOf, State.setMarking, State.modPaper_paper, if_pos rfl, hp]
    rfl
  have hidle : ({ s.setMarking slot .rescoring with marker := .idle } : State) = s.setMarking slot .rescoring := by
    rw [← hi]
    rfl
  simp only [decideRescore, Config.slotCount, h, hp, hm, hi, hb, not_true, if_false, ne_eq, and_self,
    State.continueRescore, hmarked]
  by_cases hz : s.markedCount slot = 0
  · rw [if_neg (not_not.2 hz), if_pos hz, State.endRescore, hgen, hidle, State.setMarking, State.setMarking,
      State.modPaper_modPaper]
  · rw [if_pos hz, if_neg hz]
    rfl

end

end Sys2Proof.Machine

section
open Sys2Proof Sys2Proof.Machine

/-- Settles O59, by the checks of MARK_BIND, MARK_UNBIND and RESCORE in their order, and by whether a MARKED candidate is left. -/
theorem bindingAndRescoring : Obligations.BindingAndRescoring := by
  refine ⟨fun tag slot s h => ⟨fun hs => ⟨?_, ?_⟩, fun hs hp => ⟨?_, ?_⟩, fun p hs hp idle hidle =>
      ⟨fun hb => ?_, fun hb hm => ?_, fun hm => ?_, fun hm hb => ?_⟩⟩,
    fun tag slot p f s h hs hp hb hi hr h0 h1 hm hf => ?_, fun r f => ⟨Reader.makeGeometry_new, fun hq => ?_⟩,
    fun tag s h => ⟨fun hb => ?_, fun slot hb => ⟨fun hr => ?_, fun j hr hm => ?_, fun hr hm => ?_⟩⟩,
    fun tag slot p s h hs hp hm hi hb marked hmarked => ?_,
    fun s slot next count i p f c rs r h hbd hm hp hf hn hc hcp hst hlow hrs hr u hu => ?_⟩
  · exact running_hostRequest_refused h (r := .markBind slot) (decideMarkBind_range (s := s.pump) hs)
  · exact running_hostRequest_refused h (r := .rescore slot) (decideRescore_range (s := s.pump) hs)
  · exact running_hostRequest_refused h (r := .markBind slot) (decideMarkBind_notFound (s := s.pump) hs hp)
  · exact running_hostRequest_refused h (r := .rescore slot) (decideRescore_notFound (s := s.pump) hs hp)
  · subst hidle
    exact running_hostRequest_refused h (r := .markBind slot) (decideMarkBind_busy (s := s.pump) hs hp hb)
  · subst hidle
    exact running_hostRequest_refused h (r := .markBind slot) (decideMarkBind_state (s := s.pump) hs hp hb hm)
  · exact running_hostRequest_refused h (r := .rescore slot) (decideRescore_state (s := s.pump) hs hp hm)
  · exact running_hostRequest_refused h (r := .rescore slot) (decideRescore_busy (s := s.pump) hs hp hm hb)
  · exact running_hostRequest_ok h (r := .markBind slot) (by simp)
      (decideMarkBind_taken (s := s.pump) hs hp ⟨hb, hi, hr, h0, h1⟩ hm hf)
  · obtain ⟨m, ms, htx, he⟩ := Reader.makeGeometry_replaced (f := f) hq
    rw [he, htx]
    refine ⟨by simp, rfl, fun x hx hg => ?_⟩
    obtain ⟨y, -, rfl⟩ := List.mem_map.1 hx
    split
    · rfl
    next hy => rw [if_neg hy] at hg; exact absurd hg hy
  · exact running_hostRequest_refused h (r := .markUnbind) (decideMarkUnbind_unbound (s := s.pump) hb)
  · exact running_hostRequest_refused h (r := .markUnbind) (decideMarkUnbind_open (s := s.pump) hb hr)
  · exact running_hostRequest_refused h (r := .markUnbind) (decideMarkUnbind_busy (s := s.pump) hb hr hm)
  · exact running_hostRequest_ok h (r := .markUnbind) (by simp) (decideMarkUnbind_taken (s := s.pump) hb hr hm)
  · obtain rfl := hmarked.trans (State.markedCount_eq s slot).symm
    exact running_hostRequest_ok h (r := .rescore slot) (by simp) (decideRescore_taken (s := s.pump) hs hp hm hi hb)
  · have hstep : s.pump.rescoreStep = u.continueRescore slot (i + 1) (count + 1) := by
      rw [State.rescoreStep_marked (s := s.pump) hm (State.nextMarked_lowest (s := s.pump) hbd.cands hn hc hcp hst hlow),
        State.rescored_eq (s := s.pump) (hcp ▸ hp) hf hrs hr, hu]
    have hmod : ∀ g, Table.wf Config.indexCount (s.pump.modCand i g).cands = true := fun g => Table.wf_modify i g hbd.cands
    have hw : Table.wf Config.indexCount u.cands = true := hu ▸ hmod _
    have hcand : ∀ j, i < j → u.cand j = s.cand j := fun j hj => by
      rw [hu]
      exact (State.modCand_cand ..).trans (if_neg (Nat.ne_of_gt hj))
    have hgen : u.generationOf slot = p.generation := State.generationOf_eq (hu ▸ hp)
    refine ⟨fun ⟨j, d, hj, hd, hdp, hdm⟩ => ?_, fun hlast => ?_⟩
    · refine running_next h (f := State.rescoreStep) (hstep.trans (if_pos ?_))
      exact (State.nextMarked_isSome_iff_cand hw ..).2 ⟨j, d, hj, (hcand j hj).trans hd, hdp, hdm⟩
    · refine running_next h (f := State.rescoreStep) (hstep.trans ((if_neg fun hsome => ?_).trans ?_))
      · obtain ⟨j, d, hj, hd, hdp, hdm⟩ := (State.nextMarked_isSome_iff_cand hw ..).1 hsome
        exact hlast j d hj ((hcand j hj).symm.trans hd) hdp hdm
      · rw [State.endRescore, hgen]
        rfl

end
end

section
/-! PROOF. The marker takes the earliest stored sheet, reads it, and decides it (R148, R151, R152, R167, R168, R171, R172, R176). -/

namespace Sys2Proof.Machine

variable {s : State} {e b slot counter : Nat} {x : SheetRec} {p : Paper} {f : Format} {j : MarkJob} {c : Cand}

/-! ### The record whose end was taken earliest (R151) -/

theorem age_le_older (counter : Nat) (a z : Nat × SheetRec) :
    a.2.age counter ≤ (older counter a z).2.age counter ∧ z.2.age counter ≤ (older counter a z).2.age counter := by
  unfold older
  split
  next h => exact ⟨Nat.le_of_lt h, Nat.le_refl _⟩
  next h => exact ⟨Nat.le_refl _, Nat.not_lt.1 h⟩

/-- None of the records is older than the one found. -/
theorem age_le_foldl_older (a : Nat × SheetRec) (xs : List (Nat × SheetRec)) :
    ∀ y ∈ a :: xs, y.2.age counter ≤ (xs.foldl (older counter) a).2.age counter := by
  induction xs generalizing a with
  | nil => exact fun y hy => Nat.le_of_eq (congrArg (fun z => z.2.age counter) (List.mem_singleton.1 hy))
  | cons z xs ih =>
    obtain ⟨ha, hz⟩ := age_le_older counter a z
    have hfound := ih (older counter a z)
    have hlast := hfound _ List.mem_cons_self
    intro y hy
    rcases List.mem_cons.1 hy with rfl | hy
    · exact ha.trans hlast
    · rcases List.mem_cons.1 hy with rfl | hy
      · exact hz.trans hlast
      · exact hfound y (List.mem_cons_of_mem _ hy)

theorem Reader.earliestStored_eq {r : Reader} (hx : (e, x) ∈ r.records) (hst : x.state = .stored)
    (hold : ∀ y ∈ r.records, y.2.state = .stored → y = (e, x) ∨ y.2.age r.endCounter < x.age r.endCounter) :
    r.earliestStored = some (e, x) := by
  have hmem : (e, x) ∈ r.records.filter fun y => Decidable.decide (y.2.state = .stored) :=
    List.mem_filter.2 ⟨hx, decide_eq_true hst⟩
  unfold Reader.earliestStored
  split
  next hnil => exact absurd (hnil ▸ hmem) List.not_mem_nil
  next y ys hcons =>
    rw [hcons] at hmem
    have hin := older_mem (counter := r.endCounter) y ys
    obtain ⟨hfound, hstored⟩ := List.mem_filter.1 (hcons ▸ hin)
    rcases hold _ hfound (of_decide_eq_true hstored) with heq | hlt
    · rw [heq]
    · exact absurd (age_le_foldl_older y ys _ hmem) (Nat.not_le.2 hlt)

theorem Reader.earliestStored_eq_none {r : Reader} (h : ∀ y ∈ r.records, y.2.state ≠ .stored) : r.earliestStored = none := by
  have hnil : r.records.filter (fun y => Decidable.decide (y.2.state = .stored)) = [] :=
    List.filter_eq_nil_iff.2 fun y hy ht => h y hy (of_decide_eq_true ht)
  unfold Reader.earliestStored
  rw [hnil]

/-! ### MARKER_TAKE (R151, R167) -/

theorem State.boundFormat_eq (hb : s.reader.bound = some slot) (hp : s.paper slot = some p) :
    s.boundFormat = p.format := by
  simp only [State.boundFormat, hb, hp, Option.bind_some]

theorem State.markerTake_taken (hm : s.marker = .idle) (hb : s.reader.bound = some slot) (hp : s.paper slot = some p)
    (hf : p.format = some f) (he : s.reader.earliestStored = some (e, x)) (hbuf : x.buffer = some b) : s.markerTake =
      { (s.modSheet e (fun y => { y with state := .marking })).modReader (Reader.setBuffer b .marking) with
        marker := .marking (MarkJob.of f (s.reader.buffer b).mem e b x.tag p.generation) } := by
  have hbf : s.boundFormat = some f := (State.boundFormat_eq hb hp).trans hf
  have hgen : (s.reader.bound.map s.generationOf).getD 0 = p.generation := by
    rw [hb, Option.map_some, Option.getD_some, State.generationOf_eq hp]
  simp only [State.markerTake, hm, he, hbf, hbuf, hgen]

theorem State.markerTake_unchanged (h : s.marker ≠ .idle ∨ s.reader.earliestStored = none) : s.markerTake = s := by
  unfold State.markerTake
  split
  next hm he _ =>
    rcases h with h | h
    · exact absurd hm h
    · rw [h] at he
      cases he
  next => rfl

/-! ### What the marker reads (R167 to R171) -/

theorem sumSamples_eq (mem : List Host.Cell) (a n : Nat) :
    sumSamples mem a n = ((List.range n).map fun k => (Mem.read mem (a + k)).toNat).sum := by
  induction n generalizing a with
  | zero => rfl
  | succ n ih =>
    rw [List.range_succ_eq_map, List.map_cons, List.map_map, List.sum_cons, sumSamples, ih]
    simp only [Function.comp_def, Nat.add_zero, Nat.succ_eq_add_one, Nat.add_assoc, Nat.add_comm 1]

theorem readBlock_length (f : Format) (bgs : List Nat) (mem : List Host.Cell) (w : BlockWalk) (options count : Nat) :
    (readBlock f bgs mem w options count).length = count := by
  rw [readBlock, List.length_map, List.length_range]

theorem readAnswers_unread {digits : List QClass} (h : numberRead digits = none) (f : Format) (bgs : List Nat)
    (mem : List Host.Cell) : readAnswers f bgs mem digits = [] :=
  if_pos (Option.isNone_iff_eq_none.2 h)

theorem readAnswers_read {digits : List QClass} (h : numberRead digits ≠ none) (f : Format) (bgs : List Nat)
    (mem : List Host.Cell) : readAnswers f bgs mem digits =
      f.blocks.flatMap fun q => readBlock f bgs mem q.walk q.options q.count :=
  if_neg (mt Option.isNone_iff_eq_none.1 h)

theorem readBlocks_length (f : Format) (bgs : List Nat) (mem : List Host.Cell) :
    (f.blocks.flatMap fun q => readBlock f bgs mem q.walk q.options q.count).length = f.questions := by
  simp only [List.length_flatMap, readBlock_length]
  rfl

/-! ### A decision away from the gate, and the end of a marking (R140, R148, R152) -/

theorem State.decideSheet_behind (s : State) (e tag : Nat) (d : Decision) (cand : Option Decoded) :
    s.decideSheet e tag d cand false = { s with reader := { s.reader with
      records := s.reader.records.map (fun r : Nat × SheetRec => if r.1 = e then
        (e, { r.2 with state := .decided, decision := some d }) else r)
      tx := s.reader.tx ++ [TxMsg.divert ⟨tag, d, some e, cand⟩] } } := by
  rw [← Table.modify_eq_map s.reader.records e fun y => { y with state := .decided, decision := some d }]
  rfl

/-- The records at the end of a marking: the one the marker took gives up its buffer. -/
def MarkJob.released (j : MarkJob) (records : Table SheetRec) : Table SheetRec :=
  records.map fun r => if j.same = true ∧ r.1 = j.entry then (r.1, { r.2 with buffer := none }) else r

theorem State.endMarking_eq (s : State) (j : MarkJob) : s.endMarking j = State.updateFeed { s with
    marker := .idle
    reader := Reader.release j.buffer { s.reader with records := j.released s.reader.records } } := by
  unfold State.endMarking MarkJob.released
  cases hs : j.same with
  | true =>
    simp only [if_true, true_and]
    rfl
  | false =>
    simp only [Bool.false_eq_true, if_false, false_and, List.map_id']
    rfl

theorem MarkJob.released_get (records : Table SheetRec) {k : Nat} {y : SheetRec} (hy : Table.get records k = some y)
    (hbuf : y.buffer = none) : Table.get (j.released records) k = some y := by
  have hy' : ({ y with buffer := none } : SheetRec) = y := by rw [← hbuf]
  cases hs : j.same with
  | true =>
    have hmod : j.released records = Table.modify records j.entry fun y => { y with buffer := none } := by
      simp only [MarkJob.released, hs, true_and]
      rfl
    rw [hmod, Table.get_modify, hy]
    split
    · exact congrArg some hy'
    · rfl
  | false => simpa only [MarkJob.released, hs, Bool.false_eq_true, false_and, if_false, List.map_id'] using hy

/-- A record of the end of a marking was there before, with the same tag. -/
theorem MarkJob.mem_released {records : Table SheetRec} {z : Nat × SheetRec} (h : z ∈ j.released records) :
    ∃ y ∈ records, z.1 = y.1 ∧
      (z.2 = y.2 ∨ z.2 = { y.2 with buffer := none } ∧ j.same = true ∧ y.1 = j.entry) := by
  obtain ⟨y, hy, rfl⟩ := List.mem_map.1 h
  refine ⟨y, hy, ?_⟩
  split
  next hj => exact ⟨rfl, .inr ⟨rfl, hj⟩⟩
  next => exact ⟨rfl, .inl rfl⟩

/-- The buffer becomes FREE where no owner waits for it. -/
theorem State.endMarking_free (h : ∀ y ∈ s.reader.records, y.2.state = .receiving → s.reader.owner = some y.2.tag →
      y.2.spoil = none → y.2.buffer ≠ none ∧ (j.same = true → y.1 ≠ j.entry)) :
    s.endMarking j = State.updateFeed { s with marker := .idle, reader :=
      { s.reader.modBuffer j.buffer (fun b => { b with state := .free }) with
        records := j.released s.reader.records } } := by
  rw [State.endMarking_eq, Reader.release_free]
  · simp only [Reader.setBuffer, Reader.modBuffer]
    split <;> rfl
  · intro z hz hw
    obtain ⟨y, hy, -, hzy⟩ := MarkJob.mem_released hz
    obtain ⟨ho, hst, hsp, hbuf⟩ := SheetRec.waiting_iff.1 hw
    rcases hzy with heq | ⟨heq, hs, hentry⟩ <;> rw [heq] at ho hst hsp hbuf
    · exact (h y hy hst ho hsp).1 hbuf
    · exact (h y hy hst ho hsp).2 hs hentry

/-- An owner that waits takes the buffer at once. -/
theorem State.endMarking_taken {k : Nat} {y : SheetRec} (hy : s.sheet k = some y) (hst : y.state = .receiving)
    (ho : s.reader.owner = some y.tag) (hsp : y.spoil = none) (hbuf : y.buffer = none)
    (huniq : ∀ z ∈ s.reader.records, z.2.tag = y.tag → z = (k, y)) :
    (s.endMarking j).reader.buffer j.buffer = { s.reader.buffer j.buffer with state := .filling } ∧
      (s.endMarking j).sheet k = some { y with buffer := some j.buffer } := by
  have hget := MarkJob.released_get (j := j) s.reader.records hy hbuf
  have hrelease := Reader.release_taken (r := { s.reader with records := j.released s.reader.records })
    (Table.get_mem hget) (SheetRec.waiting_iff.2 ⟨ho, hst, hsp, hbuf⟩) (fun z hz hw => by
      obtain ⟨hzo, -⟩ := SheetRec.waiting_iff.1 hw
      have htag : z.2.tag = y.tag := Option.some.inj (hzo.symm.trans ho)
      obtain ⟨w, hw, hkey, hzw⟩ := MarkJob.mem_released hz
      have hwtag : w.2.tag = y.tag := by
        rcases hzw with heq | ⟨heq, -⟩ <;> rw [heq] at htag <;> exact htag
      rw [hkey, huniq w hw hwtag]) j.buffer
  obtain ⟨ms, hms⟩ := Reader.updateFeed_eq
    (Reader.release j.buffer { s.reader with records := j.released s.reader.records })
  have hreader : (s.endMarking j).reader =
      { Reader.release j.buffer { s.reader with records := j.released s.reader.records } with tx := ms } := by
    rw [State.endMarking_eq]
    exact hms
  have htake : Table.get (Table.modify (j.released s.reader.records) k fun x => { x with buffer := some j.buffer }) k =
      some { y with buffer := some j.buffer } := by
    rw [Table.get_modify, if_pos rfl, hget]
    rfl
  rw [State.sheet, hreader, hrelease]
  exact ⟨Reader.setBuffer_buffer .., htake⟩

/-! ### MARKING_END (R172, R176) -/

theorem State.stillMarking_iff (s : State) (j : MarkJob) :
    s.stillMarking j = true ↔ j.same = true ∧ ∃ x, s.sheet j.entry = some x ∧ x.state = .marking := by
  simp only [State.stillMarking, Bool.and_eq_true, Option.any_eq_true, decide_eq_true_eq]

section
variable (hb : s.reader.bound = some slot) (hp : s.paper slot = some p) (hm : s.marker = .marking j) (hf : p.format = some f)
include hb hp hm hf

theorem State.markingEnd_eq :
    s.markingEnd = if s.stillMarking j = true then (s.decideMarked j p f).endMarking j else s.endMarking j := by
  simp only [State.markingEnd, hm, hb, hp, hf, Option.bind_some]

end

/-- A sheet that is decided with REJECT, and the candidate found if any (R172). -/
theorem State.decideMarked_rejected {number : Nat} {reason : Reason} {i : Option Nat}
    (hn : numberRead j.digits = some number) (hj : s.judgeNumber number = (.reject reason, i)) :
    s.decideMarked j p f = s.decideSheet j.entry j.tag (.reject reason) (some ⟨i, number⟩) false := by
  simp only [State.decideMarked, hn, hj]

theorem State.decideMarked_accepted {number i : Nat} (hn : numberRead j.digits = some number)
    (hj : s.judgeNumber number = (.accept, some i)) : s.decideMarked j p f =
      ((s.modSheet j.entry (fun y => { y with staged := some (j.stage p f i) })).changeCand i
        (fun d => { d with state := .markPending }) .sheet).decideSheet j.entry j.tag .accept
          (some ⟨some i, number⟩) false := by
  simp only [State.decideMarked, hn, hj]

theorem State.decideMarked_unread (hn : numberRead j.digits = none) :
    s.decideMarked j p f = s.decideSheet j.entry j.tag (.reject .idUnreadable) none false := by
  simp only [State.decideMarked, hn]

theorem State.judgeNumber_unknown {number : Nat} (h : s.findNumber number = none) :
    s.judgeNumber number = (.reject .unknownCandidate, none) := by
  simp only [State.judgeNumber, h]

section
variable {number i : Nat} (hn : s.findNumber number = some i) (hc : s.cand i = some c) (hb : s.reader.bound = some slot)
include hn hc hb

theorem State.judgeNumber_wrongPaper (h : c.paper ≠ slot) : s.judgeNumber number = (.reject .wrongPaper, some i) := by
  have hne : s.reader.bound ≠ some c.paper := fun he => h (Option.some.inj (he.symm.trans hb))
  simp only [State.judgeNumber, hn, hc]
  exact if_pos hne

/-- A candidate of the bound paper is judged by its state (R172). -/
theorem State.judgeNumber_state (h : c.paper = slot) : s.judgeNumber number =
    if c.state = .markPending ∨ c.state = .marked then (.reject .duplicate, some i)
    else if c.state = .collected then (.accept, some i) else (.reject .notCollected, some i) := by
  have heq : ¬ s.reader.bound ≠ some c.paper := not_not.2 (h ▸ hb)
  simp only [State.judgeNumber, hn, hc, if_neg heq]
  cases c.state <;> rfl

end

end Sys2Proof.Machine

section
open Sys2Proof Sys2Proof.Machine

/-- Settles O55, by the earliest stored record, the waiting owner, and the lines of R172's table. -/
theorem markerTakesAndDecides : Obligations.MarkerTakesAndDecides := by
  refine ⟨fun s slot e b k p f x h hm hb hp hf hx hst hbuf hk hold => ?_, fun s h hno => ?_,
    fun f mem e b tag generation j hj => ?_, State.decideSheet_behind,
    fun s j => ⟨?_, State.endMarking_free, fun k y => State.endMarking_taken⟩,
    fun s slot p f j h hm hb hp hf rejected hrejected still hstill => ?_⟩
  · have hearliest : s.pump.reader.earliestStored = some (e, x) :=
      Reader.earliestStored_eq hx hst fun y hy hys => (hold y hy hys).imp_right fun ⟨m, hym, hlt⟩ => by
        rw [SheetRec.age, SheetRec.age, hym, hk]
        exact hlt
    exact running_next h (f := State.markerTake) (State.markerTake_taken (s := s.pump) hm hb hp hf hearliest hbuf)
  · exact running_unchanged h (f := State.markerTake)
      (State.markerTake_unchanged (s := s.pump) (hno.imp_right Reader.earliestStored_eq_none))
  · subst hj
    refine ⟨List.map_congr_left fun i _ => by rw [sumSamples_eq], rfl, (List.length_map ..).trans (readBlock_length ..),
      fun hn => readAnswers_unread hn .., fun hn => ⟨?_, readAnswers_read hn ..⟩⟩
    exact (congrArg List.length (readAnswers_read hn ..)).trans (readBlocks_length ..)
  · rw [State.endMarking_eq]
    rfl
  · have hend := State.markingEnd_eq (s := s.pump) hb hp hm hf
    have hdecided : ∀ u, still → s.pump.decideMarked j p f = u → exec .markingEnd s = .next (u.endMarking j).pump :=
      fun u hs hu => running_next h (f := State.markingEnd)
        (hend.trans ((if_pos ((State.stillMarking_iff s j).2 (hstill.1 hs))).trans (by rw [hu])))
    subst hrejected
    refine ⟨fun hns => ?_, fun hs hn => hdecided _ hs (State.decideMarked_unread hn), fun number hs hn =>
      ⟨fun hno hbd => ?_, fun i c hbd hc hnum huniq => ?_⟩⟩
    · exact running_next h (f := State.markingEnd)
        (hend.trans (if_neg fun ht => hns (hstill.2 ((State.stillMarking_iff s j).1 ht))))
    · exact hdecided _ hs (State.decideMarked_rejected hn
        (State.judgeNumber_unknown (State.findNumber_none (s := s.pump) hbd.cands hno)))
    · have hfind := State.findNumber_unique (s := s.pump) hbd.cands hc hnum huniq
      refine ⟨fun hcp => ?_, fun hcp hst => ?_, fun hcp h1 h2 h3 => ?_, fun hcp hst g hgi hgr hgs => ?_⟩
      · exact hdecided _ hs (State.decideMarked_rejected hn (State.judgeNumber_wrongPaper (s := s.pump) hfind hc hb hcp))
      all_goals have hjudge := State.judgeNumber_state (s := s.pump) hfind hc hb hcp
      · exact hdecided _ hs (State.decideMarked_rejected hn (hjudge.trans (if_pos hst)))
      · exact hdecided _ hs (State.decideMarked_rejected hn
          (hjudge.trans ((if_neg (not_or.2 ⟨h1, h2⟩)).trans (if_neg h3))))
      · obtain rfl : g = j.stage p f i := by
          obtain ⟨index, responses, result⟩ := g
          obtain rfl : index = i := hgi
          obtain rfl : responses = f.responses j.readings := hgr
          obtain rfl : result = scoreSheet f (p.key.filterMap id) (f.responses j.readings) j.generation j.tag := hgs
          rfl
        refine hdecided _ hs (State.decideMarked_accepted hn (hjudge.trans ?_))
        rw [hst]
        rfl

end
end

section
/-! PROOF. RESULT_READ and RESPONSES_READ: the checks they share, and the bytes each reports (R183, R184, R200). -/

namespace Sys2Proof.Machine

variable {s : State} {i : Nat} {c : Cand}

/-! ### The bytes of a result and of a response (R198, R200) -/

theorem MarkResult.bytes_eq (r : MarkResult) (index time generation : Nat) (c : Cand) :
    r.bytes index time generation c = u24 time ++ u16 index ++ u24 c.number ++ u8 c.paper ++ s16 r.final ++ s16 r.raw ++
      s16 r.floored ++ u8 ((if r.neg then 1 else 0) + (if r.zero then 2 else 0) + (if r.clamped then 4 else 0)) ++
      u8 r.counts.correct ++ u8 r.counts.wrong ++ u8 r.counts.blank ++ u8 r.counts.faint ++ u8 r.counts.multi ++
      u8 r.counts.void ++ u8 r.counts.erasure ++ u16 r.generation ++ u16 generation ++ u8 r.tag := by
  simp only [MarkResult.bytes, Counts.bytes, resultFlags_eq, List.append_assoc]

theorem QClass.bytes_eq (q : QClass) : q.bytes = u8 (match q with
    | .blank => 0x00 | .faint => 0x10 | .resp o => 0x20 + o | .respE o => 0x30 + o | .multi => 0x40) := by
  cases q <;> rfl

/-! ### The checks RESULT_READ and RESPONSES_READ share, in order -/

theorem decideReads_range (h : 512 ≤ i) :
    decideResultRead i s = refuse .range s ∧ decideResponsesRead i s = refuse .range s :=
  ⟨if_pos (Nat.not_lt.2 h), if_pos (Nat.not_lt.2 h)⟩

theorem decideReads_notFound (h : i < 512) (hc : s.cand i = none) :
    decideResultRead i s = refuse .notFound s ∧ decideResponsesRead i s = refuse .notFound s := by
  constructor <;> refine (if_neg (not_not.2 h)).trans ?_ <;> rw [hc]

theorem decideReads_state (h : i < 512) (hc : s.cand i = some c) (hm : c.state ≠ .marked) :
    decideResultRead i s = refuseWith .state 11 c.state.code s ∧
      decideResponsesRead i s = refuseWith .state 11 c.state.code s := by
  constructor <;> refine (if_neg (not_not.2 h)).trans ?_ <;> rw [hc] <;> exact if_pos hm

theorem decideResultRead_marked {r : MarkResult} (h : i < 512) (hc : s.cand i = some c) (hm : c.state = .marked)
    (hr : c.result = some r) :
    decideResultRead i s = (s, .ok (r.bytes i s.hallTime (s.generationOf c.paper) c)) := by
  refine (if_neg (not_not.2 h)).trans ?_
  simp only [hc, hr, if_neg (not_not.2 hm)]

theorem decideResponsesRead_marked {rs : List QClass} (h : i < 512) (hc : s.cand i = some c) (hm : c.state = .marked)
    (hrs : Table.get s.responses i = some rs) : decideResponsesRead i s =
      (s, .ok (u24 s.hallTime ++ u16 i ++ u8 rs.length ++ rs.flatMap QClass.bytes)) := by
  refine (if_neg (not_not.2 h)).trans ?_
  simp only [hc, hrs, if_neg (not_not.2 hm), Option.getD_some]

end Sys2Proof.Machine

section
open Sys2Proof Sys2Proof.Machine

/-- Settles O27: the checks of both reads in their order, then the bytes each reports of a MARKED candidate. -/
theorem resultsAndResponsesAreReported : Obligations.ResultsAndResponsesAreReported := by
  refine ⟨fun tag i s h => ⟨fun hi => ?_, fun hi hc => ?_, fun c hi hc hm => ?_, fun c r p hi hc hm hr hp => ?_⟩,
    fun tag i s h => ⟨fun hi => ?_, fun hi hc => ?_, fun c hi hc hm => ?_, fun c rs hi hc hm hrs => ?_⟩⟩
  · exact running_hostRequest_refused h (r := .resultRead i) (decideReads_range hi).1
  · exact running_hostRequest_refused h (r := .resultRead i) (decideReads_notFound (s := s.pump) hi hc).1
  · exact running_hostRequest_refused h (r := .resultRead i) (decideReads_state (s := s.pump) hi hc hm).1
  · have hd := decideResultRead_marked (s := s.pump) hi hc hm hr
    rw [MarkResult.bytes_eq, State.generationOf_eq (s := s.pump) hp] at hd
    exact running_hostRequest_ok h (r := .resultRead i) (by simp) hd
  · exact running_hostRequest_refused h (r := .responsesRead i) (decideReads_range hi).2
  · exact running_hostRequest_refused h (r := .responsesRead i) (decideReads_notFound (s := s.pump) hi hc).2
  · exact running_hostRequest_refused h (r := .responsesRead i) (decideReads_state (s := s.pump) hi hc hm).2
  · have hd := decideResponsesRead_marked (s := s.pump) hi hc hm hrs
    rw [funext QClass.bytes_eq] at hd
    exact running_hostRequest_ok h (r := .responsesRead i) (by simp) hd

end
end

section
/-! PROOF. What the marker makes of a sheet: the class of a question, the darkness of a bubble, the number read, and the
responses in question order (R45, R160, R169 to R171, R176). -/

namespace Sys2Proof.Machine

/-! ### The class of a question (R170) -/

theorem foldl_max_le_iff {xs : List Nat} {a b : Nat} : xs.foldl max a ≤ b ↔ a ≤ b ∧ ∀ x ∈ xs, x ≤ b := by
  induction xs generalizing a with
  | nil => simp
  | cons x xs ih => rw [List.foldl_cons, ih, max_le_iff, List.forall_mem_cons, and_assoc]

theorem largest_eq {xs : List Nat} {d : Nat} (hd : d ∈ xs) (h : ∀ x ∈ xs, x ≤ d) : largest xs = d :=
  Nat.le_antisymm (foldl_max_le_iff.2 ⟨Nat.zero_le d, h⟩) ((foldl_max_le_iff.1 le_rfl).2 d hd)

section
variable {f : Format} {d1 d2 : Nat} {rest ds : List Nat} (hperm : ds.Perm (d1 :: d2 :: rest)) (h12 : d2 ≤ d1)
  (hrest : ∀ d ∈ rest, d ≤ d2)
include hperm

/-- Without one value of D1 the values are D2 and those below it. -/
theorem eraseIdx_idxOf_perm : (ds.eraseIdx (ds.idxOf d1)).Perm (d2 :: rest) := by
  rw [List.eraseIdx_idxOf_eq_erase]
  simpa using hperm.erase d1

include hrest

theorem le_second_of_mem_eraseIdx {d : Nat} (hd : d ∈ ds.eraseIdx (ds.idxOf d1)) : d ≤ d2 :=
  (List.forall_mem_cons (p := (· ≤ d2))).2 ⟨le_rfl, hrest⟩ d ((eraseIdx_idxOf_perm hperm).subset hd)

/-- Where D1 lies above D2, no other option has it. -/
theorem getElem?_eq_largest_iff (hlt : d2 < d1) (k : Nat) : ds[k]? = some d1 ↔ k = ds.idxOf d1 := by
  have hmem : d1 ∈ ds := hperm.symm.subset List.mem_cons_self
  constructor
  · intro hk
    by_contra hne
    exact absurd (le_second_of_mem_eraseIdx hperm hrest (List.mem_eraseIdx_iff_getElem?.2 ⟨k, hne, hk⟩)) (Nat.not_le.2 hlt)
  · rintro rfl
    exact List.getElem?_idxOf hmem

include h12

theorem largest_eq_first : largest ds = d1 := by
  refine largest_eq (hperm.symm.subset List.mem_cons_self) fun d hd => ?_
  rcases List.mem_cons.1 (hperm.subset hd) with rfl | hd
  · exact le_rfl
  · exact ((List.forall_mem_cons (p := (· ≤ d2))).2 ⟨le_rfl, hrest⟩ d hd).trans h12

/-- R170's table in the largest and the second largest value. -/
theorem classify_eq : classify f ds =
    if d1 < f.tBlank then .blank
    else if d1 < f.tMark then .faint
    else if d2 < f.tBlank then .resp (ds.idxOf d1)
    else if f.margin < d1 - d2 then .respE (ds.idxOf d1)
    else .multi := by
  have hsecond : largest (ds.eraseIdx (ds.idxOf d1)) = d2 :=
    largest_eq ((eraseIdx_idxOf_perm hperm).symm.subset List.mem_cons_self)
      fun d hd => le_second_of_mem_eraseIdx hperm hrest hd
  simp only [classify, largest_eq_first hperm h12 hrest, hsecond, gt_iff_lt]

/-- A class with an option is of the first place of D1, which lies above D2. -/
theorem classify_option (hbelow : f.tBlank < f.tMark) {o : Nat} (h : classify f ds = .resp o ∨ classify f ds = .respE o) :
    d2 < d1 ∧ ds.idxOf d1 = o := by
  rw [classify_eq hperm h12 hrest] at h
  split_ifs at h with hblank hfaint hsecond hmargin
  · simp at h
  · simp at h
  · exact ⟨hsecond.trans (hbelow.trans_le (Nat.not_lt.1 hfaint)), by simpa using h⟩
  · exact ⟨Nat.lt_of_sub_pos (Nat.zero_lt_of_lt hmargin), by simpa using h⟩
  · simp at h

end

/-! ### The bubbles of a block (R45, R167, R169) -/

section
variable {f : Format} {bgs : List Nat} {mem : List Host.Cell} {w : BlockWalk} {options count h m : Nat}

theorem readBlock_getElem? (hh : h < count) : (readBlock f bgs mem w options count)[h]? =
    some { darkness := questionDarkness f bgs mem w options h
           cls := classify f (questionDarkness f bgs mem w options h) } := by
  simp only [readBlock, List.getElem?_map, List.getElem?_range hh, Option.map_some]

/-- Each reading of a block has a darkness value for each option, and the class of these values. -/
theorem cls_of_mem_readBlock {rd : Reading} (hrd : rd ∈ readBlock f bgs mem w options count) :
    rd.darkness.length = options ∧ rd.cls = classify f rd.darkness := by
  obtain ⟨h, -, rfl⟩ := List.mem_map.1 hrd
  exact ⟨by simp [questionDarkness], rfl⟩

theorem questionDarkness_getElem? {a : Nat} (hm : m < options) (ha : (a : Int) = w.start + h * w.o2 + m * w.o1) :
    (questionDarkness f bgs mem w options h)[m]? = some (
      ((List.range f.subSamples).map (fun l => (Mem.read mem (a + l)).toNat)).sum / f.subSamples -
        (bgs[a / f.subSamples % f.channels]?).getD 0) := by
  have haddr : (w.address h m 0).toNat = a := by simp [BlockWalk.address, ← ha]
  simp only [questionDarkness, List.getElem?_map, List.getElem?_range hm, Option.map_some, haddr, darkness, sumSamples_eq,
    List.getD_eq_getElem?_getD]

end

/-! ### The number read (R171) -/

theorem digitsValue_none {digits : List QClass} (h : ∃ c ∈ digits, c.option? = none) (acc : Nat) :
    digitsValue digits acc = none := by
  induction digits generalizing acc with
  | nil => simp at h
  | cons d ds ih =>
    cases hd : d.option? with
    | none => simp only [digitsValue, hd]
    | some o =>
      obtain ⟨c, hc, hnone⟩ := h
      have hne : c ≠ d := fun heq => by rw [← heq, hnone] at hd; cases hd
      simpa only [digitsValue, hd] using ih ⟨c, List.mem_of_ne_of_mem hne hc, hnone⟩ _

/-- Digits that all carry an option, read after a number `acc`: each option times the power of ten of its place. -/
theorem digitsValue_some {digits : List QClass} {options : List Nat} (h : digits.map QClass.option? = options.map some)
    (acc : Nat) : digitsValue digits acc = some (acc * 10 ^ options.length +
      ((List.range options.length).map (fun k => options.getD k 0 * 10 ^ (options.length - 1 - k))).sum) := by
  induction options generalizing digits acc with
  | nil =>
    obtain rfl : digits = [] := List.map_eq_nil_iff.1 h
    simp [digitsValue]
  | cons o os ih =>
    obtain ⟨d, ds, rfl, hd, hds⟩ := List.map_eq_cons_iff.1 h
    simp only [digitsValue, hd, ih hds, List.length_cons, List.range_succ_eq_map, List.map_cons, List.map_map, List.sum_cons,
      Function.comp_def, List.getD_cons_zero, List.getD_cons_succ, Nat.add_sub_cancel, Nat.sub_zero, Nat.succ_eq_add_one]
    simp only [Nat.sub_sub, Nat.add_comm 1]
    congr 1
    ring

theorem QClass.option?_eq_none {c : QClass} (h : c = .blank ∨ c = .faint ∨ c = .multi) : c.option? = none := by
  rcases h with rfl | rfl | rfl <;> rfl

theorem numberRead_unread {digits : List QClass} (h : ∃ c ∈ digits, c.option? = none) : numberRead digits = none := by
  rw [numberRead, digitsValue_none h]

theorem numberRead_of_value {digits : List QClass} {number : Nat} (h : digitsValue digits 0 = some number) :
    numberRead digits = if number = 0 then none else some number := by
  rw [numberRead, h]
  cases number <;> rfl

/-- Classes of the given options, place by place. -/
theorem map_option?_eq {digits : List QClass} {options : List Nat} (hlen : digits.length = options.length)
    (h : ∀ k o : Nat, options[k]? = some o → digits[k]? = some (QClass.resp o) ∨ digits[k]? = some (QClass.respE o)) :
    digits.map QClass.option? = options.map some := by
  refine List.ext_getElem? fun k => ?_
  rw [List.getElem?_map, List.getElem?_map]
  cases ho : options[k]? with
  | none => rw [List.getElem?_eq_none (hlen ▸ List.getElem?_eq_none_iff.1 ho)]; rfl
  | some o => rcases h k o ho with hd | hd <;> rw [hd] <;> rfl

/-! ### The responses in question order (R160, R176) -/

/-- Blocks that follow each other without a gap number the questions one after another. -/
theorem numbering_of_contiguous {bs : List AnswerBlock} {next : Nat} (h : contiguous next bs = true) :
    bs.flatMap (fun b => (List.range b.count).map (b.first + ·)) = List.range' next (bs.map AnswerBlock.count).sum := by
  induction bs generalizing next with
  | nil => rfl
  | cons b bs ih =>
    obtain ⟨rfl, hrest⟩ : b.first = next ∧ contiguous (next + b.count) bs = true := by simpa [contiguous] using h
    rw [List.flatMap_cons, ih hrest, List.map_cons, List.sum_cons, ← List.range'_eq_map_range, List.range'_append_1]

theorem Format.ascending_perm (f : Format) : f.ascending.Perm f.blocks :=
  List.perm_insertionSort (fun a b : AnswerBlock => a.first ≤ b.first) f.blocks

theorem Format.contiguous_of_questionsValid {f : Format} (h : f.questionsValid = true) :
    contiguous 1 f.ascending = true := (Bool.and_eq_true_iff.1 h).1

theorem Format.numbering_perm {f : Format} (h : f.questionsValid = true) :
    f.numbering.Perm (List.range' 1 f.questions) := by
  have hsum : (f.ascending.map AnswerBlock.count).sum = f.questions := (f.ascending_perm.map _).sum_eq
  rw [← hsum, ← numbering_of_contiguous (Format.contiguous_of_questionsValid h)]
  exact f.ascending_perm.symm.flatMap_right _

section
variable {α : Type} {pairs : List (Nat × α)} {a n : Nat} (h : (pairs.map Prod.fst).Perm (List.range' a n))
include h

/-- Entries numbered `a`, `a + 1`, ... in any order stand in that order once sorted. -/
theorem map_fst_insertionSort :
    (pairs.insertionSort (fun x y => x.1 ≤ y.1)).map Prod.fst = List.range' a n := by
  have hperm := ((List.perm_insertionSort (fun x y : Nat × α => x.1 ≤ y.1) pairs).map Prod.fst).trans h
  exact hperm.eq_of_pairwise (fun x y _ _ => Nat.le_antisymm)
    (List.pairwise_map.2 (pairwise_insertionSort_key Prod.fst pairs)) (List.pairwise_le_range' ..)

theorem length_map_snd_insertionSort : ((pairs.insertionSort (fun x y => x.1 ≤ y.1)).map Prod.snd).length = n := by
  have hlen := congrArg List.length (map_fst_insertionSort h)
  simpa using hlen

/-- The entry numbered `a + k` stands at place `k` once sorted. -/
theorem getElem?_map_snd_insertionSort {k : Nat} {x : α} (hx : (a + k, x) ∈ pairs) :
    ((pairs.insertionSort (fun x y => x.1 ≤ y.1)).map Prod.snd)[k]? = some x := by
  obtain ⟨i, hi⟩ := List.mem_iff_getElem?.1 ((List.mem_insertionSort fun x y : Nat × α => x.1 ≤ y.1).2 hx)
  have hkey : (List.range' a n)[i]? = some (a + k) := by
    rw [← map_fst_insertionSort h, List.getElem?_map, hi]
    rfl
  obtain ⟨hlt, heq⟩ := List.getElem?_eq_some_iff.1 hkey
  obtain rfl : i = k := by simpa using heq
  rw [List.getElem?_map, hi]
  rfl

end

/-- Two lists made block by block, with as many entries for each block, pair off block by block. -/
theorem zip_flatMap {α β γ : Type} {bs : List α} {g : α → List β} {k : α → List γ}
    (h : ∀ b ∈ bs, (g b).length = (k b).length) :
    (bs.flatMap g).zip (bs.flatMap k) = bs.flatMap fun b => (g b).zip (k b) := by
  induction bs with
  | nil => rfl
  | cons b bs ih =>
    obtain ⟨hb, hbs⟩ := List.forall_mem_cons.1 h
    simp only [List.flatMap_cons, List.zip_append hb, ih hbs]

section
variable {f : Format} {bgs : List Nat} {mem : List Host.Cell} {readings : List Reading}
  (hr : readings = f.blocks.flatMap (fun b => readBlock f bgs mem b.walk b.options b.count))
include hr

/-- The class read for question `h` of a block is paired with the question's number. -/
theorem Format.mem_numbering_zip {b : AnswerBlock} (hb : b ∈ f.blocks) {h : Nat} {rd : Reading}
    (hrd : (readBlock f bgs mem b.walk b.options b.count)[h]? = some rd) :
    (b.first + h, rd.cls) ∈ f.numbering.zip (readings.map Reading.cls) := by
  obtain ⟨hh, -⟩ := List.getElem?_eq_some_iff.1 hrd
  rw [readBlock_length] at hh
  rw [hr, List.map_flatMap, Format.numbering, zip_flatMap fun c _ => by simp [readBlock_length]]
  refine List.mem_flatMap.2 ⟨b, hb, List.mem_of_getElem? (i := h) (List.getElem?_zip_eq_some.2 ⟨?_, ?_⟩)⟩
  · rw [List.getElem?_map, List.getElem?_range hh]
    rfl
  · rw [List.getElem?_map, hrd]
    rfl

variable (hv : f.questionsValid = true)
include hv

theorem Format.map_fst_numbering_zip :
    ((f.numbering.zip (readings.map Reading.cls)).map Prod.fst).Perm (List.range' 1 f.questions) := by
  have hperm := Format.numbering_perm hv
  rwa [List.map_fst_zip]
  rw [hperm.length_eq, List.length_range', List.length_map, hr, readBlocks_length]

theorem Format.responses_length : (f.responses readings).length = f.questions :=
  length_map_snd_insertionSort (Format.map_fst_numbering_zip hr hv)

theorem Format.responses_getElem? {b : AnswerBlock} (hb : b ∈ f.blocks) {h : Nat} (hh : h < b.count) :
    (f.responses readings)[b.first - 1 + h]? =
      (readBlock f bgs mem b.walk b.options b.count)[h]?.map Reading.cls := by
  have hfirst := le_first_of_contiguous (Format.contiguous_of_questionsValid hv) b (f.ascending_perm.symm.subset hb)
  have hrd := readBlock_getElem? (f := f) (bgs := bgs) (mem := mem) (w := b.walk) (options := b.options) hh
  have hmem := Format.mem_numbering_zip hr hb hrd
  rw [show b.first + h = 1 + (b.first - 1 + h) by omega] at hmem
  rw [hrd]
  exact getElem?_map_snd_insertionSort (Format.map_fst_numbering_zip hr hv) hmem

end

end Sys2Proof.Machine

section
open Sys2Proof Sys2Proof.Machine

/-- Settles O56: R170's table, the bubbles of a block, the value of the digits, and the sorting of the responses by question. -/
theorem questionsAreClassified : Obligations.QuestionsAreClassified := by
  intro f d1 d2 rest ds hperm h12 hrest
  refine ⟨classify_eq hperm h12 hrest, fun ht o ho => ?_, fun bgs mem w options count =>
      ⟨readBlock_length .., fun rd => cls_of_mem_readBlock⟩, fun bgs mem => rfl,
    fun bgs mem w options count h m a hh hm ha => ?_, fun digits hlen =>
      ⟨fun hnone => ?_, fun options hopt hclass number hnumber => ?_⟩,
    fun bgs mem readings hr hv => ⟨Format.responses_length hr hv, fun b hb h => Format.responses_getElem? hr hv hb⟩⟩
  · obtain ⟨hlt, rfl⟩ := classify_option hperm h12 hrest ht ho
    exact ⟨hlt, getElem?_eq_largest_iff hperm hrest hlt⟩
  · rw [readBlock_getElem? hh]
    exact questionDarkness_getElem? hm ha
  · obtain ⟨c, hc, hcls⟩ := hnone
    exact numberRead_unread ⟨c, hc, QClass.option?_eq_none hcls⟩
  · have hvalue := digitsValue_some (map_option?_eq (hlen.trans hopt.symm) hclass) 0
    rw [hopt, Nat.zero_mul, Nat.zero_add] at hvalue
    exact numberRead_of_value (hnumber ▸ hvalue)

end
end

section
/-! PROOF. The result of a sheet: its totals as sums over the questions and over the sections, their bounds, and its counts
(R173 to R175). -/

namespace Sys2Proof.Machine

variable {f : Format} {key : List KeyEntry} {responses : List QClass} {generation tag : Nat}

/-! ### A question (R173) -/

theorem countedAs_void {e : KeyEntry} (h : e.keySet = 0) (c : QClass) : countedAs e c = .void := if_pos h

theorem countedAs_eq {e : KeyEntry} (h : e.keySet ≠ 0) (c : QClass) : countedAs e c = match c with
    | .resp o | .respE o => if e.keySet.getLsbD o then .correct else .wrong
    | .blank => .blank
    | .faint => .faint
    | .multi => .multi := if_neg h

/-- The outcome column of R173's table. -/
theorem outcome_eq (f : Format) (e : KeyEntry) (c : QClass) : outcome f e c = if e.keySet = 0 then 0 else
    match c with
    | .resp o | .respE o => if e.keySet.getLsbD o then (e.weight : Int) else -e.penalty
    | .blank => 0
    | .faint => match f.faint with | .asBlank => 0 | .asWrong => -e.penalty
    | .multi => match f.multi with | .asBlank => 0 | .asWrong => -e.penalty := by
  unfold outcome
  split_ifs with h
  · rw [countedAs_void h]
  · rw [countedAs_eq h]
    cases c with
    | resp o | respE o =>
      dsimp only
      split_ifs <;> rfl
    | blank => rfl
    | faint => cases f.faint <;> rfl
    | multi => cases f.multi <;> rfl

theorem policyOutcome_bounds (p : Policy) (penalty : Nat) :
    -(penalty : Int) ≤ policyOutcome p penalty ∧ policyOutcome p penalty ≤ 0 := by
  cases p <;> simp [policyOutcome]

/-- A question costs at most its penalty and earns at most its weight. -/
theorem outcome_bounds (f : Format) (e : KeyEntry) (c : QClass) :
    -(e.penalty : Int) ≤ outcome f e c ∧ outcome f e c ≤ e.weight := by
  have hfaint := policyOutcome_bounds f.faint e.penalty
  have hmulti := policyOutcome_bounds f.multi e.penalty
  unfold outcome
  cases countedAs e c <;> dsimp only <;> omega

/-- The place of a kind of count in R173's order. -/
def Counted.place : Counted → Nat
  | .correct => 0
  | .wrong => 1
  | .blank => 2
  | .faint => 3
  | .multi => 4
  | .void => 5

theorem Counted.place_beq (a b : Counted) : (a.place == b.place) = (a == b) := by
  cases a <;> cases b <;> rfl

/-- The last column of R173's table, by place. -/
theorem countedAs_place (e : KeyEntry) (c : QClass) : (countedAs e c).place = if e.keySet = 0 then 5 else
    match c with
    | .resp o | .respE o => if e.keySet.getLsbD o then 0 else 1
    | .blank => 2
    | .faint => 3
    | .multi => 4 := by
  split_ifs with h
  · rw [countedAs_void h]
    rfl
  · rw [countedAs_eq h]
    cases c with
    | resp o | respE o =>
      dsimp only
      split_ifs <;> rfl
    | blank | faint | multi => rfl

/-! ### Sums over the sections (R174) -/

/-- The sum of `g` over the questions of a section. -/
def sectionTotal (g : KeyEntry × QClass → Int) (xs : List (KeyEntry × QClass)) (k : Nat) : Int :=
  ((xs.filter (fun x => x.1.sect == k)).map g).sum

theorem sectionSum_scoreAll (f : Format) (key : List KeyEntry) (responses : List QClass) (k : Nat) :
    sectionSum (scoreAll f key responses) k = sectionTotal (fun x => outcome f x.1 x.2) (key.zip responses) k := by
  simp only [sectionSum, scoreAll, sectionTotal, List.filter_map, List.map_map]
  rfl

theorem sectionTotal_cons (g : KeyEntry × QClass → Int) (x : KeyEntry × QClass) (xs : List (KeyEntry × QClass)) (k : Nat) :
    sectionTotal g (x :: xs) k = (if x.1.sect = k then g x else 0) + sectionTotal g xs k := by
  by_cases h : x.1.sect = k <;> simp [sectionTotal, h]

theorem sum_range_indicator {n j : Nat} (h : j < n) (v : Int) :
    ((List.range n).map (fun k => if j = k then v else 0)).sum = v := by
  rw [List.sum_map_eq_nsmul_single j _ fun k hk _ => if_neg hk.symm, if_pos rfl,
    List.count_eq_one_of_mem List.nodup_range (List.mem_range.2 h), one_nsmul]

/-- Where every question has a section below `n`, the sections' totals add up to the total. -/
theorem sum_sectionTotal {g : KeyEntry × QClass → Int} {xs : List (KeyEntry × QClass)} {n : Nat}
    (h : ∀ x ∈ xs, x.1.sect < n) : ((List.range n).map (sectionTotal g xs)).sum = (xs.map g).sum := by
  induction xs with
  | nil => exact List.sum_eq_zero fun z hz => by obtain ⟨k, -, rfl⟩ := List.mem_map.1 hz; rfl
  | cons x xs ih =>
    obtain ⟨hx, hxs⟩ := List.forall_mem_cons.1 h
    simp only [funext (sectionTotal_cons g x xs), List.sum_map_add, sum_range_indicator hx, ih hxs, List.map_cons,
      List.sum_cons]

theorem sectionTotal_le {g g' : KeyEntry × QClass → Int} {xs : List (KeyEntry × QClass)} (h : ∀ x ∈ xs, g x ≤ g' x)
    (k : Nat) : sectionTotal g xs k ≤ sectionTotal g' xs k :=
  List.sum_le_sum fun x hx => h x (List.mem_of_mem_filter hx)

theorem le_sectionResult (floor : Bool) (z : Int) : z ≤ sectionResult floor z := by
  cases floor
  · exact le_rfl
  · exact le_max_right ..

theorem sectionResult_le {floor : Bool} {z w : Int} (hz : z ≤ w) (hw : 0 ≤ w) : sectionResult floor z ≤ w := by
  cases floor
  · exact hz
  · exact max_le hw hz

/-! ### The totals (R174) -/

theorem scoreSheet_raw (f : Format) (key : List KeyEntry) (responses : List QClass) (generation tag : Nat) :
    (scoreSheet f key responses generation tag).raw =
      ((List.range 8).map (sectionTotal (fun x => outcome f x.1 x.2) (key.zip responses))).sum := by
  simp only [scoreSheet, sectionSums, funext (sectionSum_scoreAll f key responses)]

theorem scoreSheet_floored (f : Format) (key : List KeyEntry) (responses : List QClass) (generation tag : Nat) :
    (scoreSheet f key responses generation tag).floored = ((List.range 8).map (fun k =>
      sectionResult f.sectionFloor (sectionTotal (fun x => outcome f x.1 x.2) (key.zip responses) k))).sum := by
  simp only [scoreSheet, sectionSums, funext (sectionSum_scoreAll f key responses), List.map_map]
  rfl

theorem scoreSheet_clamped_iff : (scoreSheet f key responses generation tag).clamped = true ↔
    f.sectionFloor = true ∧
        (∃ k, k < 8 ∧ sectionTotal (fun x => outcome f x.1 x.2) (key.zip responses) k < 0) ∨
      (scoreSheet f key responses generation tag).floored < f.paperFloor := by
  simp only [scoreSheet, sectionSums, funext (sectionSum_scoreAll f key responses), Bool.or_eq_true, Bool.and_eq_true,
    List.any_map, List.any_eq_true, List.mem_range, Function.comp_apply, decide_eq_true_eq, lt_max_iff, lt_self_iff_false,
    false_or]

/-- The section floor only adds. -/
theorem scoreSheet_raw_le_floored (f : Format) (key : List KeyEntry) (responses : List QClass) (generation tag : Nat) :
    (scoreSheet f key responses generation tag).raw ≤ (scoreSheet f key responses generation tag).floored := by
  rw [scoreSheet_raw, scoreSheet_floored]
  exact List.sum_le_sum fun k _ => le_sectionResult ..

theorem scoreSheet_floored_of_noFloor (h : f.sectionFloor = false) :
    (scoreSheet f key responses generation tag).floored = (scoreSheet f key responses generation tag).raw := by
  rw [scoreSheet_raw, scoreSheet_floored, h]
  rfl

theorem scoreSheet_floored_nonneg (h : f.sectionFloor = true) :
    0 ≤ (scoreSheet f key responses generation tag).floored := by
  rw [scoreSheet_floored, h]
  refine List.sum_nonneg fun z hz => ?_
  obtain ⟨k, -, rfl⟩ := List.mem_map.1 hz
  exact le_max_left ..

section
variable (hsect : ∀ e ∈ key, e.sect < 8)
include hsect

theorem sect_lt_of_mem_zip : ∀ x ∈ key.zip responses, x.1.sect < 8 :=
  fun _ hx => hsect _ (List.of_mem_zip hx).1

theorem scoreSheet_raw_eq_sum : (scoreSheet f key responses generation tag).raw =
    ((key.zip responses).map (fun x => outcome f x.1 x.2)).sum := by
  rw [scoreSheet_raw, sum_sectionTotal (sect_lt_of_mem_zip hsect)]

variable (hlen : responses.length = key.length)
include hlen

/-- Each section's result is at most the weights of its questions. -/
theorem scoreSheet_floored_le_weights :
    (scoreSheet f key responses generation tag).floored ≤ ((key.map KeyEntry.weight).sum : Nat) := by
  have hweights : ((List.range 8).map (sectionTotal (fun x => (x.1.weight : Int)) (key.zip responses))).sum =
      ((key.map KeyEntry.weight).sum : Nat) := by
    have hkey : (key.zip responses).map Prod.fst = key := List.map_fst_zip hlen.ge
    rw [sum_sectionTotal (sect_lt_of_mem_zip hsect), Nat.cast_list_sum, List.map_map]
    conv_rhs => rw [← hkey, List.map_map]
    rfl
  rw [scoreSheet_floored, ← hweights]
  refine List.sum_le_sum fun k _ => sectionResult_le ?_ ?_
  · exact sectionTotal_le (fun x _ => (outcome_bounds f x.1 x.2).2) k
  · refine List.sum_nonneg fun z hz => ?_
    obtain ⟨x, -, rfl⟩ := List.mem_map.1 hz
    exact Int.natCast_nonneg _

end

theorem sum_weights_le {m n : Nat} (hlen : key.length ≤ n) (hw : ∀ e ∈ key, e.weight ≤ m) :
    (key.map KeyEntry.weight).sum ≤ n * m := by
  have hsum := List.sum_le_card_nsmul (key.map KeyEntry.weight) m (List.forall_mem_map.2 hw)
  rw [List.length_map, smul_eq_mul] at hsum
  exact hsum.trans (Nat.mul_le_mul_right m hlen)

/-- The outcomes' sum is no lower than all penalties together. -/
theorem neg_le_sum_outcome {xs : List (KeyEntry × QClass)} {m n : Nat} (hlen : xs.length ≤ n)
    (hp : ∀ x ∈ xs, x.1.penalty ≤ m) : -((n * m : Nat) : Int) ≤ (xs.map (fun x => outcome f x.1 x.2)).sum := by
  have hsum := List.card_nsmul_le_sum (xs.map (fun x => outcome f x.1 x.2)) (-(m : Int)) (List.forall_mem_map.2 fun x hx =>
    (Int.neg_le_neg (Int.ofNat_le.2 (hp x hx))).trans (outcome_bounds f x.1 x.2).1)
  have hmul : ((xs.length * m : Nat) : Int) ≤ (n * m : Nat) := Int.ofNat_le.2 (Nat.mul_le_mul_right m hlen)
  rw [List.length_map, smul_neg, nsmul_eq_mul, ← Nat.cast_mul] at hsum
  exact (Int.neg_le_neg hmul).trans hsum

/-! ### The counts (R175) -/

theorem countOf_scoreAll (f : Format) (key : List KeyEntry) (responses : List QClass) (k : Counted) :
    countOf (scoreAll f key responses) k =
      (key.zip responses).countP (fun x => (countedAs x.1 x.2).place == k.place) := by
  simp only [countOf, scoreAll, List.countP_map, Counted.place_beq]
  rfl

/-- Every question is counted once. -/
theorem sum_countOf (qs : List Scored) : countOf qs .correct + countOf qs .wrong + countOf qs .blank + countOf qs .faint +
    countOf qs .multi + countOf qs .void = qs.length := by
  induction qs with
  | nil => rfl
  | cons q qs ih =>
    simp only [countOf, List.countP_cons, List.length_cons] at ih ⊢
    cases q.counted <;> simp <;> omega

theorem countP_erasure_scoreAll (f : Format) (hlen : responses.length = key.length) :
    (scoreAll f key responses).countP Scored.erasure = responses.countP QClass.isErasure := by
  have hresponses : (key.zip responses).map Prod.snd = responses := List.map_snd_zip hlen.le
  conv_rhs => rw [← hresponses]
  rw [scoreAll, List.countP_map, List.countP_map]
  rfl

end Sys2Proof.Machine

section
open Sys2Proof Sys2Proof.Machine

/-- Settles O57: the totals as sums over the questions and the sections, the bounds of each, and the six counts and erasures. -/
theorem resultsKeepTheirBounds : Obligations.ResultsKeepTheirBounds := by
  intro f key responses generation tag r hr hlen hQ hkey hfloor score sect hscore hsect
  obtain rfl : score = fun x => outcome f x.1 x.2 := hscore.trans (funext fun x => (outcome_eq f x.1 x.2).symm)
  obtain rfl : sect = sectionTotal (fun x => outcome f x.1 x.2) (key.zip responses) := hsect
  have hsect8 : ∀ e ∈ key, e.sect < 8 := fun e he => Nat.lt_succ_of_le (hkey e he).2.2
  have hraw : r.raw = _ := hr ▸ scoreSheet_raw_eq_sum hsect8
  have hraised : r.raw ≤ r.floored := hr ▸ scoreSheet_raw_le_floored f key responses generation tag
  have hweights : r.floored ≤ ((key.map KeyEntry.weight).sum : Nat) := hr ▸ scoreSheet_floored_le_weights hsect8 hlen
  have htop : (key.map KeyEntry.weight).sum ≤ 200 * 40 := sum_weights_le hQ fun e he => (hkey e he).1
  have hbottom : -((200 * 40 : Nat) : Int) ≤ r.raw := hraw ▸ neg_le_sum_outcome
    (by rw [List.length_zip, hlen, Nat.min_self]; exact hQ) fun x hx => (hkey _ (List.of_mem_zip hx).1).2.1
  have hfinal : r.final = max r.floored f.paperFloor := by rw [hr]; rfl
  refine ⟨hraw, hr ▸ scoreSheet_floored .., hr ▸ scoreSheet_clamped_iff, fun kind hkind => ?_, ?_,
    fun hoff => hr ▸ scoreSheet_floored_of_noFloor hoff, fun hon => ⟨hr ▸ scoreSheet_floored_nonneg hon, hraised⟩,
    by omega, by omega, by omega, by omega, hfinal, by omega, ?_, ?_, ?_, by rw [hr]; rfl, by rw [hr]; rfl⟩
  · obtain rfl : kind = fun x => (countedAs x.1 x.2).place :=
      hkind.trans (funext fun x => (countedAs_place x.1 x.2).symm)
    simp only [hr, scoreSheet, countOf_scoreAll]
    rfl
  · rw [hr]
    exact (countP_erasure_scoreAll f hlen).trans (congrArg (responses.countP ·) (funext fun q => by cases q <;> rfl))
  · simp only [hr, scoreSheet, decide_eq_true_eq]
  · simp only [hr, scoreSheet, decide_eq_true_eq]
  · rw [hr]
    refine (sum_countOf _).trans ?_
    rw [scoreAll, List.length_map, List.length_zip, hlen, Nat.min_self]

end
end

section
/-! PROOF. RESET held low, IDENTIFY, and SESSION_CLEAR (R194 to R196, logs 7, 15, 32, 62). -/

namespace Sys2Proof.Machine

variable {s : State}

/-! ### RESET held low (R196, log 7) -/

/-- While RESET is held low, a command other than RESET and RESET_ASSERTED does nothing. -/
theorem exec_resetLow {c : Instr} (h : s.resetLow = true) (hasserted : c ≠ .resetAsserted)
    (hreset : ∀ strap1 strap0, c ≠ .reset strap1 strap0) : exec c s = .next s := by
  cases c with
  | resetAsserted => exact absurd rfl hasserted
  | reset strap1 strap0 => exact absurd rfl (hreset strap1 strap0)
  | _ => exact congrArg Host.Outcome.next (if_pos h)

/-! ### SESSION_CLEAR (R195) -/

/-- The checks of SESSION_CLEAR, in order (R195, R197). -/
theorem State.clearRefusal_eq (s : State) : s.clearRefusal =
    if s.papers.any (fun e => e.2.state.running) then some 6
    else if s.hold ≠ none then some 7
    else if s.job ≠ none then some 8
    else if s.reader.bound ≠ none then some 9
    else if s.marker.isRescoring then some 10
    else none := by
  simp only [State.clearRefusal, Option.isSome_iff_ne_none]

/-- A clear that is refused, with the detail of its first failing check (R190, R195). -/
theorem running_sessionClear_refused (h : s.LinkFree) (tag : Nat) {detail : Nat} (hc : s.clearRefusal = some detail) :
    running (State.hostRequest tag .sessionClear) s = .next (s.turnedDown 0x03 tag .state detail 0) := by
  have hpump : s.pump.clearRefusal = some detail := hc
  refine running_hostRequest_refused h (r := .sessionClear) ?_
  simp only [Machine.decide, decideSessionClear, hpump]
  rfl

/-- A clear that is taken: the records are emptied, and SESSION_CLEARED is queued behind the reply (R195). -/
theorem running_sessionClear_taken (h : s.LinkFree) (tag : Nat) (hc : s.clearRefusal = none) :
    running (State.hostRequest tag .sessionClear) s = .next
      (((s.pump.cleared.reply 0x03 (BitVec.ofNat 8 tag) (.ok (u16 s.cands.length ++ u8 s.papers.length))).post 0
        (.sessionCleared s.cands.length s.papers.length)).pump) := by
  have hpump : s.pump.clearRefusal = none := hc
  have hd : Machine.decide .sessionClear s.pump =
      (s.pump.cleared, .ok (u16 s.cands.length ++ u8 s.papers.length)) := by
    simp only [Machine.decide, decideSessionClear, hpump]
    rfl
  rw [running_hostRequest_free h, hd, State.afterStep, if_pos ⟨rfl, hpump⟩]
  rfl

end Sys2Proof.Machine

section
open Sys2Proof Sys2Proof.Machine

/-- Settles O4: every command but the two of RESET is run by `running`, which does nothing while RESET is low. -/
theorem resetHeldLowStopsCommands : Obligations.ResetHeldLowStopsCommands :=
  ⟨fun _ => rfl, fun _ _ h hasserted hreset => exec_resetLow h hasserted hreset⟩

/-- Settles O23: the two codes and the revision as bytes, and the rate the transmitter leaves as it was. -/
theorem identifyNamesThePart : Obligations.IdentifyNamesThePart := fun tag s h => by
  have hd : decideIdentify s.pump = (s.pump, .ok ([0x56, 0x4B, 0x05, 0x12, 0x03] ++ [BitVec.ofNat 8 s.link.rate])) := by
    rw [decideIdentify, State.pump_rate]
    rfl
  exact running_hostRequest_ok h (r := .identify) (by simp) hd

/-- Settles O25, from the first failing check, if there is one. -/
theorem sessionClearEmptiesTheSitting : Obligations.SessionClearEmptiesTheSitting := fun tag s h => by
  have hc := s.clearRefusal_eq
  split_ifs at hc ⊢
  iterate 5 exact running_sessionClear_refused h tag hc
  exact running_sessionClear_taken h tag hc

end
end

section
/-! PROOF. The host link's receiver: bytes gather in it until the frame is complete or cannot become one, and then the length
and the check decide; a frame broken off is discarded (R186, R187, R197). -/

namespace Sys2Proof.Machine

variable {s : State} {k tag : Byte} {body got : List Byte}

/-! ### A frame under receipt (R186, R187) -/

/-- The bytes after the start byte are not yet a whole frame, and their length, where it has come, is one of 2..510 (R186). -/
def HostFrameOpen (got : List Byte) : Prop :=
  2 ≤ got.length → 2 ≤ at16 got 0 ∧ at16 got 0 ≤ 510 ∧ got.length ≤ at16 got 0 + 3

/-- What the receiver holds of a frame under receipt: HEADER before the length, then BODY with the length and the check over the
bytes before the two check bytes (R185 to R187). -/
def HostRx.holding (got : List Byte) : HostRx :=
  if got.length < 2 then { state := .header, bytes := got, length := 0, crc := crc16 got }
  else { state := .body, bytes := got, length := at16 got 0, crc := crc16 (got.take (at16 got 0 + 2)) }

theorem HostRx.holding_header (h : got.length < 2) :
    HostRx.holding got = { state := .header, bytes := got, length := 0, crc := crc16 got } := if_pos h

theorem HostRx.holding_body (h : 2 ≤ got.length) : HostRx.holding got =
    { state := .body, bytes := got, length := at16 got 0, crc := crc16 (got.take (at16 got 0 + 2)) } := if_neg h.not_gt

theorem crc16_append_singleton (got : List Byte) (b : Byte) : crc16 (got ++ [b]) = crcByte (crc16 got) b := List.foldl_concat ..

theorem at16_append_left {xs : List Byte} {i : Nat} (h : i + 1 < xs.length) (ys : List Byte) :
    at16 (xs ++ ys) i = at16 xs i := by
  rw [at16, at8_append_left (by omega), at8_append_left h]
  rfl

theorem at16_append (xs ys : List Byte) : at16 (xs ++ ys) xs.length = at16 ys 0 := by
  have hlow : at8 (xs ++ ys) (xs.length + 0) = at8 ys 0 := at8_append xs ys 0
  rw [at16, at8_append]
  exact congrArg (· * 256 + _) hlow

theorem at16_u16 {n : Nat} (h : n < 65536) (rest : List Byte) : at16 (u16 n ++ rest) 0 = n := u16_value h

theorem HostFrameOpen.of_append {ys : List Byte} (h : HostFrameOpen (got ++ ys)) : HostFrameOpen got := fun hlen => by
  have hopen := h (by rw [List.length_append]; omega)
  rw [at16_append_left hlen, List.length_append] at hopen
  omega

/-! ### The receiver's updates -/

@[simp] theorem State.setRx_setRx (r q : HostRx) : (s.setRx r).setRx q = s.setRx q := rfl

/-- A receiver that hunts again has let its frame go. -/
theorem State.setRx_reset (h : s.link.rx = HostRx.reset) : s.setRx HostRx.reset = s := by
  rw [State.setRx, ← h]

/-- A frame under receipt that is discarded leaves the flag, and the receiver as it was before the frame (R186). -/
theorem State.setRx_discardRx (h : s.link.rx = HostRx.reset) (r : HostRx) : (s.setRx r).discardRx = s.discardFrame := by
  rw [State.discardRx, State.setRx_setRx, State.setRx_reset h]

theorem HostRx.holding_state_ne_hunt (got : List Byte) : (HostRx.holding got).state ≠ .hunt := by
  unfold HostRx.holding
  split <;> simp

theorem State.breakFrame_holding (h : s.link.rx = HostRx.reset) (got : List Byte) :
    (s.setRx (HostRx.holding got)).breakFrame = s.discardFrame := by
  rw [← State.setRx_discardRx h (HostRx.holding got), State.breakFrame]
  split
  next hhunt => exact absurd hhunt (HostRx.holding_state_ne_hunt got)
  next => rfl
  next => rfl

/-- A gap while the receiver hunts has no effect (R186). -/
theorem State.breakFrame_hunt (h : s.link.rx = HostRx.reset) : s.breakFrame = s := by
  rw [State.breakFrame, h]
  rfl

/-! ### Bytes (R186) -/

@[simp] theorem State.hostBytes_nil : s.hostBytes [] = s := rfl

theorem State.hostBytes_append (xs ys : List Byte) : s.hostBytes (xs ++ ys) = (s.hostBytes xs).hostBytes ys :=
  List.foldl_append ..

theorem State.hostBytes_start (h : s.link.rx = HostRx.reset) (bytes : List Byte) :
    s.hostBytes (0x7E#8 :: bytes) = (s.setRx (HostRx.holding [])).hostBytes bytes := by
  rw [State.hostBytes, List.foldl_cons, State.hostByte, h]
  rfl

theorem State.hostByte_holding_header (h : got.length < 2) (b : Byte) : (s.setRx (HostRx.holding got)).hostByte b =
    (s.setRx (HostRx.holding got)).headerByte (HostRx.holding got) b := by
  rw [State.hostByte, HostRx.holding_header h]
  rfl

theorem State.hostByte_holding_body (h : 2 ≤ got.length) (b : Byte) : (s.setRx (HostRx.holding got)).hostByte b =
    (s.setRx (HostRx.holding got)).bodyByte (HostRx.holding got) b := by
  rw [State.hostByte, HostRx.holding_body h]
  rfl

/-- A byte joins a frame under receipt that it leaves open. -/
theorem State.hostByte_open {b : Byte} (h : HostFrameOpen (got ++ [b])) :
    (s.setRx (HostRx.holding got)).hostByte b = s.setRx (HostRx.holding (got ++ [b])) := by
  have hlength : (got ++ [b]).length = got.length + 1 := List.length_append
  obtain hheader | hbody := Nat.lt_or_ge got.length 2
  · rw [State.hostByte_holding_header hheader, HostRx.holding_header hheader, State.headerByte, ← crc16_append_singleton]
    dsimp only
    split
    next hshort => rw [HostRx.holding_header hshort]; rfl
    next hlong =>
      obtain ⟨hlow, hhigh, -⟩ := h (by omega)
      rw [if_pos ⟨hlow, hhigh⟩, HostRx.holding_body (by omega), List.take_of_length_le (by omega)]
      rfl
  · obtain ⟨-, -, hopen⟩ := h (by omega)
    have hvalue : at16 (got ++ [b]) 0 = at16 got 0 := at16_append_left hbody [b]
    rw [State.hostByte_holding_body hbody, HostRx.holding_body hbody, HostRx.holding_body (by omega), hvalue, State.bodyByte]
    dsimp only
    split
    next hchecked =>
      rw [List.take_of_length_le (by omega), List.take_of_length_le (by omega), crc16_append_singleton]
      rfl
    next hpast => rw [if_pos (by omega), List.take_append_of_le_length (by omega)]; rfl

/-- The last byte of a frame: its check decides whether it is received or discarded (R186, R187). -/
theorem State.hostByte_completes (hs : s.link.rx = HostRx.reset) (hvalue : 2 ≤ at16 got 0)
    (hwhole : got.length = at16 got 0 + 3) (b : Byte) : (s.setRx (HostRx.holding got)).hostByte b =
      if at16 (got ++ [b]) (at16 got 0 + 2) = (crc16 (got.take (at16 got 0 + 2))).toNat then
        s.receiveFrame (frameOf (got ++ [b]) (at16 got 0))
      else s.discardFrame := by
  have hlength : (got ++ [b]).length = got.length + 1 := List.length_append
  rw [State.hostByte_holding_body (by omega), HostRx.holding_body (by omega), State.bodyByte]
  dsimp only
  rw [if_neg (by omega), if_neg (by omega), State.setRx_setRx, State.setRx_reset hs, State.setRx_discardRx hs]

/-- Bytes gather as long as the frame is open. -/
theorem State.hostBytes_open (hs : s.link.rx = HostRx.reset) (h : HostFrameOpen got) :
    s.hostBytes (0x7E#8 :: got) = s.setRx (HostRx.holding got) := by
  rw [State.hostBytes_start hs]
  induction got using List.reverseRecOn with
  | nil => rfl
  | append_singleton got b ih =>
    rw [State.hostBytes_append, ih h.of_append]
    exact State.hostByte_open h

/-- A length outside 2..510 ends the frame (R186). -/
theorem State.hostBytes_badLength (hs : s.link.rx = HostRx.reset) {n : Nat} (hn : n < 65536) (hbad : n < 2 ∨ 510 < n) :
    s.hostBytes (0x7E#8 :: u16 n) = s.discardFrame := by
  have hopen : HostFrameOpen [BitVec.ofNat 8 (n / 256)] := fun hlen => absurd hlen (by simp)
  have hvalue : at16 (u16 n) 0 = n := at16_u16 hn []
  calc s.hostBytes (0x7E#8 :: u16 n)
      = (s.setRx (HostRx.holding [BitVec.ofNat 8 (n / 256)])).hostByte (BitVec.ofNat 8 n) := by
        rw [← State.hostBytes_open hs hopen]
        rfl
    _ = (s.setRx (HostRx.holding [BitVec.ofNat 8 (n / 256)])).discardRx := by
        have hout : ¬ (2 ≤ at16 (u16 n) 0 ∧ at16 (u16 n) 0 ≤ 510) := by omega
        rw [State.hostByte_holding_header (by simp), State.headerByte]
        exact if_neg hout
    _ = s.discardFrame := State.setRx_discardRx hs _

/-! ### Whole frames (R187, R197) -/

/-- The bytes that the check covers: length, kind, tag and body (R187). -/
def checkedBytes (k tag : Byte) (body : List Byte) : List Byte := u16 (body.length + 2) ++ [k, tag] ++ body

theorem hostFrame_eq (k tag : Byte) (body : List Byte) :
    hostFrame k tag body = 0x7E#8 :: (checkedBytes k tag body ++ u16 (crc16 (checkedBytes k tag body)).toNat) := rfl

theorem length_checkedBytes (k tag : Byte) (body : List Byte) : (checkedBytes k tag body).length = body.length + 4 := by
  simp only [checkedBytes, List.length_append, length_u16, List.length_cons, List.length_nil]
  omega

theorem at16_checkedBytes (k tag : Byte) (h : body.length ≤ 508) (rest : List Byte) :
    at16 (checkedBytes k tag body ++ rest) 0 = body.length + 2 := by
  rw [checkedBytes, List.append_assoc, List.append_assoc]
  exact at16_u16 (by omega) _

/-- Part of a frame, its last byte still to come. -/
theorem hostFrameOpen_of_prefix {rest : List Byte} (hbody : body.length ≤ 508) (h : got <+: checkedBytes k tag body ++ rest)
    (hlen : got.length ≤ body.length + 5) : HostFrameOpen got := fun htwo => by
  obtain ⟨more, hmore⟩ := h
  have hvalue : at16 got 0 = body.length + 2 := by
    rw [← at16_append_left htwo more, hmore, at16_checkedBytes k tag hbody]
  omega

/-- The bytes of a frame with the check `x` (R186, R187). -/
theorem State.hostBytes_whole (hs : s.link.rx = HostRx.reset) (hbody : body.length ≤ 508) {x : Nat} (hx : x < 65536) :
    s.hostBytes (0x7E#8 :: (checkedBytes k tag body ++ u16 x)) =
      if x = (crc16 (checkedBytes k tag body)).toNat then s.receiveFrame ⟨k, tag, body⟩ else s.discardFrame := by
  have hchecked := length_checkedBytes k tag body
  obtain ⟨got, hgot⟩ : ∃ got, checkedBytes k tag body ++ [BitVec.ofNat 8 (x / 256)] = got := ⟨_, rfl⟩
  have hlength : got.length = body.length + 5 := by rw [← hgot, List.length_append, hchecked]; rfl
  have hbytes : checkedBytes k tag body ++ u16 x = got ++ [BitVec.ofNat 8 x] := by
    rw [← hgot, List.append_assoc]
    rfl
  have hopen : HostFrameOpen got := by
    rw [← hgot] at hlength ⊢
    exact hostFrameOpen_of_prefix hbody (List.prefix_refl _) hlength.le
  have hvalue : at16 got 0 = body.length + 2 := hgot ▸ at16_checkedBytes k tag hbody _
  have hcrc : got.take (body.length + 2 + 2) = checkedBytes k tag body := hgot ▸ List.take_left' hchecked
  have hcheck : at16 (checkedBytes k tag body ++ u16 x) (body.length + 2 + 2) = x := by
    rw [← hchecked, at16_append]
    exact u16_value hx
  have hframe : frameOf (checkedBytes k tag body ++ u16 x) (body.length + 2) = ⟨k, tag, body⟩ :=
    congrArg (Frame.mk k tag) (List.take_left' rfl)
  rw [hbytes, ← List.cons_append, State.hostBytes_append, State.hostBytes_open hs hopen]
  refine (State.hostByte_completes hs (by omega) (by omega) _).trans ?_
  rw [hvalue, ← hbytes, hcheck, hcrc, hframe]

/-- The bytes of a good frame (R186 to R188). -/
theorem State.hostBytes_hostFrame (hs : s.link.rx = HostRx.reset) (hbody : body.length ≤ 508) (k tag : Byte) :
    s.hostBytes (hostFrame k tag body) = s.receiveFrame ⟨k, tag, body⟩ := by
  rw [hostFrame_eq, State.hostBytes_whole hs hbody (BitVec.isLt _), if_pos rfl]

/-- A frame broken off before its last byte (R186). -/
theorem State.breakFrame_prefix (hs : s.link.rx = HostRx.reset) (hbody : body.length ≤ 508) {bytes : List Byte}
    (hpre : bytes <+: hostFrame k tag body) (hnil : bytes ≠ []) (hpart : bytes ≠ hostFrame k tag body) :
    (s.hostBytes bytes).breakFrame = s.discardFrame := by
  obtain ⟨b, got, rfl⟩ := List.exists_cons_of_ne_nil hnil
  rw [hostFrame_eq] at hpre hpart
  obtain ⟨rfl, hgot⟩ := List.cons_prefix_cons.1 hpre
  have hshort : got.length < body.length + 6 := by
    refine lt_of_le_of_ne (hgot.length_le.trans ?_) fun heq => hpart ?_
    · simp [length_checkedBytes]
    · rw [hgot.eq_of_length (by simp [length_checkedBytes, heq])]
  rw [State.hostBytes_open hs (hostFrameOpen_of_prefix hbody hgot (by omega)), State.breakFrame_holding hs]

/-! ### The commands that bring bytes (R186) -/

theorem exec_hostFrameReceived (h : s.resetLow = false) {bytes : List Byte} {u : State} (hu : s.pump.hostBytes bytes = u) :
    exec (.hostFrameReceived bytes) s = .next u.pump := running_next (f := fun t => t.hostBytes bytes) h hu

theorem exec_hostGapTimeout (h : s.resetLow = false) {bytes : List Byte} {u : State}
    (hu : (s.pump.hostBytes bytes).breakFrame = u) : exec (.hostGapTimeout bytes) s = .next u.pump :=
  running_next (f := fun t => (t.hostBytes bytes).breakFrame) h hu

theorem exec_hostFrameDiscarded (h : s.resetLow = false) {bytes : List Byte} {u : State} (hu : s.pump.hostBytes bytes = u) :
    exec (.hostFrameDiscarded bytes false) s = .next u.pump := running_next (f := fun t => t.hostBytes bytes) h hu

/-- A byte with a bad stop bit does what a gap does (R186, log 34). -/
theorem exec_hostFrameDiscarded_badStop (s : State) (bytes : List Byte) :
    exec (.hostFrameDiscarded bytes true) s = exec (.hostGapTimeout bytes) s := rfl

end Sys2Proof.Machine

section
open Sys2Proof Sys2Proof.Machine

/-- Settles O8: a part of a frame is open, a bad length ends it, and a wrong check is not accepted. -/
theorem brokenFrameDiscarded : Obligations.BrokenFrameDiscarded := by
  intro k tag body s hlow hrx hbody
  have hs : s.pump.link.rx = HostRx.reset := s.pump_rx.trans hrx
  refine ⟨fun bytes hpre hnil hpart => ?_, fun n hn hbad => ?_, fun x hx hne => ?_, ?_⟩
  · rw [exec_hostFrameDiscarded_badStop]
    have hbroken := exec_hostGapTimeout hlow (State.breakFrame_prefix hs hbody hpre hnil hpart)
    exact ⟨hbroken, hbroken⟩
  · exact exec_hostFrameDiscarded hlow (State.hostBytes_badLength hs hn hbad)
  · exact exec_hostFrameDiscarded hlow ((State.hostBytes_whole hs hbody hx).trans (if_neg hne))
  · rw [exec_hostGapTimeout (bytes := []) hlow (State.breakFrame_hunt hs), State.hostBytes_nil, State.pump_pump]

end
end

section
/-! PROOF. What a whole frame asks: the row of the request it carries, or a refusal where it carries none (R188, R189, R199,
log 8). -/

namespace Sys2Proof.Machine

variable {s : State} {kind : Nat} {k tag : Byte} {body : List Byte} {r : Request} {f : Frame}

/-! ### Kinds and lengths (R199) -/

/-- R199's kinds of a fixed body length, each with that length: all but FORMAT_LOAD and KEY_LOAD. -/
def fixedLengths : List (Nat × Nat) :=
  [(0x01, 0), (0x02, 0), (0x03, 0), (0x04, 3), (0x05, 15), (0x06, 6), (0x07, 3), (0x08, 4), (0x10, 43), (0x11, 1), (0x12, 10),
    (0x13, 2), (0x14, 4), (0x15, 3), (0x18, 14), (0x19, 0), (0x1A, 4), (0x1B, 2), (0x20, 1), (0x21, 1), (0x22, 2), (0x23, 2),
    (0x24, 0), (0x25, 0), (0x28, 2), (0x29, 1), (0x2A, 3), (0x31, 1), (0x33, 3), (0x34, 1), (0x35, 0), (0x36, 1), (0x37, 2),
    (0x38, 2)]

theorem bodyLength_of_mem {n : Nat} (h : (kind, n) ∈ fixedLengths) : bodyLength kind body = some n := by
  have hall : ∀ e ∈ fixedLengths, bodyLength e.1 body = some e.2 := by simp [fixedLengths, bodyLength]
  exact hall _ h

/-- A kind with a body length is FORMAT_LOAD's, KEY_LOAD's, or one of fixed length; and a body of that kind can be read. -/
theorem bodyLength_cases {n : Nat} (h : bodyLength kind body = some n) :
    (kind = 0x30 ∨ kind = 0x32 ∨ (kind, n) ∈ fixedLengths) ∧ ∃ r, readBody kind body = some r := by
  unfold bodyLength at h
  split at h
  case h_28 => exact ⟨.inl rfl, _, rfl⟩
  case h_30 => exact ⟨.inr (.inl rfl), _, rfl⟩
  case h_37 => cases h
  all_goals
    cases h
    exact ⟨.inr (.inr (by decide)), _, rfl⟩

theorem bodyLength_none (hformat : kind ≠ 0x30) (hkey : kind ≠ 0x32) (hfixed : ∀ n, (kind, n) ∉ fixedLengths) :
    bodyLength kind body = none :=
  Option.eq_none_iff_forall_ne_some.2 fun n h => by
    obtain ⟨hkind | hkind | hmem, -⟩ := bodyLength_cases h
    · exact hformat hkind
    · exact hkey hkind
    · exact hfixed n hmem

theorem readRequest_unknownKind (h : bodyLength kind body = none) : readRequest kind body = .unknownKind := by
  simp only [readRequest, h]

theorem readRequest_badLength {n : Nat} (h : bodyLength kind body = some n) (hne : body.length ≠ n) :
    readRequest kind body = .badLength := by
  obtain ⟨-, r, hr⟩ := bodyLength_cases h
  simp only [readRequest, h, hr, if_neg hne, ite_self]

/-! ### The body of a request fits a frame (R186, R199) -/

theorem length_requestBody_le (h : r.wellFormed = true) : (requestBody r).length ≤ 508 := by
  have hb := bodyLength_requestBody h
  cases r with
  | formatLoad slot a =>
    simp only [Request.wellFormed, FormatArgs.wellFormed, Bool.and_eq_true, decide_eq_true_eq] at h
    have hcount : at8 (u8 slot ++ writeFormatArgs a) 24 = a.blocks.length := formatLoad_count (by omega)
    have hlength : 25 + 9 * at8 (u8 slot ++ writeFormatArgs a) 24 = _ := Option.some.inj hb
    omega
  | keyLoad slot first entries =>
    simp only [Request.wellFormed, Bool.and_eq_true, decide_eq_true_eq] at h
    have hcount : at8 (requestBody (.keyLoad slot first entries)) 2 = entries.length := u8_value (by omega)
    have hlength : 3 + 4 * at8 (requestBody (.keyLoad slot first entries)) 2 = _ := Option.some.inj hb
    omega
  | _ => exact (Option.some.inj hb).symm.trans_le (by decide)

theorem requestKind_lt (r : Request) : requestKind r < 0x40 := by
  cases r <;> simp [requestKind]

/-! ### A frame that has come (R188, R189) -/

/-- From kind 0x40 on a frame is discarded (R188). -/
theorem State.receiveFrame_high (h : 0x40 ≤ f.kind.toNat) : s.receiveFrame f = s.discardFrame := if_pos h

/-- With no request in hand a frame of a lower kind is taken (R188). -/
theorem State.receiveFrame_free (h : f.kind.toNat < 0x40) (hs : s.link.inHand = none) : s.receiveFrame f = s.takeFrame f := by
  rw [State.receiveFrame, if_neg h.not_ge, hs]
  rfl

theorem State.takeFrame_unknownKind (h : bodyLength f.kind.toNat f.body = none) :
    s.takeFrame f = s.reply f.kind f.tag (.refused .unknownKind ⟨0, 0⟩) := by
  simp only [State.takeFrame, readRequest_unknownKind h]
  rfl

theorem State.takeFrame_badLength {n : Nat} (h : bodyLength f.kind.toNat f.body = some n) (hne : f.body.length ≠ n) :
    s.takeFrame f = s.reply f.kind f.tag (.refused .length ⟨0, 0⟩) := by
  simp only [State.takeFrame, readRequest_badLength h hne]
  rfl

/-- A frame that carries a request does what the request's row does (log 8). -/
theorem State.receiveFrame_requestFrame (h : r.wellFormed = true) (g : Nat) :
    s.receiveFrame (requestFrame r g) = s.hostRequest g r := by
  have hkind : (requestFrame r g).kind.toNat = requestKind r := u8_value ((requestKind_lt r).trans (by decide))
  have hread : readRequest (requestFrame r g).kind.toNat (requestFrame r g).body = .request r :=
    hkind ▸ readRequest_of_read (bodyLength_requestBody h) (readBody_requestBody h)
  have htake : s.takeFrame (requestFrame r g) = s.takeRequest (requestFrame r g).kind (requestFrame r g).tag r := by
    simp only [State.takeFrame, hread]
  rw [State.receiveFrame, if_neg (hkind ▸ (requestKind_lt r).not_ge), htake, State.hostRequest]

/-! ### The rows (log 8) -/

/-- A request row runs the arrival of its request. -/
theorem exec_request {c : Instr} {g : Nat} (h : c.request? = some (g, r)) : exec c s = running (State.hostRequest g r) s := by
  cases c <;> cases h <;> rfl

/-- A frame that carries no request is answered where it is taken at once (R189). -/
theorem exec_hostFrameReceived_refused (h : s.LinkFree) (hs : s.link.rx = HostRx.reset) (hbody : body.length ≤ 508)
    (hkind : k.toNat < 0x40) {code : ResultCode}
    (htake : s.pump.takeFrame ⟨k, tag, body⟩ = s.pump.reply k tag (.refused code ⟨0, 0⟩)) :
    exec (.hostFrameReceived (hostFrame k tag body)) s = .next (s.turnedDown k.toNat tag.toNat code 0 0) := by
  obtain ⟨hlow, hinHand⟩ := h
  rw [State.turnedDown, BitVec.ofNat_toNat, BitVec.ofNat_toNat, BitVec.setWidth_eq, BitVec.setWidth_eq, ← htake,
    ← State.receiveFrame_free (f := ⟨k, tag, body⟩) hkind (s.pump_inHand.trans hinHand)]
  exact exec_hostFrameReceived hlow (State.hostBytes_hostFrame (s.pump_rx.trans hs) hbody k tag)

end Sys2Proof.Machine

section
open Sys2Proof Sys2Proof.Machine

/-- Settles O6: the bytes gather to the frame, and the frame is read as the request its row carries. -/
theorem requestFrameReceived : Obligations.RequestFrameReceived := by
  intro c tag r s hc _ hr hrx
  have hs : s.pump.link.rx = HostRx.reset := s.pump_rx.trans hrx
  have hbytes : s.pump.hostBytes (hostFrame (BitVec.ofNat 8 (requestKind r)) (BitVec.ofNat 8 tag) (requestBody r)) =
      s.pump.hostRequest tag r :=
    (State.hostBytes_hostFrame hs (length_requestBody_le hr) _ _).trans (State.receiveFrame_requestFrame hr tag)
  rw [exec_request hc]
  cases hlow : s.resetLow with
  | true => exact ⟨s, running_low _ hlow, exec_resetLow hlow (by simp) (by simp)⟩
  | false => exact ⟨_, running_high _ hlow, exec_hostFrameReceived hlow hbytes⟩

/-- Settles O7: R199's table kind by kind, and the frame that has come by its kind and length. -/
theorem frameWithoutRequest : Obligations.FrameWithoutRequest := by
  refine ⟨?_, fun k tag body s hfree hrx hbody => ?_⟩
  · rintro _ rfl kind body
    refine ⟨fun n hn => bodyLength_of_mem hn, ?_, ?_, bodyLength_none⟩
    · rintro rfl
      rfl
    · rintro rfl
      rfl
  · refine ⟨fun hkind => ?_, fun hkind hnone => ?_, fun n hkind hsome hne => ?_⟩
    · obtain ⟨hlow, -⟩ := hfree
      exact exec_hostFrameReceived hlow ((State.hostBytes_hostFrame (s.pump_rx.trans hrx) hbody k tag).trans
        (State.receiveFrame_high hkind))
    · exact exec_hostFrameReceived_refused hfree hrx hbody hkind (State.takeFrame_unknownKind hnone)
    · exact exec_hostFrameReceived_refused hfree hrx hbody hkind (State.takeFrame_badLength hsome hne)

end
end

section
/-! PROOF. The transmitter, the request in hand and the frames that are sent (R187, R188, R190, R191, R197, R202, log 6). -/

namespace Sys2Proof.Machine

variable {s : State}

/-! ### The transmitter (R191) -/

/-- A transmitter that sends chooses nothing. -/
theorem State.pump_sending (h : s.link.tx ≠ .idle) : s.pump = s := by
  rcases s.link.pump_cases with ⟨-, e⟩ | ⟨_, htx, -⟩ | ⟨_, _, htx, -⟩ | ⟨htx, -⟩
  · rw [State.pump, e]
  · exact absurd htx h
  · exact absurd htx h
  · exact absurd htx h

/-- The transmitter's choice, by what it sends, the request in hand and the queue (R191). -/
theorem State.pump_eq (s : State) : s.pump =
    match s.link.tx, s.link.inHand, s.link.notices with
    | .idle, some r, _ => { s with link := { s.link with tx := .reply r.frame } }
    | .idle, none, n :: rest => { s with link := { s.link with tx := .notice n.frame, notices := rest } }
    | .idle, none, [] => s
    | .reply _, _, _ => s
    | .notice _, _, _ => s := by
  cases htx : s.link.tx with
  | reply bytes => exact State.pump_sending (by simp [htx])
  | notice bytes => exact State.pump_sending (by simp [htx])
  | idle =>
    cases hr : s.link.inHand with
    | some r => simp only [State.pump, Link.pump, htx, hr]
    | none => cases hn : s.link.notices <;> simp only [State.pump, Link.pump, htx, hr, hn]

/-- What REPLY_SENT leaves while a reply is being sent (R188). -/
theorem State.replySent_reply {bytes : List Byte} (h : s.link.tx = .reply bytes) : s.replySent =
    match s.link.waiting with
    | some f => { s with link := { s.link with tx := .idle, inHand := none, waiting := none } }.takeFrame f
    | none => { s with link := { s.link with tx := .idle, inHand := none, waiting := none } } := by
  cases hw : s.link.waiting <;> simp only [State.replySent, h, hw]

/-- What NOTICE_SENT leaves while a notice is being sent (R191). -/
theorem State.noticeSent_notice {bytes : List Byte} (h : s.link.tx = .notice bytes) :
    s.noticeSent = { s with link := { s.link with tx := .idle } } := by
  rw [State.noticeSent, h]

/-! ### One request at a time (R188) -/

/-- Behind a request in hand the next one waits, and one more is dropped. -/
theorem State.hostRequest_inHand {h : InHand} (hs : s.link.inHand = some h) (tag : Nat) (r : Request) :
    s.hostRequest tag r = match s.link.waiting with
      | none => { s with link := { s.link with waiting := some (requestFrame r tag) } }
      | some _ => { s with link := { s.link with requestDropped := true } } := by
  cases hw : s.link.waiting <;> simp [State.hostRequest, hs, hw]

/-! ### Frames (R187, R190, R197) -/

/-- The CRC-16 of R187, bit by bit. -/
theorem crc16_eq (bytes : List Byte) : crc16 bytes =
    bytes.foldl (fun (x : BitVec 16) (b : Byte) => (List.range 8).foldl
      (fun (y : BitVec 16) _ => if y.msb then (y <<< (1 : Nat)) ^^^ 0x1021#16 else y <<< (1 : Nat))
      (x ^^^ (b.setWidth 16 <<< (8 : Nat)))) 0xFFFF#16 := rfl

/-- R187's check value, over the nine digits 1 to 9. -/
theorem crc16_digits : crc16 [0x31, 0x32, 0x33, 0x34, 0x35, 0x36, 0x37, 0x38, 0x39] = 0x29B1 := by decide +kernel

/-- A result code's byte (R190). -/
theorem ResultCode.byte_eq (c : ResultCode) : BitVec.ofNat 8 c.code =
    match c with
    | .ok => 0 | .busy => 1 | .state => 2 | .range => 3 | .unknownKind => 4 | .notFound => 5 | .full => 6
    | .conflict => 7 | .format => 8 | .length => 9 := by
  cases c <;> rfl

theorem Answer.data_refused {code : ResultCode} (hkind : code ≠ .unknownKind) (hlength : code ≠ .length) (d : Detail) :
    (Answer.refused code d).data = u8 d.code ++ u16 d.value := by
  cases code with
  | unknownKind => exact absurd rfl hkind
  | length => exact absurd rfl hlength
  | _ => rfl

theorem InHand.frame_refused {r : InHand} {code : ResultCode} {d : Detail} (h : r.answer = .refused code d) :
    r.frame = hostFrame r.kind r.tag ([r.status] ++ u8 code.code ++ (Answer.refused code d).data) := by
  rw [InHand.frame, h]
  rfl

end Sys2Proof.Machine

section
open Sys2Proof Sys2Proof.Machine

/-- Settles O9: the transmitter's choice after each command of the link, the place behind a request in hand, and the frames. -/
theorem oneRequestAtATime : Obligations.OneRequestAtATime := by
  refine ⟨fun s bytes hlow => ⟨fun htx => ?_, fun htx => ?_⟩, fun c tag r h s hc hlow hs => ?_, State.pump_eq,
    fun crc frame hcrc hframe => ?_⟩
  · have hpump : s.pump = s := State.pump_sending (by simp [htx])
    refine (running_next hlow ((congrArg State.replySent hpump).trans (State.replySent_reply htx))).trans ?_
    cases s.link.waiting <;> rfl
  · have hpump : s.pump = s := State.pump_sending (by simp [htx])
    refine (running_next hlow ((congrArg State.noticeSent hpump).trans (State.noticeSent_notice htx))).trans ?_
    rw [State.pump_eq]
    rcases s.link.inHand with _ | _ <;> rcases s.link.notices with _ | _ <;> rfl
  · rw [exec_request hc, running_next hlow (State.hostRequest_inHand (s.pump_inHand.trans hs) tag r), State.pump_waiting]
    cases s.link.waiting <;> rfl
  · obtain rfl : crc = crc16 := hcrc.trans (funext fun bytes => (crc16_eq bytes).symm)
    obtain rfl : frame = hostFrame := hframe
    refine ⟨crc16_digits, fun _ _ _ => rfl, fun r data h => ?_, fun r code d n h hn => ?_, fun n => rfl⟩
    · rw [InHand.frame, h]
      rfl
    · obtain rfl : n = BitVec.ofNat 8 code.code := hn.trans code.byte_eq.symm
      rw [InHand.frame_refused h]
      refine ⟨fun hcode => ?_, fun hkind hlength => ?_⟩
      · obtain rfl | rfl := hcode <;> rfl
      · rw [Answer.data_refused hkind hlength]
        rfl

end
end

section
/-! PROOF. The queue of waiting commands under the operations that the blocks share and under those of the Seat Map, the Candidate
Table, the Collection Unit, the Session Timer and the Allocation Engine (log 2). What an operation leaves of the queue is said
once, and what is built of it says it by that. -/

namespace Sys2Proof.Machine

variable (s : State)

/-! ### Choices, folds and answers -/

/-- A choice between two continuations leaves the queue that both leave. -/
@[simp] theorem State.ite_pending (p : Prop) [Decidable p] (t u : State) :
    (if p then t else u).pending = if p then t.pending else u.pending := apply_ite State.pending p t u

theorem State.foldl_pending {α : Type} {f : State → α → State} (hf : ∀ t a, (f t a).pending = t.pending) (l : List α) :
    (l.foldl f s).pending = s.pending := by
  induction l generalizing s with
  | nil => rfl
  | cons a l ih => exact (ih (f s a)).trans (hf s a)

/-- A check that refuses, or goes on to the other answer. -/
@[simp] theorem answer_ite_fst (p : Prop) [Decidable p] (a b : State × Answer) :
    (if p then a else b).1 = if p then a.1 else b.1 := apply_ite Prod.fst p a b

/-- A refusal leaves the state as it is (R190). -/
@[simp] theorem refuse_fst (code : ResultCode) : (refuse code s).1 = s := rfl

@[simp] theorem refuseWith_fst (code : ResultCode) (d v : Nat) : (refuseWith code d v s).1 = s := rfl

/-- A check that refuses, before the checks and the effect that follow it. -/
theorem checked_pending {s : State} {p : Prop} [Decidable p] {a b : State × Answer} (ha : a.1 = s)
    (hb : b.1.pending = s.pending) : (if p then a else b).1.pending = s.pending := by
  rw [answer_ite_fst, State.ite_pending, ha, hb, ite_self]

/-- What only moves candidates, papers and the host link leaves the queue. -/
theorem State.Moves.pending {s t : State} (h : s.Moves t) : t.pending = s.pending :=
  (congrArg State.pending h.frame).trans rfl

/-! ### The Seat Map (R24 to R38) -/

@[simp] theorem State.joinLoop_pending (n : Nat) : (s.joinLoop n).pending = s.pending := by simp [State.joinLoop]

@[simp] theorem State.leaveLoop_pending (n : Nat) : (s.leaveLoop n).pending = s.pending := by simp [State.leaveLoop]

@[simp] theorem State.clearFault_pending (n : Nat) (x : Seat) : (s.clearFault n x).pending = s.pending := by
  unfold State.clearFault; split <;> simp

@[simp] theorem decideHallConfig_pending (a : HallConfigArgs) : (decideHallConfig a s).1.pending = s.pending := by
  simp [decideHallConfig, State.freshTakes]

@[simp] theorem decideSeatDefine_pending (n row col cls : Nat) : (decideSeatDefine n row col cls s).1.pending = s.pending := by
  unfold decideSeatDefine; cases s.seat n <;> simp

@[simp] theorem decideSeatRemove_pending (n : Nat) : (decideSeatRemove n s).1.pending = s.pending := by
  unfold decideSeatRemove; cases s.seat n <;> simp

@[simp] theorem decideSeatDefineAction_pending (n action row col cls : Nat) :
    (decideSeatDefineAction n action row col cls s).1.pending = s.pending := by
  unfold decideSeatDefineAction; split <;> simp

@[simp] theorem decideSeatState_pending (n action : Nat) : (decideSeatState n action s).1.pending = s.pending := by
  refine checked_pending rfl (checked_pending rfl ?_)
  split
  · rfl
  · split <;> simp

@[simp] theorem decideSeatRead_pending (sel place mode : Nat) : (decideSeatRead sel place mode s).1.pending = s.pending := by
  refine checked_pending rfl ?_
  split
  · simp
  · exact checked_pending rfl (by split <;> rfl)
  · rfl

/-! ### Candidates and papers (R8 to R22) -/

@[simp] theorem State.addCand_pending (i : Nat) (c : Cand) : (s.addCand i c).pending = s.pending := by
  unfold State.addCand; split <;> simp

@[simp] theorem decideCandAdd_pending (number slot allowance needs rest seat : Nat) :
    (decideCandAdd number slot allowance needs rest seat s).1.pending = s.pending := by
  refine checked_pending rfl (checked_pending rfl ?_)
  split
  · rfl
  refine checked_pending rfl ?_
  split
  · rfl
  refine checked_pending rfl ?_
  split
  · rfl
  · simp

@[simp] theorem decideCandRemove_pending (i : Nat) : (decideCandRemove i s).1.pending = s.pending := by
  unfold decideCandRemove; cases s.cand i <;> simp

@[simp] theorem candReadAnswer_pending (i : Nat) : (candReadAnswer i s).1.pending = s.pending := by
  unfold candReadAnswer; split <;> rfl

@[simp] theorem decideCandRead_pending (sel value : Nat) : (decideCandRead sel value s).1.pending = s.pending := by
  unfold decideCandRead
  split
  · simp
  · cases s.findNumber value <;> simp
  · simp

@[simp] theorem decideCandWatch_pending (i watch : Nat) : (decideCandWatch i watch s).1.pending = s.pending := by
  unfold decideCandWatch; cases s.cand i <;> simp

@[simp] theorem decidePaperDefine_pending (slot : Nat) (a : PaperArgs) : (decidePaperDefine slot a s).1.pending = s.pending := by
  unfold decidePaperDefine; cases s.paper slot <;> simp

@[simp] theorem decidePaperRead_pending (slot : Nat) : (decidePaperRead slot s).1.pending = s.pending := by
  unfold decidePaperRead; cases s.paper slot <;> simp

/-! ### The Collection Unit (R120 to R136) -/

@[simp] theorem State.findTarget_pending (slot : Nat) : (s.findTarget slot).1.pending = s.pending :=
  ((State.Collects.refl (P := fun _ => False) s).findTarget id).pending

@[simp] theorem State.settle_pending (slot : Nat) (x : CollCause) : (s.settle slot x).pending = s.pending :=
  ((State.Collects.refl (P := fun _ => False) s).settle id x).pending

@[simp] theorem State.setColl_pending (slot : Nat) (new : CollState) (x : CollCause) :
    (s.setColl slot new x).pending = s.pending :=
  ((State.Collects.refl (P := fun _ => False) s).setColl id new x).pending

@[simp] theorem State.startCollection_pending (slot : Nat) (x : CollCause) :
    (s.startCollection slot x).pending = s.pending :=
  ((State.Collects.refl (P := fun _ => False) s).startCollection id x).pending

@[simp] theorem State.skipTarget_pending (slot : Nat) (x : SkipReason) : (s.skipTarget slot x).pending = s.pending :=
  ((State.Collects.refl (P := fun _ => False) s).skipTarget id x).pending

@[simp] theorem State.postPassed_pending (slot : Nat) (ps : List Passed) : (s.postPassed slot ps).pending = s.pending := by
  obtain ⟨l, h⟩ := State.postPassed_link slot ps s
  rw [h]

@[simp] theorem State.recordScript_pending (i : Nat) (c : Cand) (f : EntryFlags) :
    (s.recordScript i c f).pending = s.pending := rfl

@[simp] theorem State.takeScript_pending (i : Nat) (how : Taking) (x : Cause) : (s.takeScript i how x).pending = s.pending := by
  unfold State.takeScript
  split
  · rfl
  next c _ =>
  split
  · rfl
  next p _ => cases p.coll.target.isSome && Decidable.decide (p.coll.target = c.seat) <;> simp

@[simp] theorem State.closeCollection_pending (slot : Nat) : (s.closeCollection slot).pending = s.pending := by
  simp [State.closeCollection]

@[simp] theorem decideCollectMark_pending (i : Nat) : (decideCollectMark i s).1.pending = s.pending := by
  refine checked_pending rfl ?_
  split
  · rfl
  · split <;> simp

@[simp] theorem decideCollectClose_pending (slot : Nat) : (decideCollectClose slot s).1.pending = s.pending := by
  unfold decideCollectClose; cases s.paper slot <;> simp

@[simp] theorem decideCollectionRead_pending (sel start : Nat) : (decideCollectionRead sel start s).1.pending = s.pending := by
  simp [decideCollectionRead]

/-! ### Starts, admissions and finishes (R70 to R87) -/

@[simp] theorem State.closePaper_pending (slot : Nat) : (s.closePaper slot).pending = s.pending := by
  simp [State.closePaper]

@[simp] theorem State.closeIfDone_pending (slot : Nat) (x : Cause) : (s.closeIfDone slot x).pending = s.pending := by
  simp [State.closeIfDone]

@[simp] theorem State.finishCand_pending (i : Nat) (r : FinishReason) (x : Cause) :
    (s.finishCand i r x).pending = s.pending := by
  unfold State.finishCand; split <;> simp

@[simp] theorem State.admitCand_pending (i : Nat) (x : Cause) : (s.admitCand i x).pending = s.pending := by
  unfold State.admitCand
  split
  · rfl
  split
  · rfl
  next p _ => cases p.state <;> simp

@[simp] theorem State.startRecords_pending (slot : Nat) (x : PaperCause) : (s.startRecords slot x).pending = s.pending := by
  unfold State.startRecords; split <;> simp

@[simp] theorem State.startPaper_pending (slot : Nat) (x : PaperCause) : (s.startPaper slot x).pending = s.pending := by
  simp [State.startPaper]

@[simp] theorem State.runScheduledStart_pending (slot : Nat) : (s.runScheduledStart slot).pending = s.pending := by
  simp [State.runScheduledStart]

@[simp] theorem State.scheduledRecords_pending : s.scheduledRecords.pending = s.pending :=
  s.foldl_pending (fun t slot => t.startRecords_pending slot .schedule) _

@[simp] theorem State.runScheduled_pending : s.runScheduled.pending = s.pending := by simp [State.runScheduled]

@[simp] theorem State.abandonRecords_pending (slot : Nat) (x : PaperCause) :
    (s.abandonRecords slot x).pending = s.pending := by
  unfold State.abandonRecords; split <;> simp

@[simp] theorem State.abandonPaper_pending (slot : Nat) : (s.abandonPaper slot).pending = s.pending := by
  simp [State.abandonPaper]

/-! ### Desk events and holds (R84, R88 to R96) -/

@[simp] theorem State.presentRise_pending (i : Nat) : (s.presentRise i).pending = s.pending := by
  unfold State.presentRise
  split
  · rfl
  split
  · simp
  · split <;> simp
  · simp

@[simp] theorem State.presentFall_pending (i : Nat) : (s.presentFall i).pending = s.pending := by
  unfold State.presentFall; split <;> simp

@[simp] theorem State.leaveRequest_pending (i : Nat) : (s.leaveRequest i).pending = s.pending := by
  unfold State.leaveRequest
  split
  · rfl
  split
  · rfl
  next c _ _ p _ => cases leaveRefusal s c p <;> simp

@[simp] theorem State.beginHold_pending (x : HoldCause) : (s.beginHold x).pending = s.pending := rfl

@[simp] theorem State.holdAsserted_pending : s.holdAsserted.pending = s.pending := by simp [State.holdAsserted]

theorem State.expired_pending (x : HoldCause) : (s.expired x).pending = s.pending := (s.expired_moves x).pending

@[simp] theorem State.expireHold_pending (x : HoldCause) : (s.expireHold x).pending = s.pending :=
  (s.expireHold_collects x).pending.trans (s.expired_pending x)

/-! ### The second event (R67, log 3) -/

@[simp] theorem State.tickCand_pending (i : Nat) : (s.tickCand i).pending = s.pending := (State.Moves.tickCand s i).pending

@[simp] theorem State.tickPaper_pending (slot : Nat) : (s.tickPaper slot).pending = s.pending := by
  unfold State.tickPaper
  split
  · rfl
  · split <;> simp [State.endReading, State.endBase]

@[simp] theorem State.tickRecords_pending : s.tickRecords.pending = s.pending := by
  rw [State.tickRecords, State.scheduledRecords_pending, State.foldl_pending _ State.tickPaper_pending,
    State.foldl_pending _ State.tickCand_pending]

theorem State.timed_pending : s.timed.pending = s.pending := by
  rw [State.timed, State.closeFinished, State.traceAll_pending, State.foldl_pending _ State.closePaper_pending,
    State.traceAllBy_pending, State.tickRecords_pending]

@[simp] theorem State.runSecond_pending : s.runSecond.pending = s.pending :=
  s.runSecond_collects.pending.trans s.timed_pending

@[simp] theorem State.secondEvent_pending : s.secondEvent.pending = s.pending := by
  unfold State.secondEvent
  split
  · simp [State.heldSecond]
  · simp

@[simp] theorem State.secondIf_pending (due : Bool) : (s.secondIf due).pending = s.pending := by simp [State.secondIf]

/-! ### The requests of the Session Timer (R68 to R95) -/

@[simp] theorem decideTimeSet_pending (n : Nat) : (decideTimeSet n s).1.pending = s.pending := by simp [decideTimeSet]

@[simp] theorem decidePaperStart_pending (slot : Nat) : (decidePaperStart slot s).1.pending = s.pending := by
  unfold decidePaperStart; cases s.paper slot <;> simp

@[simp] theorem decidePaperAbandon_pending (slot : Nat) : (decidePaperAbandon slot s).1.pending = s.pending := by
  unfold decidePaperAbandon; cases s.paper slot <;> simp

@[simp] theorem decideAdmit_pending (i : Nat) : (decideAdmit i s).1.pending = s.pending := by
  unfold decideAdmit; cases s.cand i <;> simp

@[simp] theorem decideFinish_pending (i : Nat) : (decideFinish i s).1.pending = s.pending := by
  unfold decideFinish; cases s.cand i <;> simp

@[simp] theorem decideHold_pending : (decideHold s).1.pending = s.pending := by
  unfold decideHold; cases s.hold <;> simp

@[simp] theorem decideResume_pending : (decideResume s).1.pending = s.pending := by
  unfold decideResume; cases s.hold <;> simp

/-! ### The Allocation Engine (R48 to R66) -/

@[simp] theorem State.endJob_pending (j : Job) (o : JobOutcome) (a g : Nat) : (s.endJob j o a g).pending = s.pending := by
  simp [State.endJob]

@[simp] theorem State.checkGeneral_pending (j : Job) : (s.checkGeneral j).pending = s.pending := by
  simp [State.checkGeneral, State.endGeneral]

@[simp] theorem State.checkPass_pending (j : Job) : (s.checkPass j).pending = s.pending := by
  unfold State.checkPass; split <;> simp

@[simp] theorem State.offer_pending (j : Job) (n : Nat) : (s.offer j n).pending = s.pending := by
  unfold State.offer; split <;> simp [State.occupy]

@[simp] theorem State.allocAdvance_pending : s.allocAdvance.pending = s.pending := by
  unfold State.allocAdvance
  split
  · rfl
  · dsimp only
    split <;> simp

@[simp] theorem State.dropCall_pending (n : Nat) : (s.dropCall n).pending = s.pending := by simp [State.dropCall]

@[simp] theorem decideAllocate_pending (slot : Nat) (w : SeatWalkArgs) (spill : Nat) :
    (decideAllocate slot w spill s).1.pending = s.pending := by
  unfold decideAllocate; cases s.paper slot <;> simp

@[simp] theorem decideAllocAbort_pending : (decideAllocAbort s).1.pending = s.pending := by
  unfold decideAllocAbort; cases s.job <;> simp

@[simp] theorem decideMove_pending (i n : Nat) : (decideMove i n s).1.pending = s.pending := by
  refine checked_pending rfl (checked_pending rfl ?_)
  split
  · rfl
  · rfl
  split
  · refine checked_pending rfl (checked_pending rfl ?_)
    split <;> simp [State.moveCand]
  · rfl

@[simp] theorem decideUnseat_pending (i : Nat) : (decideUnseat i s).1.pending = s.pending := by
  refine checked_pending rfl (checked_pending rfl ?_)
  split
  · rfl
  · split <;> simp

end Sys2Proof.Machine
end

section
/-! PROOF. The queue of waiting commands under the seat loop, the marking of sheets and the reader link (log 2). -/

namespace Sys2Proof.Machine

variable (s : State)

/-! ### Polls (R98 to R101) -/

@[simp] theorem State.seatPoll_pending : s.seatPoll.pending = s.pending := by
  unfold State.seatPoll; cases s.passList <;> simp [State.sendPoll]

@[simp] theorem State.closingPoll_pending : s.closingPoll.pending = s.pending := by
  unfold State.closingPoll
  cases s.sweep with
  | some n => simp [State.sendClosing]
  | none => cases s.closing <;> simp [State.sendClosing]

/-! ### Calls and the key (R111 to R115) -/

theorem State.forOccupant_pending (n : Nat) {f : Nat → State} (hf : ∀ i, (f i).pending = s.pending) :
    (s.forOccupant n f).pending = s.pending := by
  unfold State.forOccupant
  split
  · exact hf _
  · rfl

@[simp] theorem State.callRise_pending (n : Nat) : (s.callRise n).pending = s.pending := by
  unfold State.callRise
  split
  next r i _ _ => cases s.cand i <;> simp
  · rfl

@[simp] theorem State.endCall_pending (n : Nat) (b : Bool) (how : CallEnd) (x : Cause) :
    (s.endCall n b how x).pending = s.pending := by
  unfold State.endCall
  dsimp only
  split
  · split <;> simp
  · rfl

@[simp] theorem State.callFall_pending (n : Nat) : (s.callFall n).pending = s.pending := by
  unfold State.callFall; split <;> simp

@[simp] theorem State.clearStaleCall_pending (n : Nat) : (s.clearStaleCall n).pending = s.pending := by
  simp [State.clearStaleCall, State.forOccupant_pending]

@[simp] theorem State.keyPress_pending (n : Nat) : (s.keyPress n).pending = s.pending := by
  unfold State.keyPress
  split
  next r i _ _ => cases s.cand i <;> simp [State.answerCall, State.restStart, State.restStop]
  · rfl

/-! ### Replies (R102 to R109) -/

@[simp] theorem State.writePresent_pending (n : Nat) : (s.writePresent n).pending = s.pending :=
  s.forOccupant_pending n fun _ => s.modCand_pending ..

@[simp] theorem State.decodeEdges_pending (n : Nat) (old new : LoopRec) : (s.decodeEdges n old new).pending = s.pending := by
  simp [State.decodeEdges, State.forOccupant_pending]

@[simp] theorem State.enabledReply_pending (n : Nat) (r : LoopRec) (raw : RawInputs) :
    (s.enabledReply n r raw).pending = s.pending := by
  simp [State.enabledReply]

@[simp] theorem State.takeReply_pending (n : Nat) (raw : RawInputs) : (s.takeReply n raw).pending = s.pending := by
  unfold State.takeReply
  split
  · split <;> simp
  · rfl

@[simp] theorem State.faultSeat_pending (n : Nat) (x : Seat) : (s.faultSeat n x).pending = s.pending := by
  unfold State.faultSeat
  cases x.occupant with
  | none => cases s.targetOf n <;> simp
  | some i => cases s.targetOf n <;> simp only [State.skipTarget_pending] <;> split <;> simp

@[simp] theorem State.miss_pending (n : Nat) : (s.miss n).pending = s.pending := by
  unfold State.miss; split <;> simp

@[simp] theorem State.missedReply_pending : s.missedReply.pending = s.pending := by
  unfold State.missedReply; split <;> simp

@[simp] theorem State.goodReply_pending (b0 b1 b2 : Byte) : (s.goodReply b0 b1 b2).pending = s.pending := by
  unfold State.goodReply; split <;> simp

/-! ### Formats, keys, rescoring and results (R160 to R184) -/

@[simp] theorem State.continueRescore_pending (slot i n : Nat) : (s.continueRescore slot i n).pending = s.pending := by
  simp [State.continueRescore, State.endRescore]

@[simp] theorem State.rescoreStep_pending : s.rescoreStep.pending = s.pending := by
  unfold State.rescoreStep
  split
  · split <;> simp [State.endRescore]
  all_goals rfl

@[simp] theorem decideFormatLoad_pending (slot : Nat) (a : FormatArgs) : (decideFormatLoad slot a s).1.pending = s.pending := by
  unfold decideFormatLoad; cases s.paper slot <;> simp

@[simp] theorem decideFormatRead_pending (slot : Nat) : (decideFormatRead slot s).1.pending = s.pending := by
  unfold decideFormatRead; cases s.paper slot <;> simp

@[simp] theorem decideKeyLoad_pending (slot first : Nat) (l : List KeyEntryArgs) :
    (decideKeyLoad slot first l s).1.pending = s.pending := by
  refine checked_pending rfl ?_
  split
  · rfl
  · split <;> simp

@[simp] theorem decideKeyRead_pending (slot first n : Nat) : (decideKeyRead slot first n s).1.pending = s.pending := by
  refine checked_pending rfl ?_
  split
  · rfl
  · split <;> simp

@[simp] theorem decideRescore_pending (slot : Nat) : (decideRescore slot s).1.pending = s.pending := by
  unfold decideRescore; cases s.paper slot <;> simp

@[simp] theorem decideResultRead_pending (i : Nat) : (decideResultRead i s).1.pending = s.pending := by
  refine checked_pending rfl ?_
  split
  · rfl
  · exact checked_pending rfl (by split <;> rfl)

@[simp] theorem decideResponsesRead_pending (i : Nat) : (decideResponsesRead i s).1.pending = s.pending := by
  unfold decideResponsesRead; cases s.cand i <;> simp

/-! ### Sheet Records: spoiled, decided, lost (R144, R145, R152) -/

@[simp] theorem State.divertUnrecorded_pending (g : Nat) (r : Reason) : (s.divertUnrecorded g r).pending = s.pending := by
  simp [State.divertUnrecorded]

@[simp] theorem State.spoil_pending (e : Nat) (r : Spoil) : (s.spoil e r).pending = s.pending := by
  unfold State.spoil; split <;> simp

@[simp] theorem State.decideSheet_pending (e g : Nat) (d : Decision) (c : Option Decoded) (b : Bool) :
    (s.decideSheet e g d c b).pending = s.pending := rfl

@[simp] theorem State.closeLost_pending (e : Nat) (x : LostCause) (k : Option Stacker) :
    (s.closeLost e x k).pending = s.pending := by
  unfold State.closeLost
  split
  · rfl
  next x _ => cases s.lostCand x <;> simp

/-! ### A sheet arrives (R146, R149, R150) -/

@[simp] theorem State.openSheet_pending (e g : Nat) : (s.openSheet e g).pending = s.pending := by simp [State.openSheet]

@[simp] theorem State.beginSheet_pending (g : Nat) : (s.beginSheet g).pending = s.pending := by
  unfold State.beginSheet; split <;> simp

@[simp] theorem State.sheetBegin_pending (g : Nat) : (s.sheetBegin g).pending = s.pending := by
  unfold State.sheetBegin; cases s.sheetOf g <;> simp

@[simp] theorem State.countRow_pending (e : Nat) : (s.countRow e).pending = s.pending := rfl

@[simp] theorem State.takeSamples_pending (e : Nat) (x : SheetRec) (l : List Byte) :
    (s.takeSamples e x l).pending = s.pending := by
  unfold State.takeSamples; cases x.buffer <;> simp

@[simp] theorem State.takeRow_pending (g i : Nat) (l : List Byte) : (s.takeRow g i l).pending = s.pending := by
  unfold State.takeRow
  split
  · rfl
  · split <;> simp

@[simp] theorem State.store_pending (e b : Nat) : (s.store e b).pending = s.pending := rfl

@[simp] theorem State.endUnspoiled_pending (e : Nat) (x : SheetRec) (n : Nat) :
    (s.endUnspoiled e x n).pending = s.pending := by
  unfold State.endUnspoiled; cases x.buffer <;> simp

@[simp] theorem State.sheetEnd_pending (g n : Nat) : (s.sheetEnd g n).pending = s.pending := by
  unfold State.sheetEnd
  split
  · rfl
  next x _ => cases x.spoil <;> split <;> simp

@[simp] theorem State.sheetStored_pending : s.sheetStored.pending = s.pending := by
  unfold State.sheetStored
  split
  · rfl
  · split <;> simp

/-! ### The gate, the stackers and what stops the reader (R153 to R156) -/

@[simp] theorem State.atGate_pending (g : Nat) : (s.atGate g).pending = s.pending := by
  unfold State.atGate
  split
  · rfl
  · split <;> simp

@[simp] theorem State.commit_keeps_pending (g : Staged) : (s.commit g).pending = s.pending := by
  unfold State.commit; split <;> simp

@[simp] theorem State.closeSheet_pending (e : Nat) : (s.closeSheet e).pending = s.pending := by simp [State.closeSheet]

@[simp] theorem State.stackSheet_pending (e : Nat) (x : SheetRec) (k : Stacker) :
    (s.stackSheet e x k).pending = s.pending := by
  unfold State.stackSheet
  split
  · split
    · simp
    · split <;> simp
  · simp

@[simp] theorem State.stacked_pending (g n : Nat) : (s.stacked g n).pending = s.pending := by
  unfold State.stacked
  split
  · simp
  · split <;> simp

@[simp] theorem State.loseTag_pending (g : Nat) (x : LostCause) : (s.loseTag g x).pending = s.pending := by
  unfold State.loseTag; split <;> simp

@[simp] theorem State.clearReady_pending : s.clearReady.pending = s.pending := rfl

@[simp] theorem State.jam_pending (g : Nat) (tags : List Nat) : (s.jam g tags).pending = s.pending := by
  simp [State.jam, State.foldl_pending]

@[simp] theorem State.sendGeometry_pending : s.sendGeometry.pending = s.pending := by
  unfold State.sendGeometry; split <;> simp

@[simp] theorem State.readerReset_pending : s.readerReset.pending = s.pending := by
  simp [State.readerReset, State.foldl_pending]

@[simp] theorem State.readerReady_pending : s.readerReady.pending = s.pending := by simp [State.readerReady]

/-! ### Messages that have been sent, and the marker (R140 to R142, R151, R152, R172) -/

@[simp] theorem State.divertSent_pending : s.divertSent.pending = s.pending := by
  unfold State.divertSent
  split
  next d _ _ => cases d.entry <;> simp
  · rfl

@[simp] theorem State.geometrySent_pending : s.geometrySent.pending = s.pending := by
  unfold State.geometrySent; split <;> simp

@[simp] theorem State.feedSent_pending : s.feedSent.pending = s.pending := by
  unfold State.feedSent; split <;> simp

@[simp] theorem State.markerTake_pending : s.markerTake.pending = s.pending := by
  unfold State.markerTake
  split
  · split <;> simp
  · rfl

@[simp] theorem State.decideMarked_pending (j : MarkJob) (p : Paper) (f : Format) :
    (s.decideMarked j p f).pending = s.pending := by
  unfold State.decideMarked
  split
  · rfl
  · split <;> simp

@[simp] theorem State.endMarking_pending (j : MarkJob) : (s.endMarking j).pending = s.pending := by
  simp [State.endMarking]

@[simp] theorem State.markingEnd_pending : s.markingEnd.pending = s.pending := by
  unfold State.markingEnd
  split
  · split
    · simp
    · split <;> simp
  all_goals rfl

@[simp] theorem decideMarkBind_pending (slot : Nat) : (decideMarkBind slot s).1.pending = s.pending := by
  refine checked_pending rfl ?_
  split
  · rfl
  next p _ => cases p.format <;> simp [State.bind]

@[simp] theorem decideMarkUnbind_pending : (decideMarkUnbind s).1.pending = s.pending := by
  unfold decideMarkUnbind; cases s.reader.bound <;> simp

/-! ### Frames on the reader link (R138, R139) -/

@[simp] theorem State.readerMessage_pending (k g : Nat) (b : List Byte) : (s.readerMessage k g b).pending = s.pending := by
  unfold State.readerMessage; split <;> simp

@[simp] theorem State.readerFrame_pending (k g : Nat) (b : List Byte) : (s.readerFrame k g b).pending = s.pending := by
  simp [State.readerFrame]

@[simp] theorem State.discardReaderFrame_pending (got : List Byte) : (s.discardReaderFrame got).pending = s.pending := rfl

@[simp] theorem State.completeReaderFrame_pending (got : List Byte) : (s.completeReaderFrame got).pending = s.pending := by
  simp [State.completeReaderFrame]

@[simp] theorem State.readerByte_pending (b : Byte) : (s.readerByte b).pending = s.pending := by
  unfold State.readerByte; split <;> simp

@[simp] theorem State.readerBytes_pending (l : List Byte) : (s.readerBytes l).pending = s.pending :=
  s.foldl_pending State.readerByte_pending l

@[simp] theorem State.readerGap_pending : s.readerGap.pending = s.pending := by
  unfold State.readerGap; split <;> simp

end Sys2Proof.Machine
end

section
/-! PROOF. The queue of waiting commands under the host link, RESET and every command (R185 to R196, logs 2, 5 and 7). -/

namespace Sys2Proof.Machine

variable (s : State)

/-! ### Requests (R189) -/

@[simp] theorem decideSessionClear_pending : (decideSessionClear s).1.pending = s.pending := by
  unfold decideSessionClear; split <;> simp [State.cleared]

/-- The owner of a request leaves the queue, whichever it is. -/
@[simp] theorem decide_pending (r : Request) : (Machine.decide r s).1.pending = s.pending := by
  cases r <;> simp [Machine.decide, decideIdentify, decideStatus]

/-! ### The host link (R186 to R191) -/

@[simp] theorem State.takeRequest_pending (k g : Byte) (r : Request) : (s.takeRequest k g r).pending = s.pending := by
  simp [State.takeRequest]

@[simp] theorem State.takeFrame_pending (f : Frame) : (s.takeFrame f).pending = s.pending := by
  unfold State.takeFrame; split <;> simp

@[simp] theorem State.receiveFrame_pending (f : Frame) : (s.receiveFrame f).pending = s.pending := by
  simp [State.receiveFrame]

@[simp] theorem State.hostRequest_pending (g : Nat) (r : Request) : (s.hostRequest g r).pending = s.pending := by
  simp [State.hostRequest]

@[simp] theorem State.hostByte_pending (b : Byte) : (s.hostByte b).pending = s.pending := by
  unfold State.hostByte; split <;> simp [State.headerByte, State.bodyByte]

@[simp] theorem State.hostBytes_pending (l : List Byte) : (s.hostBytes l).pending = s.pending :=
  s.foldl_pending State.hostByte_pending l

@[simp] theorem State.breakFrame_pending : s.breakFrame.pending = s.pending := by
  unfold State.breakFrame; split <;> simp

@[simp] theorem State.replySent_pending : s.replySent.pending = s.pending := by
  unfold State.replySent
  split
  · cases s.link.waiting <;> simp
  all_goals rfl

@[simp] theorem State.noticeSent_pending : s.noticeSent.pending = s.pending := by
  unfold State.noticeSent; split <;> rfl

/-! ### Every command -/

/-- A command other than RESET answers a next state, with the queue that its effect leaves; with RESET low, the state itself
(logs 5 and 7). -/
theorem running_completes {f : State → State} (hf : ∀ t, (f t).pending = t.pending) :
    ∃ t, running f s = .next t ∧ t.pending = s.pending :=
  ⟨_, rfl, by simp [hf]⟩

/-- One of the labelled second events (log 3). -/
theorem running_secondIf_completes (due : State → Bool) :
    ∃ t, running (fun t => t.secondIf (due t)) s = .next t ∧ t.pending = s.pending :=
  running_completes s fun t => t.secondIf_pending (due t)

theorem exec_completes (c : Instr) : ∃ t, exec c s = .next t ∧ t.pending = s.pending := by
  cases c with
  | reset | resetAsserted => exact ⟨_, rfl, rfl⟩
  | secondEvent => exact running_completes s State.secondEvent_pending
  | readingEnd slot => exact running_secondIf_completes s (·.readingEndDue slot)
  | lateEntryClose slot => exact running_secondIf_completes s (·.lateCloseDue slot)
  | baseEnd slot => exact running_secondIf_completes s (·.baseEndDue slot)
  | limitReached i => exact running_secondIf_completes s (·.limitDue i)
  | restBudgetExhausted i => exact running_secondIf_completes s (·.restDue i)
  | awayLong i => exact running_secondIf_completes s (·.awayDue i)
  | holdExpired => exact running_secondIf_completes s State.expiryDue
  | collectTimeoutExpiry slot => exact running_secondIf_completes s (·.targetDue slot)
  | scheduledStart slot => exact running_secondIf_completes s (·.scheduleDue slot)
  | holdLineAsserted => exact running_completes s State.holdAsserted_pending
  | holdLineReleased => exact running_completes s fun _ => rfl
  | hostFrameReceived bytes => exact running_completes s fun t => t.hostBytes_pending bytes
  | hostGapTimeout bytes => exact running_completes s (f := fun t => (t.hostBytes bytes).breakFrame) (by simp)
  | hostFrameDiscarded bytes badStop =>
    exact running_completes s (f := fun t => if badStop then (t.hostBytes bytes).breakFrame else t.hostBytes bytes) (by simp)
  | replySent => exact running_completes s State.replySent_pending
  | noticeSent => exact running_completes s State.noticeSent_pending
  | allocAdvance => exact running_completes s State.allocAdvance_pending
  | rescoreStep => exact running_completes s State.rescoreStep_pending
  | seatPoll => exact running_completes s State.seatPoll_pending
  | closingPoll => exact running_completes s State.closingPoll_pending
  | goodReply b0 b1 b2 => exact running_completes s fun t => t.goodReply_pending b0 b1 b2
  | missedReply => exact running_completes s State.missedReply_pending
  | readerFrameReceived | readerLengthAbove200 => exact running_completes s fun t => t.readerBytes_pending _
  | readerGapTimeout bytes => exact running_completes s (f := fun t => (t.readerBytes bytes).readerGap) (by simp)
  | sheetBegin tag => exact running_completes s fun t => t.sheetBegin_pending tag
  | row => exact running_completes s fun t => t.takeRow_pending ..
  | sheetEnd => exact running_completes s fun t => t.sheetEnd_pending ..
  | sheetStored => exact running_completes s State.sheetStored_pending
  | atGate tag => exact running_completes s fun t => t.atGate_pending tag
  | stacked => exact running_completes s fun t => t.stacked_pending ..
  | jam => exact running_completes s fun t => t.jam_pending ..
  | readerReady => exact running_completes s State.readerReady_pending
  | readerReset => exact running_completes s State.readerReset_pending
  | divertSent => exact running_completes s State.divertSent_pending
  | geometrySent => exact running_completes s State.geometrySent_pending
  | feedSent => exact running_completes s State.feedSent_pending
  | markerTake => exact running_completes s State.markerTake_pending
  | markingEnd => exact running_completes s State.markingEnd_pending
  | _ => exact running_completes s fun t => t.hostRequest_pending ..

end Sys2Proof.Machine

section
open Sys2Proof.Machine

/-- Settles O2: every operation of the model leaves the queue, and so does every command, each of which answers a next state. -/
theorem everyCommandCompletes : Obligations.EveryCommandCompletes := fun c s => exec_completes s c

end
end
